-- ==== Sys2Proof/Word.lean ====
section
/-! DEFINITION. The byte, the smallest unit of the BL-24's station port, line bus and sensor port. -/

namespace Sys2Proof

/-- One byte of a line frame, a station port exchange or a sensor transaction. -/
abbrev Byte := BitVec 8

end Sys2Proof
end

