-- ==== Sys2Proof/Machine/Bytes.lean ====
section
/-! DEFINITION. Byte order (R152) and the line frame check (R136). -/

namespace Sys2Proof.Machine

/-- A number as `k` bytes, most significant byte first (R152). -/
def be : Nat → Nat → List Byte
  | 0, _ => []
  | k + 1, v => BitVec.ofNat 8 (v / 256 ^ k) :: be k v

/-- The number that bytes spell, most significant byte first (R152). -/
def fromBE (bs : List Byte) : Nat :=
  bs.foldl (fun acc b => acc * 256 + b.toNat) 0

/-- One byte, for codes, counts and indices. -/
def byte (v : Nat) : Byte := BitVec.ofNat 8 v

/-- A flag as a number. -/
def bit (b : Bool) : Nat := if b then 1 else 0

/-- A byte made of flags, bit 0 first; the bits no table names are 0 (log 43). -/
def packBits : List Bool → Nat
  | [] => 0
  | b :: bs => bit b + 2 * packBits bs

/-- `k` bytes of a stretch in two's complement (R152). -/
def beSigned (k : Nat) (v : Int) : List Byte := be k (v % (256 ^ k : Nat)).toNat

/-- The signed number two bytes spell (R152). -/
def signed16 (v : Nat) : Int := if v < 32768 then (v : Int) else (v : Int) - 65536

/-- One bit of the check: polynomial x^16 + x^12 + x^5 + 1 (R136). -/
def crcShift (crc : BitVec 16) : BitVec 16 :=
  if crc.msb then (crc <<< 1) ^^^ 0x1021#16 else crc <<< 1

/-- One byte of the check, taken most significant bit first (R136). -/
def crcByte (crc : BitVec 16) (b : Byte) : BitVec 16 :=
  (List.range 8).foldl (fun c _ => crcShift c) (crc ^^^ (b.zeroExtend 16 <<< 8))

/-- The check over header and payload bytes: initial value all ones, no inversion (R136). -/
def crc (bs : List Byte) : BitVec 16 := bs.foldl crcByte 0xFFFF#16

/-- The two check bytes, the more significant first (R136). -/
def checkBytes (bs : List Byte) : List Byte := be 2 (crc bs).toNat

/-- The ten bits of a byte on the line, in the order sent: start bit 0 (dominant), data least
significant bit first, stop bit 1 (recessive) (R135). -/
def lineBits (b : Byte) : List Bool :=
  false :: ((List.range 8).map fun i => b.getLsbD i) ++ [true]

end Sys2Proof.Machine
end

