-- ==== Sys2Proof/Config.lean ====
section
/-! DEFINITION. Fixed limits of the part, and the one free value of the model. -/

namespace Sys2Proof.Config

/-- Greatest length or position in millimetres: 4,294,967,295 (R5, R23). -/
def maxLength : Nat := 4294967295
/-- Greatest segment number (R20). -/
def maxSegment : Nat := 16777215
/-- Limit at which the skip count holds (R23). -/
def maxSkip : Nat := 16777214
/-- Limit of 16-bit quantities that hold: dwell, reading counts, timers, speed (R6, R7, R23). -/
def max16 : Nat := 65535
/-- Records in the window (R24). -/
def windowCapacity : Nat := 48
/-- Open span marks (R48). -/
def markCapacity : Nat := 8
/-- Entries of a record's mark list (R46). -/
def markListCapacity : Nat := 4
/-- Entries of a record's stretch trail (R65). -/
def trailCapacity : Nat := 6
/-- Arrivals in the arrival queue (R72). -/
def arrivalCapacity : Nat := 8
/-- Entries in the beam log (R82). -/
def logCapacity : Nat := 32
/-- Frames in the outbound queue (R139). -/
def outboundCapacity : Nat := 16
/-- Roster entries besides the self entry: 24 less 1 (R121). -/
def otherEntries : Nat := 23
/-- Collisions at which a frame is abandoned (R143). -/
def collisionLimit : Nat := 16
/-- Reverse debt beyond which REVERSE_EXCESS is recorded, mm (R4). -/
def reverseExcess : Nat := 2000
/-- Time after which a reference speed becomes absent, ms (R10). -/
def referenceAbsence : Nat := 2000
/-- Silence after which a roster entry becomes SILENT, ms (R124). -/
def silence : Nat := 1000
/-- Length of JOINING, ms (R147). -/
def joinTime : Nat := 600
/-- STATUS period, ms (R145). -/
def statusTime : Nat := 250
/-- Vote time, ms (R100). -/
def voteTime : Nat := 300
/-- Life of a proposal view, ms (R99). -/
def viewTime : Nat := 500
/-- Speed interval, ms (R6). -/
def speedInterval : Nat := 100
/-- Period of derived advance, ms (R11). -/
def derivedPeriod : Nat := 10
/-- Recessive bit times after which the line is idle (R135). -/
def idleRun : Nat := 10
/-- Busy count beyond which the line is jammed, bit times (R144). -/
def jamLimit : Nat := 2020

/-- FREE VALUE (log 5). The byte found in a field of an image whose content is absent, where no
layout of the spec states the byte: applied to the use (a count kept in State) and the place. -/
opaque absentByte : Nat → Nat → Byte

end Sys2Proof.Config
end

