-- ==== Sys2Proof/Syntax.lean ====
section
/-! DEFINITION. The commands of the BL-24 (one constructor of `Instr` per row of the opcode table)
and the data they carry: codes of Table 8-6, the content of a segment record, line frame payloads. -/

namespace Sys2Proof

/-- Line views (Table 5-1, codes in Table 8-6). -/
inductive View
  | unknown | trip | standstill | creep | run
  deriving DecidableEq, Repr

/-- Station roles (Table I-2). -/
inductive Role
  | origin | path | terminal
  deriving DecidableEq, Repr

/-- Content states of a record (R21). -/
inductive Content
  | pending | filled | provisional
  deriving DecidableEq, Repr

/-- Mark kinds (Table 3-1). -/
inductive MarkKind
  | stop | trip | operatorSpan | knot | lease | cut | operator
  deriving DecidableEq, Repr

/-- Source of a STOP or TRIP announcement (5.3): LOCAL, FAULT, RELAY. -/
inductive Source
  | localRequest | fault | relay
  deriving DecidableEq, Repr

/-- Hold reasons in the order of Table 5-4. -/
inductive HoldReason
  | busy | stale | tripUnacknowledged | localHold | length | action
  deriving DecidableEq, Repr

/-- Fault classes (11.5). -/
inductive FaultClass
  | correctable | degraded | fatal
  deriving DecidableEq, Repr

/-- Fault kinds in the code order of Table 11-4. -/
inductive FaultKind
  | frameCheck | frameMalformed | collision | handoffDuplicate | handoffStale | sensorInvalid
  | boundaryLate | numberSkip | windowCoalesce | arrivalOverrun | handoffDropped | frameDropped
  | rosterFull | orderConflict | neighbourLost | encoderLost | reverseExcess | markEvicted
  | marksOverflow | sensorFailed | logOverrun | transmitAbandoned | creelConflict
  | duplicateStation | lineJam
  deriving DecidableEq, Repr

/-- An entry of a record's mark list (R46); `offset` is 0 for span kinds (R153). -/
structure MarkEntry where
  kind : MarkKind
  id : Nat
  station : Nat
  offset : Nat
  deriving DecidableEq, Repr

/-- An entry of a stretch trail (R65): station and stretch in 0.01 %, or absent. -/
structure TrailEntry where
  station : Nat
  stretch : Option Int
  deriving DecidableEq, Repr

/-- A PICKUP, MOISTURE or TENSION reading of a record: last value and reading count (Table 2-1). -/
structure Reading where
  value : Nat
  count : Nat
  deriving DecidableEq, Repr

/-- What a segment record holds that travels in HANDOFF and into the beam log (Table 2-1 less the
local fields; the content block of Table 8-8). `flags` has the bits of Table 8-6, `summary` has bit
(kind code - 1) for each mark kind. -/
structure Body where
  first : Nat
  last : Nat
  content : Content
  nominal : Option Nat
  origin : Option Nat
  beamSet : Nat
  flags : BitVec 16
  skip : Nat
  marks : List MarkEntry
  summary : BitVec 8
  trail : List TrailEntry
  pickup : Option Reading
  moisture : Option Reading
  tension : Option Reading
  dwell : Nat
  deriving DecidableEq, Repr

/-- A station's descriptor (Table 7-1). -/
structure Descriptor where
  role : Role
  order : Nat
  reach : Nat
  entryGap : Nat
  startRight : Bool
  deriving DecidableEq, Repr

/-- STATUS payload (Table 8-7). -/
structure StatusPayload where
  view : View
  number : Nat
  speed : Nat
  newest : Nat
  descriptor : Descriptor
  deriving DecidableEq, Repr

/-- HANDOFF payload (R153): the next nominal and the content block. -/
structure HandoffPayload where
  nextNominal : Option Nat
  body : Body
  deriving DecidableEq, Repr

/-- STOP and TRIP payload (Table 8-7). -/
structure AnnouncePayload where
  number : Nat
  source : Source
  detail : Nat
  deriving DecidableEq, Repr

/-- The id of a proposal: station number and local proposal count (R96). -/
structure ProposalId where
  station : Nat
  count : Nat
  deriving DecidableEq, Repr

/-- PROPOSE payload (Table 8-7). -/
structure ProposePayload where
  id : ProposalId
  base : Nat
  target : View
  deriving DecidableEq, Repr

/-- HOLD payload (Table 8-7). -/
structure HoldPayload where
  id : ProposalId
  reason : HoldReason
  deriving DecidableEq, Repr

/-- ENACT payload (Table 8-7). -/
structure EnactPayload where
  id : ProposalId
  base : Nat
  number : Nat
  target : View
  deriving DecidableEq, Repr

/-- FAULT payload (Table 8-7). -/
structure FaultPayload where
  cls : FaultClass
  kind : FaultKind
  deriving DecidableEq, Repr

/-- A line frame without sender and check: its kind and its payload (Table 8-5). -/
inductive Frame
  | status (p : StatusPayload)
  | handoff (p : HandoffPayload)
  | stop (p : AnnouncePayload)
  | trip (p : AnnouncePayload)
  | propose (p : ProposePayload)
  | assent (id : ProposalId)
  | hold (p : HoldPayload)
  | enact (p : EnactPayload)
  | fault (p : FaultPayload)
  deriving DecidableEq, Repr

/-- The levels of ENC_A and ENC_B that power-on reset samples (R16). -/
structure EncoderLevels where
  a : Bool
  b : Bool
  deriving DecidableEq, Repr

/-- The commands. Station port requests carry their argument bytes (R154); events of the line, the
encoder, the sensors and the timers carry what the block sees of them. -/
inductive Instr
  /-- RESET_N asserted or power applied; the levels of ENC_A and ENC_B sampled (R16, R180). `held` tells
  that RESET_N stays asserted behind the command (log 42). -/
  | powerOnReset (enc : EncoderLevels) (held : Bool)
  | configure (args : List Byte)
  | start (args : List Byte)
  | restart (args : List Byte)
  | readStatus (args : List Byte)
  | readWindow (args : List Byte)
  | readRoster (args : List Byte)
  | readLog (args : List Byte)
  | readFaults (args : List Byte)
  | clearFaults (args : List Byte)
  | postMark (args : List Byte)
  | openMark (args : List Byte)
  | closeMark (args : List Byte)
  | announceStop (args : List Byte)
  | announceTrip (args : List Byte)
  | propose (args : List Byte)
  | setHold (args : List Byte)
  | clearHold (args : List Byte)
  | ackTrip (args : List Byte)
  | setParticipation (args : List Byte)
  | returnToEncoder (args : List Byte)
  | sensorMode (args : List Byte)
  | sensorTransact (args : List Byte)
  | sensorRead (args : List Byte)
  | counterSelect (args : List Byte)
  | counterRead (args : List Byte)
  | freeze (args : List Byte)
  | thaw (args : List Byte)
  | readNotices (args : List Byte)
  | clearNotices (args : List Byte)
  | setNoticeMask (args : List Byte)
  /-- A request whose kind byte is not in Table 8-10. -/
  | unknownRequest (kind : Byte) (args : List Byte)
  /-- The levels of ENC_A and ENC_B after a change (R1). -/
  | quadratureChange (encA encB : Bool)
  | stall
  | derivedAdvance
  | referenceAbsent
  | speedIntervalEnd
  | receiveStatus (sender : Nat) (p : StatusPayload)
  | receiveHandoff (sender : Nat) (p : HandoffPayload)
  | receiveStop (sender : Nat) (p : AnnouncePayload)
  | receiveTrip (sender : Nat) (p : AnnouncePayload)
  | receivePropose (sender : Nat) (p : ProposePayload)
  | receiveAssent (sender : Nat) (id : ProposalId)
  | receiveHold (sender : Nat) (p : HoldPayload)
  | receiveEnact (sender : Nat) (p : EnactPayload)
  | receiveFault (sender : Nat) (p : FaultPayload)
  /-- All bytes received until the line was idle again, and the index of the first byte whose stop
  bit was dominant, if any (R137). -/
  | frameDiscarded (bytes : List Byte) (badStop : Option Nat)
  | entrySilent (station : Nat)
  | transmitBegin
  | transmitComplete
  | collision
  | lineJam
  | statusTimer
  | joinTimerExpiry
  | voteTimeout
  | proposalViewTimeout
  | standstillSecond
  | pollTimerExpiry (channel : Nat)
  /-- The levels SSDI gives at up to 64 rising edges of SSCK, the first the most significant bit:
  a transaction of r reply bytes takes the first 8 r of them (R159). -/
  | transactionComplete (ssdi : BitVec 64)
  | timeBaseMillisecond
  deriving DecidableEq, Repr

end Sys2Proof
end

