-- ==== Sys2Proof/Machine/Codes.lean ====
section
/-! DEFINITION. The codes of Table 8-5, Table 8-6, Table 11-3 and Table 11-4, both ways, and the
classes of fault kinds and frames. -/

namespace Sys2Proof

/-- View codes (Table 8-6). -/
def View.code : View → Nat
  | .unknown => 0 | .trip => 1 | .standstill => 2 | .creep => 3 | .run => 4

/-- The view of a code (Table 8-6). -/
def View.ofCode? : Nat → Option View
  | 0 => some .unknown | 1 => some .trip | 2 => some .standstill | 3 => some .creep
  | 4 => some .run | _ => none

/-- The rank of a view: TRIP lowest, then STANDSTILL, CREEP, RUN (R88). UNKNOWN has no rank and is
never compared. -/
def View.rank : View → Nat
  | .unknown => 0 | .trip => 1 | .standstill => 2 | .creep => 3 | .run => 4

/-- CREEP or RUN: the line is moving (R7). -/
def View.moving : View → Bool
  | .creep => true | .run => true | _ => false

/-- STANDSTILL or TRIP: the line stands (R107). -/
def View.standing : View → Bool
  | .standstill => true | .trip => true | _ => false

/-- Role codes (Table 8-6). -/
def Role.code : Role → Nat
  | .origin => 1 | .path => 2 | .terminal => 3

/-- The role of a code (Table 8-6). -/
def Role.ofCode? : Nat → Option Role
  | 1 => some .origin | 2 => some .path | 3 => some .terminal | _ => none

/-- Content state codes (Table 8-6). -/
def Content.code : Content → Nat
  | .pending => 0 | .filled => 1 | .provisional => 2

/-- The content state of a code (Table 8-6). -/
def Content.ofCode? : Nat → Option Content
  | 0 => some .pending | 1 => some .filled | 2 => some .provisional | _ => none

/-- Mark kind codes (Table 8-6). -/
def MarkKind.code : MarkKind → Nat
  | .stop => 1 | .trip => 2 | .operatorSpan => 3 | .knot => 4 | .lease => 5 | .cut => 6
  | .operator => 7

/-- The mark kind of a code (Table 8-6). -/
def MarkKind.ofCode? : Nat → Option MarkKind
  | 1 => some .stop | 2 => some .trip | 3 => some .operatorSpan | 4 => some .knot
  | 5 => some .lease | 6 => some .cut | 7 => some .operator | _ => none

/-- STOP and TRIP marks, which do not nest (R49). -/
def MarkKind.stopOrTrip : MarkKind → Bool
  | .stop => true | .trip => true | _ => false

/-- Span kinds (Table 3-1). -/
def MarkKind.span : MarkKind → Bool
  | .stop => true | .trip => true | .operatorSpan => true | _ => false

/-- Announcement source codes (Table 8-6). -/
def Source.code : Source → Nat
  | .localRequest => 1 | .fault => 2 | .relay => 3

/-- The announcement source of a code (Table 8-6). -/
def Source.ofCode? : Nat → Option Source
  | 1 => some .localRequest | 2 => some .fault | 3 => some .relay | _ => none

/-- Hold reason codes (Table 8-6). -/
def HoldReason.code : HoldReason → Nat
  | .busy => 1 | .stale => 2 | .tripUnacknowledged => 3 | .localHold => 4 | .length => 5
  | .action => 6

/-- The hold reason of a code (Table 8-6). -/
def HoldReason.ofCode? : Nat → Option HoldReason
  | 1 => some .busy | 2 => some .stale | 3 => some .tripUnacknowledged | 4 => some .localHold
  | 5 => some .length | 6 => some .action | _ => none

/-- Fault class codes (Table 8-6). -/
def FaultClass.code : FaultClass → Nat
  | .correctable => 1 | .degraded => 2 | .fatal => 3

/-- The fault class of a code (Table 8-6). -/
def FaultClass.ofCode? : Nat → Option FaultClass
  | 1 => some .correctable | 2 => some .degraded | 3 => some .fatal | _ => none

/-- Every fault kind, in code order (Table 11-4). -/
def FaultKind.all : List FaultKind :=
  [.frameCheck, .frameMalformed, .collision, .handoffDuplicate, .handoffStale, .sensorInvalid,
   .boundaryLate, .numberSkip, .windowCoalesce, .arrivalOverrun, .handoffDropped, .frameDropped,
   .rosterFull, .orderConflict, .neighbourLost, .encoderLost, .reverseExcess, .markEvicted,
   .marksOverflow, .sensorFailed, .logOverrun, .transmitAbandoned, .creelConflict,
   .duplicateStation, .lineJam]

/-- Fault kind codes (Table 11-4). -/
def FaultKind.code : FaultKind → Nat
  | .frameCheck => 1 | .frameMalformed => 2 | .collision => 3 | .handoffDuplicate => 4
  | .handoffStale => 5 | .sensorInvalid => 6
  | .boundaryLate => 16 | .numberSkip => 17 | .windowCoalesce => 18 | .arrivalOverrun => 19
  | .handoffDropped => 20 | .frameDropped => 21 | .rosterFull => 22 | .orderConflict => 23
  | .neighbourLost => 24 | .encoderLost => 25 | .reverseExcess => 26 | .markEvicted => 27
  | .marksOverflow => 28 | .sensorFailed => 29 | .logOverrun => 30 | .transmitAbandoned => 31
  | .creelConflict => 32
  | .duplicateStation => 48 | .lineJam => 49

/-- The fault kind of a code (Table 11-4). -/
def FaultKind.ofCode? (c : Nat) : Option FaultKind := FaultKind.all.find? (fun k => k.code == c)

/-- The place of a kind in code order (Table 11-4, R185). -/
def FaultKind.index (k : FaultKind) : Nat := FaultKind.all.idxOf k

/-- The DEGRADED kinds, whose escalation bit is the code less 16 (Table 11-4). -/
def FaultKind.escalates (k : FaultKind) : Bool := decide (16 ≤ k.code) && decide (k.code ≤ 32)

/-- The class of a fault kind (Table 11-4) at a station with the given fallback enable and
escalation set (R183). -/
def FaultKind.classOf (fallback : Bool) (escalation : BitVec 32) (k : FaultKind) : FaultClass :=
  if k.code < 16 then .correctable
  else if 48 ≤ k.code then .fatal
  else if k = .encoderLost ∧ fallback = false then .fatal
  else if escalation.getLsbD (k.code - 16) then .fatal
  else .degraded

/-- Frame kind codes (Table 8-5). -/
def Frame.kindCode : Frame → Nat
  | .status _ => 1 | .handoff _ => 2 | .stop _ => 3 | .trip _ => 4 | .propose _ => 5
  | .assent _ => 6 | .hold _ => 7 | .enact _ => 8 | .fault _ => 9

/-- Frame classes (Table 8-2, Table 8-5). -/
def Frame.cls : Frame → Nat
  | .stop _ => 0 | .trip _ => 0
  | .propose _ => 1 | .assent _ => 1 | .hold _ => 1 | .enact _ => 1
  | .handoff _ => 2
  | .status _ => 3 | .fault _ => 3

/-- The gap of a class at a station, in bit times after the line becomes idle (Table 8-2). -/
def gapOf (cls station : Nat) : Nat := 8 + 32 * cls + station

/-- The request kind codes of Table 8-10. -/
def requestKinds : List Nat :=
  [0x01, 0x02, 0x03, 0x10, 0x11, 0x12, 0x13, 0x14, 0x15, 0x20, 0x21, 0x22, 0x30, 0x31, 0x32, 0x33,
   0x34, 0x35, 0x40, 0x41, 0x50, 0x51, 0x52, 0x60, 0x61, 0x62, 0x63, 0x70, 0x71, 0x72]

end Sys2Proof
end

