-- ==== Sys2Proof/Machine/Frames.lean ====
section
/-! DEFINITION. Line frames byte by byte: payload layouts (Table 8-7, Table 8-8, R153), the ranges of
their fields (R152), the frame with header and check (R136), and the judging of a received frame
(R137). -/

namespace Sys2Proof.Machine

/-- Station numbers run from 1 to 31. -/
def stationOk (s : Nat) : Bool := decide (1 ≤ s) && decide (s ≤ 31)

/-- 16-bit quantities: event numbers, ids, speeds, dwell (R152). -/
def word16Ok (v : Nat) : Bool := decide (v ≤ 65535)

/-- Segment numbers run from 1 to 16,777,215 (R20). -/
def segmentOk (s : Nat) : Bool := decide (1 ≤ s) && decide (s ≤ Config.maxSegment)

/-- Successor of a segment number (R20). -/
def segSucc (n : Nat) : Nat := if n = Config.maxSegment then 1 else n + 1

/-- Forward distance from `b` to `a`: the successor steps from `b` to `a` (R20). -/
def segDist (b a : Nat) : Nat := if b ≤ a then a - b else a + Config.maxSegment - b

/-- `a` is newer than `b` (R20). -/
def segNewer (a b : Nat) : Bool := decide (1 ≤ segDist b a) && decide (segDist b a ≤ 8388607)

/-- `a` is older than `b`: `b` is newer than `a` (R20). -/
def segOlder (a b : Nat) : Bool := segNewer b a

/-- "Not older": newer or equal (R20). -/
def segNotOlder (a b : Nat) : Bool := segNewer a b || decide (a = b)

/-- The newer of two segment numbers. -/
def segNewest (a b : Nat) : Nat := if segNewer b a then b else a

/-- Two ranges hold a number in common (R20). -/
def rangesOverlap (a b c d : Nat) : Bool :=
  decide (segDist a c ≤ segDist a b) || decide (segDist c a ≤ segDist c d)

/-- Ranges of a descriptor's fields (Table 7-1). -/
def descriptorOk (d : Descriptor) : Bool :=
  decide (1 ≤ d.order) && decide (d.order ≤ 63) && decide (1000 ≤ d.reach) &&
  decide (d.reach ≤ 200000) && decide (d.entryGap ≤ 50000)

/-- Ranges of a mark entry's fields (R46); a span kind's offset is 0 (R153, log 10). -/
def markEntryOk (m : MarkEntry) : Bool :=
  word16Ok m.id && stationOk m.station && decide (m.offset ≤ Config.maxLength) &&
  (!m.kind.span || decide (m.offset = 0))

/-- Ranges of a trail entry's fields (Table 2-1). -/
def trailEntryOk (t : TrailEntry) : Bool :=
  stationOk t.station &&
  (match t.stretch with
   | none => true
   | some v => decide (-32768 ≤ v) && decide (v ≤ 32767))

/-- Ranges of a reading (Table 2-1). -/
def readingOk : Option Reading → Bool
  | none => true
  | some r => word16Ok r.value && decide (1 ≤ r.count) && decide (r.count ≤ 65535)

/-- Range of a nominal length: absent, or 1 to 4,294,967,295 mm (Table 2-1). -/
def nominalOk : Option Nat → Bool
  | none => true
  | some v => decide (1 ≤ v) && decide (v ≤ Config.maxLength)

/-- Range of an origin length (Table 2-1). -/
def originOk : Option Nat → Bool
  | none => true
  | some v => decide (v ≤ Config.maxLength)

/-- A content block that may travel in HANDOFF: its fields in their ranges (Table 2-1), the first
number not newer than the last (R152), the content state not PENDING (R153), flags and summary
within Table 8-6. -/
def bodyOk (b : Body) : Bool :=
  segmentOk b.first && segmentOk b.last && segNotOlder b.last b.first &&
  decide (b.content ≠ .pending) && nominalOk b.nominal && originOk b.origin &&
  word16Ok b.beamSet && decide (b.flags.toNat < 8192) && decide (b.skip ≤ Config.maxSkip) &&
  decide (b.marks.length ≤ Config.markListCapacity) && b.marks.all markEntryOk &&
  decide (b.summary.toNat < 128) &&
  decide (b.trail.length ≤ Config.trailCapacity) && b.trail.all trailEntryOk &&
  readingOk b.pickup && readingOk b.moisture && readingOk b.tension && word16Ok b.dwell

/-- Range of an id of a proposal (R96). -/
def proposalIdOk (i : ProposalId) : Bool := stationOk i.station && decide (i.count ≤ 255)

/-- A target a PROPOSE or ENACT may name (R152). -/
def targetOk (v : View) : Bool := decide (v = .standstill) || v.moving

/-- The detail of an announcement: a cause code for LOCAL, a fault kind code for FAULT, a station
number for RELAY (5.3, log 10). -/
def detailOk (s : Source) (d : Nat) : Bool :=
  match s with
  | .localRequest => decide (d ≤ 255)
  | .fault => (FaultKind.ofCode? d).isSome
  | .relay => stationOk d

/-- Every field of the frame lies in its range and codes (R137, R152, R153). -/
def frameOk : Frame → Bool
  | .status p => decide (p.view ≠ .unknown) && word16Ok p.number && word16Ok p.speed &&
      decide (p.newest ≤ Config.maxSegment) && descriptorOk p.descriptor
  | .handoff p => nominalOk p.nextNominal && bodyOk p.body
  | .stop p => word16Ok p.number && detailOk p.source p.detail
  | .trip p => word16Ok p.number && detailOk p.source p.detail
  | .propose p => proposalIdOk p.id && word16Ok p.base && targetOk p.target
  | .assent i => proposalIdOk i
  | .hold p => proposalIdOk p.id
  | .enact p => proposalIdOk p.id && word16Ok p.base && word16Ok p.number && targetOk p.target
  | .fault _ => true

/-- Descriptor bytes, as STATUS bytes 8 to 15 (Table 8-7). -/
def descriptorBytes (d : Descriptor) : List Byte :=
  be 1 d.role.code ++ be 1 d.order ++ be 3 d.reach ++ be 2 d.entryGap ++ be 1 (bit d.startRight)

/-- A reading's four bytes, zero when absent (Table 8-8). -/
def readingBytes : Option Reading → List Byte
  | none => be 4 0
  | some r => be 2 r.value ++ be 2 r.count

/-- A mark entry's eight bytes (R153). -/
def markEntryBytes (m : MarkEntry) : List Byte :=
  be 1 m.kind.code ++ be 2 m.id ++ be 1 m.station ++ be 4 m.offset

/-- A trail entry's three bytes: bit 7 of the first shows an absent stretch (R153). -/
def trailEntryBytes (t : TrailEntry) : List Byte :=
  match t.stretch with
  | none => be 1 (t.station + 128) ++ be 2 0
  | some v => be 1 t.station ++ beSigned 2 v

/-- The presence byte of a content block (Table 8-8). -/
def presence (b : Body) : Nat :=
  packBits [b.origin.isSome, b.pickup.isSome, b.moisture.isSome, b.tension.isSome]

/-- The content block of a record (Table 8-8). `fill` gives the origin length bytes when it is
absent, which no layout states (log 5). -/
def contentBlock (fill : List Byte) (b : Body) : List Byte :=
  be 3 b.first ++ be 3 b.last ++ be 1 b.content.code ++ be 1 (presence b) ++ be 2 b.flags.toNat ++
  be 4 (b.nominal.getD 0) ++ (match b.origin with | some v => be 4 v | none => fill) ++
  be 2 b.beamSet ++ be 3 b.skip ++ be 2 b.dwell ++ be 1 b.summary.toNat ++
  be 1 (16 * b.marks.length + b.trail.length) ++
  readingBytes b.pickup ++ readingBytes b.moisture ++ readingBytes b.tension ++
  b.marks.flatMap markEntryBytes ++ b.trail.flatMap trailEntryBytes

/-- The two bytes of a proposal's id. -/
def idBytes (i : ProposalId) : List Byte := be 1 i.station ++ be 1 i.count

/-- The payload of a frame (Table 8-7, R153). -/
def payloadBytes (fill : List Byte) : Frame → List Byte
  | .status p => be 1 p.view.code ++ be 2 p.number ++ be 2 p.speed ++ be 3 p.newest ++
      descriptorBytes p.descriptor
  | .handoff p => be 4 (p.nextNominal.getD 0) ++ contentBlock fill p.body
  | .stop p => be 2 p.number ++ be 1 p.source.code ++ be 1 p.detail
  | .trip p => be 2 p.number ++ be 1 p.source.code ++ be 1 p.detail
  | .propose p => idBytes p.id ++ be 2 p.base ++ be 1 p.target.code
  | .assent i => idBytes i
  | .hold p => idBytes p.id ++ be 1 p.reason.code
  | .enact p => idBytes p.id ++ be 2 p.base ++ be 2 p.number ++ be 1 p.target.code
  | .fault p => be 1 p.cls.code ++ be 1 p.kind.code

/-- Header and payload of a frame as the Line Bus Interface of `station` sends it (R136). -/
def headedBytes (station : Nat) (fill : List Byte) (f : Frame) : List Byte :=
  be 1 station ++ be 1 f.kindCode ++ be 1 (payloadBytes fill f).length ++ payloadBytes fill f

/-- A frame on the line: header, payload and check (R136). -/
def frameBytes (station : Nat) (fill : List Byte) (f : Frame) : List Byte :=
  headedBytes station fill f ++ checkBytes (headedBytes station fill f)

/-- The bytes of `bs` from `i` onward, `k` of them, as a number. -/
def fieldAt (bs : List Byte) (i k : Nat) : Nat := fromBE ((bs.drop i).take k)

/-- A length field in which 0 means absent (R152). -/
def optLength (v : Nat) : Option Nat := if v = 0 then none else some v

/-- Reads a descriptor at `i`; a rights bit other than START is outside the codes (log 10). -/
def parseDescriptor (bs : List Byte) (i : Nat) : Option Descriptor := do
  let role ← Role.ofCode? (fieldAt bs i 1)
  let rights := fieldAt bs (i + 7) 1
  guard (rights ≤ 1)
  pure { role := role, order := fieldAt bs (i + 1) 1, reach := fieldAt bs (i + 2) 3,
         entryGap := fieldAt bs (i + 5) 2, startRight := rights == 1 }

/-- Reads one of the three readings: zero when absent (Table 8-8, log 10). -/
def parseReading (present : Bool) (bs : List Byte) (i : Nat) : Option (Option Reading) :=
  if present then some (some { value := fieldAt bs i 2, count := fieldAt bs (i + 2) 2 })
  else if fieldAt bs i 4 = 0 then some none else none

/-- Reads `n` mark entries from `i` onward (R153). -/
def parseMarks : Nat → List Byte → Nat → Option (List MarkEntry)
  | 0, _, _ => some []
  | n + 1, bs, i => do
    let kind ← MarkKind.ofCode? (fieldAt bs i 1)
    let rest ← parseMarks n bs (i + 8)
    pure ({ kind := kind, id := fieldAt bs (i + 1) 2, station := fieldAt bs (i + 3) 1,
            offset := fieldAt bs (i + 4) 4 } :: rest)

/-- Reads `n` trail entries from `i` onward (R153); bits 5 and 6 of the station byte are outside the
codes (log 10). -/
def parseTrail : Nat → List Byte → Nat → Option (List TrailEntry)
  | 0, _, _ => some []
  | n + 1, bs, i => do
    let s := fieldAt bs i 1
    let v := fieldAt bs (i + 1) 2
    let rest ← parseTrail n bs (i + 3)
    guard (s % 128 < 32)
    if 128 ≤ s then
      guard (v = 0)
      pure ({ station := s % 128, stretch := none } :: rest)
    else
      pure ({ station := s, stretch := some (signed16 v) } :: rest)

/-- Reads a HANDOFF payload (R153, Table 8-8). -/
def parseHandoff (bs : List Byte) : Option HandoffPayload := do
  let c := bs.drop 4
  let content ← Content.ofCode? (fieldAt c 6 1)
  let pres := fieldAt c 7 1
  let counts := fieldAt c 26 1
  let nm := counts / 16
  let nt := counts % 16
  guard (pres < 16 ∧ nm ≤ Config.markListCapacity ∧ nt ≤ Config.trailCapacity ∧
    bs.length = 43 + 8 * nm + 3 * nt)
  let pickup ← parseReading (pres.testBit 1) c 27
  let moisture ← parseReading (pres.testBit 2) c 31
  let tension ← parseReading (pres.testBit 3) c 35
  let marks ← parseMarks nm c 39
  let trail ← parseTrail nt c (39 + 8 * nm)
  pure { nextNominal := optLength (fieldAt bs 0 4)
         body := { first := fieldAt c 0 3, last := fieldAt c 3 3, content := content
                   nominal := optLength (fieldAt c 10 4)
                   origin := if pres.testBit 0 then some (fieldAt c 14 4) else none
                   beamSet := fieldAt c 18 2, flags := BitVec.ofNat 16 (fieldAt c 8 2)
                   skip := fieldAt c 20 3, marks := marks
                   summary := BitVec.ofNat 8 (fieldAt c 25 1), trail := trail
                   pickup := pickup, moisture := moisture, tension := tension
                   dwell := fieldAt c 23 2 } }

/-- Reads a STOP or TRIP payload (Table 8-7). -/
def parseAnnounce (bs : List Byte) : Option AnnouncePayload := do
  let source ← Source.ofCode? (fieldAt bs 2 1)
  pure { number := fieldAt bs 0 2, source := source, detail := fieldAt bs 3 1 }

/-- Reads a proposal's id at the head of a payload. -/
def parseId (bs : List Byte) : ProposalId := { station := fieldAt bs 0 1, count := fieldAt bs 1 1 }

/-- Reads a payload by the kind's code: none when the kind is not one of Table 8-5, the length is
wrong for it, or a coded field holds no code (R137). -/
def parsePayload (kind : Nat) (bs : List Byte) : Option Frame :=
  match kind, bs.length with
  | 1, 16 => do
    let view ← View.ofCode? (fieldAt bs 0 1)
    let d ← parseDescriptor bs 8
    pure (.status { view := view, number := fieldAt bs 1 2, speed := fieldAt bs 3 2,
                    newest := fieldAt bs 5 3, descriptor := d })
  | 2, _ => (parseHandoff bs).map .handoff
  | 3, 4 => (parseAnnounce bs).map .stop
  | 4, 4 => (parseAnnounce bs).map .trip
  | 5, 5 => do
    let target ← View.ofCode? (fieldAt bs 4 1)
    pure (.propose { id := parseId bs, base := fieldAt bs 2 2, target := target })
  | 6, 2 => some (.assent (parseId bs))
  | 7, 3 => do
    let reason ← HoldReason.ofCode? (fieldAt bs 2 1)
    pure (.hold { id := parseId bs, reason := reason })
  | 8, 7 => do
    let target ← View.ofCode? (fieldAt bs 6 1)
    pure (.enact { id := parseId bs, base := fieldAt bs 2 2, number := fieldAt bs 4 2,
                   target := target })
  | 9, 2 => do
    let cls ← FaultClass.ofCode? (fieldAt bs 0 1)
    let kind ← FaultKind.ofCode? (fieldAt bs 1 1)
    pure (.fault { cls := cls, kind := kind })
  | _, _ => none

/-- The judgement of a received frame (R137). -/
inductive Judgement
  | checkFail
  | malformed
  | good (sender : Nat) (f : Frame)
  deriving DecidableEq, Repr

/-- Judges header and payload once the check is good (R137, R152). -/
def judgeContent (sender kind : Nat) (payload : List Byte) : Judgement :=
  match parsePayload kind payload with
  | some f => if stationOk sender && frameOk f then .good sender f else .malformed
  | none => .malformed

/-- Judges the bytes received until the line was idle again; `badStop` is the first byte whose stop
bit was dominant (R137). A payload length above 96 stops reception as soon as the header is in. The
model's choice: a header byte with a dominant stop bit is FRAME_CHECK whatever length it spells (log 37). -/
def judge (bs : List Byte) (badStop : Option Nat) : Judgement :=
  let headerBad := match badStop with | some i => decide (i < 3) | none => false
  if headerBad || decide (bs.length < 3) then .checkFail
  else if 96 < fieldAt bs 2 1 then .malformed
  else if badStop.isSome || decide (bs.length ≠ fieldAt bs 2 1 + 5) then .checkFail
  else if checkBytes (bs.take (fieldAt bs 2 1 + 3)) ≠ bs.drop (fieldAt bs 2 1 + 3) then .checkFail
  else judgeContent (fieldAt bs 0 1) (fieldAt bs 1 1) ((bs.drop 3).take (fieldAt bs 2 1))

end Sys2Proof.Machine
end

