-- ==== Sys2Proof/WellFormed.lean ====
section
/-! DEFINITION. Which commands make sense as written: a request's arguments fit its length byte, an
unknown request's kind is not in Table 8-10, a received frame is good, a discarded one is not, a
station or channel number names one. The meanings are total; on an ill-formed command they do what
the assumption log says (logs 8, 10, 11, 28). -/

namespace Sys2Proof

/-- A request's argument bytes are counted by one length byte (R154). -/
def argsOk (args : List Byte) : Bool := decide (args.length ≤ 255)

/-- A frame that passes the receive checks comes from a station number and has its fields in their
ranges (R137, R152). -/
def receivedOk (sender : Nat) (f : Frame) : Bool := Machine.stationOk sender && Machine.frameOk f

/-- A discarded frame fails the receive checks (R137). -/
def discardedOk (bytes : List Byte) (badStop : Option Nat) : Bool :=
  match Machine.judge bytes badStop with
  | .good _ _ => false
  | _ => true

/-- The checks on a command. -/
def Instr.wellFormed : Instr → Bool
  | .powerOnReset _ _ => true
  | .configure args => argsOk args
  | .start args => argsOk args
  | .restart args => argsOk args
  | .readStatus args => argsOk args
  | .readWindow args => argsOk args
  | .readRoster args => argsOk args
  | .readLog args => argsOk args
  | .readFaults args => argsOk args
  | .clearFaults args => argsOk args
  | .postMark args => argsOk args
  | .openMark args => argsOk args
  | .closeMark args => argsOk args
  | .announceStop args => argsOk args
  | .announceTrip args => argsOk args
  | .propose args => argsOk args
  | .setHold args => argsOk args
  | .clearHold args => argsOk args
  | .ackTrip args => argsOk args
  | .setParticipation args => argsOk args
  | .returnToEncoder args => argsOk args
  | .sensorMode args => argsOk args
  | .sensorTransact args => argsOk args
  | .sensorRead args => argsOk args
  | .counterSelect args => argsOk args
  | .counterRead args => argsOk args
  | .freeze args => argsOk args
  | .thaw args => argsOk args
  | .readNotices args => argsOk args
  | .clearNotices args => argsOk args
  | .setNoticeMask args => argsOk args
  | .unknownRequest kind args =>
      argsOk args && decide (kind.toNat ≠ 0) && !(requestKinds.contains kind.toNat)
  | .quadratureChange _ _ => true
  | .stall => true
  | .derivedAdvance => true
  | .referenceAbsent => true
  | .speedIntervalEnd => true
  | .receiveStatus sender p => receivedOk sender (.status p)
  | .receiveHandoff sender p => receivedOk sender (.handoff p)
  | .receiveStop sender p => receivedOk sender (.stop p)
  | .receiveTrip sender p => receivedOk sender (.trip p)
  | .receivePropose sender p => receivedOk sender (.propose p)
  | .receiveAssent sender i => receivedOk sender (.assent i)
  | .receiveHold sender p => receivedOk sender (.hold p)
  | .receiveEnact sender p => receivedOk sender (.enact p)
  | .receiveFault sender p => receivedOk sender (.fault p)
  | .frameDiscarded bytes badStop => discardedOk bytes badStop
  | .entrySilent station => Machine.stationOk station
  | .transmitBegin => true
  | .transmitComplete => true
  | .collision => true
  | .lineJam => true
  | .statusTimer => true
  | .joinTimerExpiry => true
  | .voteTimeout => true
  | .proposalViewTimeout => true
  | .standstillSecond => true
  | .pollTimerExpiry channel => decide (channel < 4)
  | .transactionComplete _ => true
  | .timeBaseMillisecond => true

end Sys2Proof
end

