-- ==== Sys2Proof/Decode.lean ====
section
/-! DEFINITION. The host's entry `decodeTableWord` (no row of the opcode table gives bits, so it
answers none), and how a frame of the station port spells a request (R154, R175, R176). -/

namespace Sys2Proof

/-- The command a table word spells: no row of spec/opcode_table.json gives bits. -/
def decodeTableWord (_nbits _w : Nat) : Option Instr := none

/-- The request of a kind byte with its argument bytes (Table 8-10). -/
def requestOf (kind : Nat) (args : List Byte) : Option Instr :=
  match kind with
  | 0x01 => some (.configure args)
  | 0x02 => some (.start args)
  | 0x03 => some (.restart args)
  | 0x10 => some (.readStatus args)
  | 0x11 => some (.readWindow args)
  | 0x12 => some (.readRoster args)
  | 0x13 => some (.readLog args)
  | 0x14 => some (.readFaults args)
  | 0x15 => some (.clearFaults args)
  | 0x20 => some (.postMark args)
  | 0x21 => some (.openMark args)
  | 0x22 => some (.closeMark args)
  | 0x30 => some (.announceStop args)
  | 0x31 => some (.announceTrip args)
  | 0x32 => some (.propose args)
  | 0x33 => some (.setHold args)
  | 0x34 => some (.clearHold args)
  | 0x35 => some (.ackTrip args)
  | 0x40 => some (.setParticipation args)
  | 0x41 => some (.returnToEncoder args)
  | 0x50 => some (.sensorMode args)
  | 0x51 => some (.sensorTransact args)
  | 0x52 => some (.sensorRead args)
  | 0x60 => some (.counterSelect args)
  | 0x61 => some (.counterRead args)
  | 0x62 => some (.freeze args)
  | 0x63 => some (.thaw args)
  | 0x70 => some (.readNotices args)
  | 0x71 => some (.clearNotices args)
  | 0x72 => some (.setNoticeMask args)
  | _ => none

/-- The request a station port frame carries at the negation of CS_N, given the bytes shifted in
(R175, R176): none when the first byte is 0x00 or the frame ends before the request is complete;
bytes beyond the request are ignored; a kind not in Table 8-10 is an unknown request. -/
def portRequest (bytes : List Byte) : Option Instr :=
  match bytes with
  | kind :: len :: rest =>
    if kind = 0 then none
    else if rest.length < len.toNat then none
    else
      match requestOf kind.toNat (rest.take len.toNat) with
      | some c => some c
      | none => some (.unknownRequest kind (rest.take len.toNat))
  | _ => none

end Sys2Proof
end

