-- ==== Sys2Proof/Machine/State.lean ====
section
/-! DEFINITION. The state of one BL-24: one record per block (Table I-1), the queue of waiting
commands, the reasons a step can stop, and the state after reset. Plain data throughout. -/

namespace Sys2Proof.Machine

/-- A fault of the MODEL, at which a run stops. The spec's own faults (11.5) are events of the Fault
Unit and stop nothing, and every command has an effect in every state, so there is no such fault. -/
inductive Fault
  deriving DecidableEq, Repr

/-- A refusal of the MODEL. -/
inductive Refusal
  /-- Answered by an arm of `exec` for a command without a meaning; no arm answers it. Safe. -/
  | notModelled (mnemonic : String)
  deriving DecidableEq, Repr

/-- Four like things, numbered 0 to 3: action lines, sensor channels, counters. -/
structure Quad (α : Type) where
  q0 : α
  q1 : α
  q2 : α
  q3 : α
  deriving DecidableEq, Repr

/-- The settings of one action line as the record holds them (Table 6-2, Table 11-2). -/
structure ActionConfig where
  condition : Nat
  parameter : Nat
  polarity : Nat
  latch : Nat
  holdsStart : Nat
  deriving DecidableEq, Repr

/-- The settings of one sensor channel as the record holds them (Table 9-1, Table 11-2); `command`
is the eight command bytes. -/
structure ChannelConfig where
  enable : Nat
  quantity : Nat
  position : Nat
  interval : Nat
  commandSize : Nat
  command : List Byte
  replySize : Nat
  valueOffset : Nat
  low : Nat
  high : Nat
  required : Nat
  deriving DecidableEq, Repr

/-- The configuration record, field by field as CONFIGURE wrote it, unjudged (Table 11-2, R177). -/
structure ConfigRecord where
  station : Nat
  role : Nat
  order : Nat
  reach : Nat
  entryGap : Nat
  markPoint : Nat
  spanStart : Nat
  spanEnd : Nat
  segmentLength : Nat
  lateMargin : Nat
  m : Nat
  p : Nat
  fallback : Nat
  stallTime : Nat
  neighbourMode : Nat
  forcedNeighbour : Nat
  referenceMode : Nat
  referenceStation : Nat
  startRight : Nat
  bitRate : Nat
  markTail : Nat
  dwell1 : Nat
  dwell2 : Nat
  lines : Quad ActionConfig
  channels : Quad ChannelConfig
  escalation : BitVec 32
  enables : BitVec 8
  deriving DecidableEq, Repr

/-- Length sources (R8). -/
inductive LengthSource
  | encoder | derived
  deriving DecidableEq, Repr

/-- State of the Length Unit (Table 1-1), with the phases of its 100 ms and 10 ms periods. -/
structure LengthUnit where
  tracking : Nat
  fraction : Nat
  debt : Nat
  source : LengthSource
  stalled : Bool
  stallTimer : Nat
  speed : Nat
  speedSum : Nat
  reference : Option Nat
  absenceTimer : Nat
  remainder : Nat
  lostFlag : Bool
  resumedFlag : Bool
  quadA : Bool
  quadB : Bool
  speedPhase : Nat
  derivedPhase : Nat
  deriving DecidableEq, Repr

/-- A closed record of the window (Table 2-1). -/
structure ClosedRecord where
  body : Body
  head : Nat
  tail : Nat
  deriving DecidableEq, Repr

/-- The entering record of the window (Table 2-1). -/
structure EnteringRecord where
  body : Body
  head : Nat
  expectFrom : Nat
  expected : Option Nat
  deriving DecidableEq, Repr

/-- The window (R24): the closed records, oldest first, and the newest record, which is entering. -/
structure Window where
  closed : List ClosedRecord
  entering : Option EnteringRecord
  deriving DecidableEq, Repr

/-- The close countdown of an open span mark (R48). -/
inductive Countdown
  | held
  | running (mm : Nat)
  | noCountdown
  deriving DecidableEq, Repr

/-- An entry of the open span mark table (R48). -/
structure SpanMark where
  kind : MarkKind
  id : Nat
  countdown : Countdown
  opening : Nat
  frontier : Nat
  deriving DecidableEq, Repr

/-- State of the Mark Unit (R48, R61): the table, oldest open first, and the beam set. -/
structure MarkUnit where
  table : List SpanMark
  beamSet : Nat
  deriving DecidableEq, Repr

/-- An arrival (R71). -/
structure Arrival where
  body : Body
  nextNominal : Option Nat
  bridged : Bool
  due : Nat
  deriving DecidableEq, Repr

/-- A beam log entry (R82). -/
structure LogEntry where
  body : Body
  localLength : Nat
  exitLength : Nat
  beam : Nat
  deriving DecidableEq, Repr

/-- State of the Handover Engine (Table 4-1). -/
structure Handover where
  neighbour : Option Nat
  gap : Nat
  allowance : Nat
  bridging : Bool
  arrivals : List Arrival
  log : List LogEntry
  beam : Nat
  deriving DecidableEq, Repr

/-- Where an own proposal stands (5.4): its PROPOSE waits, or the answers are counted. -/
inductive ProposalPhase
  | queued
  | voting (electorate assents : List Nat) (timer : Nat)
  deriving DecidableEq, Repr

/-- The own proposal (Table 5-1). -/
structure OwnProposal where
  id : ProposalId
  base : Nat
  target : View
  phase : ProposalPhase
  deriving DecidableEq, Repr

/-- The own ENACT while PENDING (R102). -/
structure OwnEnact where
  id : ProposalId
  number : Nat
  deriving DecidableEq, Repr

/-- The fate of an own ENACT (R103). -/
inductive EnactFate
  | pending | sent | lost
  deriving DecidableEq, Repr

/-- How an own proposal ended (R103). -/
inductive ProposalEnd
  | enacted (fate : EnactFate)
  | denied (reason : HoldReason) (sender : Nat)
  | timedOut
  | abandoned
  deriving DecidableEq, Repr

/-- The last own outcome (R103). -/
structure LastOutcome where
  id : ProposalId
  outcome : ProposalEnd
  deriving DecidableEq, Repr

/-- The proposal view (R98). -/
structure ProposalView where
  id : ProposalId
  base : Nat
  target : View
  timer : Nat
  deriving DecidableEq, Repr

/-- The last announcement adopted (R91); `trip` tells TRIP from STOP. -/
structure Announcement where
  trip : Bool
  sender : Nat
  number : Nat
  source : Source
  detail : Nat
  deriving DecidableEq, Repr

/-- State of the Line State Unit (Table 5-1). -/
structure LineState where
  view : View
  number : Nat
  own : Option OwnProposal
  enact : Option OwnEnact
  lastOutcome : Option LastOutcome
  proposalView : Option ProposalView
  proposalCount : Nat
  hold : Bool
  tripUnack : Bool
  lastAnnouncement : Option Announcement
  deriving DecidableEq, Repr

/-- One action line (Table 6-1). -/
structure ActionLine where
  latch : Bool
  asserted : Bool
  deriving DecidableEq, Repr

/-- State of the Protection Unit (Table 6-1). `wired` is the level the station's own wiring gives an
undriven ACT pin, an input of the part (R115, log 6). -/
structure Protection where
  timer : Nat
  phase : Nat
  running : Bool
  lines : Quad ActionLine
  driven : Bool
  wired : Quad Bool
  deriving DecidableEq, Repr

/-- A roster entry other than the self entry (Table 7-1). -/
structure RosterEntry where
  station : Nat
  descriptor : Option Descriptor
  present : Bool
  age : Nat
  lastView : Option (View × Nat)
  speed : Option Nat
  newest : Nat
  lastFault : Option FaultPayload
  deriving DecidableEq, Repr

/-- State of the Roster (R121, R122). The self entry is not stored: it is computed from the
configuration and the other blocks while the part is configured. -/
structure Roster where
  others : List RosterEntry
  highest : Option Nat
  upstream : Option Nat
  reference : Option Nat
  deriving DecidableEq, Repr

/-- Participation states (8.6). -/
inductive Participation
  | unconfigured | joining | active | listen | withdrawing | offline
  deriving DecidableEq, Repr

/-- A frame of the outbound queue (R139, R141). Its class and offering block follow from the frame. -/
structure QueuedFrame where
  frame : Frame
  collisions : Nat
  inTransmission : Bool
  withdrawn : Bool
  ofWithdrawal : Bool
  deriving DecidableEq, Repr

/-- The line as the Line Bus Interface follows it, bit time by bit time (R135, R137, R143); true is
dominant. `others` is an input: the levels the other stations give the line in the bit times to come,
recessive after its end (log 9). `lrx` is the level at LRX in the last bit time, `recessive` the bit times
since the last dominant level, held at 10, at which the line is idle. `heard` holds the levels since the
line was last idle, newest first, while a frame is received. `driven` counts the bits of the own frame
driven, `clash` tells that one was read back different. `phase` counts the bit times of the millisecond
that runs, the model's own. -/
structure LineTap where
  others : List Bool
  lrx : Bool
  recessive : Nat
  heard : List Bool
  driven : Nat
  clash : Bool
  phase : Nat
  deriving DecidableEq, Repr

/-- State of the Line Bus Interface (Table 8-1), with the LDE pin, the bytes driven on LTX and the line
as it is followed. -/
structure LineBus where
  participation : Participation
  queue : List QueuedFrame
  idleCount : Nat
  busyCount : Nat
  joinTimer : Nat
  joinRunning : Bool
  statusTimer : Nat
  statusRunning : Bool
  lde : Bool
  ltx : List Byte
  tap : LineTap
  deriving DecidableEq, Repr

/-- Sensor port modes (9.4). -/
inductive SensorMode
  | auto | manual
  deriving DecidableEq, Repr

/-- A sensor transaction in progress (R159). -/
structure Transaction where
  manual : Bool
  select : Nat
  command : List Byte
  replyCount : Nat
  deriving DecidableEq, Repr

/-- State of one sensor channel (Table 9-2). -/
structure Channel where
  timer : Nat
  due : Bool
  invalid : Nat
  failed : Bool
  last : Option Nat
  out : Bool
  valid : Nat
  deriving DecidableEq, Repr

/-- The manual reply buffer (R165). -/
structure ManualReply where
  select : Nat
  bytes : List Byte
  deriving DecidableEq, Repr

/-- State of the Sensor Port (Table 9-2). -/
structure SensorPort where
  mode : SensorMode
  request : Option SensorMode
  transaction : Option Transaction
  channels : Quad Channel
  outBuffer : List Byte
  reply : Option ManualReply
  deriving DecidableEq, Repr

/-- Counter modes (R169). -/
inductive CounterMode
  | occurrences | time | length | amount
  deriving DecidableEq, Repr

/-- One monitor counter (Table 10-1). -/
structure Counter where
  value : Nat
  code : Nat
  mask : BitVec 16
  mode : CounterMode
  overflow : Bool
  lastCondition : Bool
  deriving DecidableEq, Repr

/-- State of the Monitor Counters (Table 10-1). -/
structure Counters where
  cells : Quad Counter
  frozen : Bool
  deriving DecidableEq, Repr

/-- State of the Station Port besides the configuration record (R175, R181, R182). `held` tells that
RESET_N is asserted (R180, log 42). -/
structure StationPort where
  response : Option (List Byte)
  notices : BitVec 16
  mask : BitVec 16
  held : Bool
  deriving DecidableEq, Repr

/-- The first-fatal record (R184). -/
structure FirstFatal where
  kind : FaultKind
  tracking : Nat
  view : View
  participation : Participation
  deriving DecidableEq, Repr

/-- A fault reported to the Fault Unit and not yet taken; `silent` marks the FRAME_DROPPED that makes
no FAULT frame of its own (R140). -/
structure FaultReport where
  kind : FaultKind
  silent : Bool
  deriving DecidableEq, Repr

/-- State of the Fault Unit (R180, R183 to R185); `counts` follows the code order of Table 11-4.
`reported` is empty between commands. -/
structure FaultUnit where
  counts : List Nat
  firstFatal : Option FirstFatal
  escalation : BitVec 32
  enables : BitVec 8
  reported : List FaultReport
  deriving DecidableEq, Repr

/-- The part: its twelve blocks (Table I-1). `turns` says which block goes first where the spec gives
no order (log 4); `freeUses` numbers the uses of the free bytes (log 5); `baseDue` tells that a
millisecond of the time base has passed and its event is still to happen (log 2); the three are the
model's own. -/
structure Node where
  config : ConfigRecord
  len : LengthUnit
  window : Window
  marks : MarkUnit
  handover : Handover
  line : LineState
  prot : Protection
  roster : Roster
  bus : LineBus
  sensor : SensorPort
  counters : Counters
  port : StationPort
  faults : FaultUnit
  turns : List Nat
  freeUses : Nat
  baseDue : Bool
  deriving DecidableEq, Repr

/-- The state: the part, and the commands that wait, first in first out. -/
structure State where
  node : Node
  pending : List Instr
  deriving DecidableEq, Repr

/-- Four equal things. -/
def Quad.same {α : Type} (a : α) : Quad α := { q0 := a, q1 := a, q2 := a, q3 := a }

/-- A configuration record of zeros (R180). -/
def ConfigRecord.zeros : ConfigRecord :=
  { station := 0, role := 0, order := 0, reach := 0, entryGap := 0, markPoint := 0, spanStart := 0,
    spanEnd := 0, segmentLength := 0, lateMargin := 0, m := 0, p := 0, fallback := 0, stallTime := 0,
    neighbourMode := 0, forcedNeighbour := 0, referenceMode := 0, referenceStation := 0,
    startRight := 0, bitRate := 0, markTail := 0, dwell1 := 0, dwell2 := 0,
    lines := Quad.same { condition := 0, parameter := 0, polarity := 0, latch := 0, holdsStart := 0 },
    channels := Quad.same
      { enable := 0, quantity := 0, position := 0, interval := 0, commandSize := 0,
        command := List.replicate 8 0, replySize := 0, valueOffset := 0, low := 0, high := 0,
        required := 0 },
    escalation := 0, enables := 0 }

/-- The Length Unit after power-on reset with the encoder at levels `a`, `b` (Table 1-1, R16). -/
def LengthUnit.initial (a b : Bool) : LengthUnit :=
  { tracking := 0, fraction := 0, debt := 0, source := .encoder, stalled := false, stallTimer := 0,
    speed := 0, speedSum := 0, reference := none, absenceTimer := 0, remainder := 0,
    lostFlag := false, resumedFlag := false, quadA := a, quadB := b, speedPhase := 0,
    derivedPhase := 0 }

/-- The empty window (R25). -/
def Window.empty : Window := { closed := [], entering := none }

/-- The Mark Unit after power-on reset, START and RESTART (R48, R61). -/
def MarkUnit.initial : MarkUnit := { table := [], beamSet := 0 }

/-- The Handover Engine with the given gap in force (Table 4-1, R63). -/
def Handover.initial (gap : Nat) : Handover :=
  { neighbour := none, gap := gap, allowance := 0, bridging := false, arrivals := [], log := [],
    beam := 1 }

/-- The Line State Unit after power-on reset, START and RESTART (Table 5-1, R85). -/
def LineState.initial : LineState :=
  { view := .unknown, number := 0, own := none, enact := none, lastOutcome := none,
    proposalView := none, proposalCount := 0, hold := false, tripUnack := false,
    lastAnnouncement := none }

/-- The Protection Unit after power-on reset (Table 6-1, R109, R119). -/
def Protection.initial (driven : Bool) (wired : Quad Bool) : Protection :=
  { timer := 0, phase := 0, running := false,
    lines := Quad.same { latch := false, asserted := false }, driven := driven, wired := wired }

/-- The Roster without other entries, choices or learned number (R122). -/
def Roster.initial : Roster := { others := [], highest := none, upstream := none, reference := none }

/-- The line before any bit time of it has been followed, as it is before START; `others` is the input (R151, log 9). -/
def LineTap.initial (others : List Bool) : LineTap :=
  { others := others, lrx := false, recessive := 0, heard := [], driven := 0, clash := false, phase := 0 }

/-- The Line Bus Interface with an empty queue, the counts at 0 and LDE negated, on the line `tap`
(Table 8-1, R151). -/
def LineBus.initial (p : Participation) (joinRunning : Bool) (tap : LineTap) : LineBus :=
  { participation := p, queue := [], idleCount := 0, busyCount := 0, joinTimer := 0,
    joinRunning := joinRunning, statusTimer := 0, statusRunning := false, lde := false, ltx := [],
    tap := tap }

/-- A sensor channel's starting values (Table 9-2). -/
def Channel.initial (due : Bool) : Channel :=
  { timer := 0, due := due, invalid := 0, failed := false, last := none, out := false, valid := 0 }

/-- The Sensor Port in AUTO with the given channels (Table 9-2, R157). -/
def SensorPort.initial (channels : Quad Channel) : SensorPort :=
  { mode := .auto, request := none, transaction := none, channels := channels, outBuffer := [],
    reply := none }

/-- A counter after power-on reset (R168). -/
def Counter.initial : Counter :=
  { value := 0, code := 0, mask := 0, mode := .occurrences, overflow := false,
    lastCondition := false }

/-- The Monitor Counters after power-on reset (R168). -/
def Counters.initial : Counters := { cells := Quad.same Counter.initial, frozen := false }

/-- The Station Port after power-on reset, RESET_N still asserted or not (R180). -/
def StationPort.initial (held : Bool) : StationPort :=
  { response := none, notices := 0, mask := 0, held := held }

/-- The Fault Unit with counts at 0 and no first-fatal record (R180). -/
def FaultUnit.initial (escalation : BitVec 32) (enables : BitVec 8) : FaultUnit :=
  { counts := List.replicate 25 0, firstFatal := none, escalation := escalation, enables := enables,
    reported := [] }

/-- The part after power-on reset with the encoder at `a`, `b`, RESET_N asserted or not, the ACT wiring
`wired`, the levels `others` of the other stations and the model's own fields as given (R16, R63, R85,
R109, R119, R122, R151, R157, R168, R180). -/
def Node.powerOn (a b held : Bool) (wired : Quad Bool) (others : List Bool) (turns : List Nat)
    (freeUses : Nat) : Node :=
  { config := ConfigRecord.zeros, len := LengthUnit.initial a b, window := Window.empty,
    marks := MarkUnit.initial, handover := Handover.initial 0, line := LineState.initial,
    prot := Protection.initial false wired, roster := Roster.initial,
    bus := LineBus.initial .unconfigured false (LineTap.initial others),
    sensor := SensorPort.initial (Quad.same (Channel.initial false)),
    counters := Counters.initial, port := StationPort.initial held, faults := FaultUnit.initial 0 0,
    turns := turns, freeUses := freeUses, baseDue := false }

/-- The machine right after reset (R180), RESET_N negated: the encoder levels and the ACT wiring low
(logs 6, 7), the other stations' levels recessive (log 9), no turns chosen (log 4), no command waiting. -/
def State.reset : State :=
  { node := Node.powerOn false false false (Quad.same false) [] [] 0, pending := [] }

end Sys2Proof.Machine
end

