-- ==== Sys2Proof/Machine/Flags.lean ====
section
/-! DEFINITION. Record flags (Table 2-2, Table 8-6), the mark kinds summary (R47) and the notice flags
with NOTICE_N (Table 11-3, R181). -/

namespace Sys2Proof.Machine

/-- Bit numbers of the record flags (Table 8-6). -/
def RecordFlag.provisionalLate : Nat := 0
def RecordFlag.late : Nat := 1
def RecordFlag.coalesced : Nat := 2
def RecordFlag.isPartial : Nat := 3
def RecordFlag.bridged : Nat := 4
def RecordFlag.early : Nat := 5
def RecordFlag.derivedLength : Nat := 6
def RecordFlag.overdry : Nat := 7
def RecordFlag.sizeLow : Nat := 8
def RecordFlag.sizeHigh : Nat := 9
def RecordFlag.wet : Nat := 10
def RecordFlag.dry : Nat := 11
def RecordFlag.marksOverflow : Nat := 12

/-- The record has the flag. -/
def hasFlag (i : Nat) (b : Body) : Bool := b.flags.getLsbD i

/-- Sets a record flag; a flag is never held twice and stays set (R22). -/
def setFlag (i : Nat) (b : Body) : Body := { b with flags := b.flags ||| (1#16 <<< i) }

/-- Sets a record flag when a condition holds. -/
def setFlagIf (c : Bool) (i : Nat) (b : Body) : Body := if c then setFlag i b else b

/-- Sets the summary's flag of a mark kind (R47). -/
def summarize (k : MarkKind) (b : Body) : Body :=
  { b with summary := b.summary ||| (1#8 <<< (k.code - 1)) }

/-- Removes the origin length of a record that is PROVISIONAL or PARTIAL (R21). -/
def dropOrigin (b : Body) : Body :=
  if b.content = .provisional ∨ hasFlag RecordFlag.isPartial b = true then { b with origin := none }
  else b

/-- Bit numbers of the notice flags (Table 11-3). -/
def Notice.encoderLost : Nat := 0
def Notice.encoderResumed : Nat := 1
def Notice.viewChanged : Nat := 2
def Notice.proposalResult : Nat := 3
def Notice.faultCorrectable : Nat := 4
def Notice.faultDegraded : Nat := 5
def Notice.faultFatal : Nat := 6
def Notice.logNotEmpty : Nat := 7
def Notice.sensorDone : Nat := 8
def Notice.counterOverflow : Nat := 9
def Notice.neighbourChanged : Nat := 10
def Notice.participationChanged : Nat := 11

/-- The notice flag of a fault class (Table 11-3). -/
def Notice.ofClass : FaultClass → Nat
  | .correctable => Notice.faultCorrectable
  | .degraded => Notice.faultDegraded
  | .fatal => Notice.faultFatal

/-- A notice flag is set by its event and stays set (R181). -/
def Node.notice (i : Nat) (n : Node) : Node :=
  { n with port.notices := n.port.notices ||| (1#16 <<< i) }

/-- A notice flag as it stands. -/
def Node.noticed (i : Nat) (n : Node) : Bool := n.port.notices.getLsbD i

/-- NOTICE_N is asserted while a flag is set whose mask bit is clear (R181). -/
def Node.noticeAsserted (n : Node) : Bool := n.port.notices &&& ~~~n.port.mask != 0#16

end Sys2Proof.Machine
end

