-- ==== Sys2Proof/Machine/Ops.lean ====
section
/-! DEFINITION. Shared operations: groups of four, additions that hold, the choice of an order the
spec leaves open, what the configuration says, the responses of the station port, the report of a
fault, the reports to the Monitor Counters and the conditions other blocks ask for. -/

namespace Sys2Proof.Machine

/-! ### Commands -/

/-- A command whose effect on the part is `f`: the machine goes on, the queue as it was. -/
def State.act (f : Node → Node) (s : State) : Host.Outcome State Fault Refusal :=
  .next { s with node := f s.node }

/-! ### Groups of four -/

/-- The thing numbered `i`; numbers beyond 3 name the last. -/
def Quad.get {α : Type} (q : Quad α) : Nat → α
  | 0 => q.q0
  | 1 => q.q1
  | 2 => q.q2
  | _ => q.q3

/-- Replaces the thing numbered `i`; numbers beyond 3 name none. -/
def Quad.set {α : Type} (q : Quad α) (i : Nat) (a : α) : Quad α :=
  match i with
  | 0 => { q with q0 := a }
  | 1 => { q with q1 := a }
  | 2 => { q with q2 := a }
  | 3 => { q with q3 := a }
  | _ => q

/-- Applies a function to each. -/
def Quad.map {α β : Type} (f : α → β) (q : Quad α) : Quad β :=
  { q0 := f q.q0, q1 := f q.q1, q2 := f q.q2, q3 := f q.q3 }

/-- Joins two groups number by number. -/
def Quad.zip {α β γ : Type} (f : α → β → γ) (q : Quad α) (r : Quad β) : Quad γ :=
  { q0 := f q.q0 r.q0, q1 := f q.q1 r.q1, q2 := f q.q2 r.q2, q3 := f q.q3 r.q3 }

/-- The four in order. -/
def Quad.toList {α : Type} (q : Quad α) : List α := [q.q0, q.q1, q.q2, q.q3]

/-! ### Numbers -/

/-- A sum that holds at its limit (R23). -/
def addHold (limit a b : Nat) : Nat := min limit (a + b)

/-- Successor of an event number (R86). -/
def evSucc (n : Nat) : Nat := (n + 1) % 65536

/-- Forward distance from event number `b` to `a` (R86). -/
def evDist (b a : Nat) : Nat := if b ≤ a then a - b else a + 65536 - b

/-- Event number `a` is newer than `b` (R86). -/
def evNewer (a b : Nat) : Bool := decide (1 ≤ evDist b a) && decide (evDist b a ≤ 32767)

/-! ### Orders the spec leaves open (log 4) -/

/-- The choice among `k` that go first: the head of `turns`, the first when none is left. -/
def Node.choice (k : Nat) (n : Node) : Nat := if k ≤ 1 then 0 else n.turns.headD 0 % k

/-- The node once a choice among `k` has been made. -/
def Node.spend (k : Nat) (n : Node) : Node :=
  if k ≤ 1 then n else { n with turns := n.turns.tail }

/-- `l` in the order that `ts` chooses: each number picks the next among those left. -/
def permute {α : Type} : Nat → List Nat → List α → List α
  | 0, _, l => l
  | k + 1, ts, l =>
    match l[ts.headD 0 % l.length]? with
    | some a => a :: permute k ts.tail (l.eraseIdx (ts.headD 0 % l.length))
    | none => l

/-- A list in the order that `turns` chooses. -/
def Node.inOrder {α : Type} (l : List α) (n : Node) : List α := permute l.length n.turns l

/-- The node once a list of `k` has been put in order: one number for each choice. -/
def Node.spendOrder (k : Nat) (n : Node) : Node := { n with turns := n.turns.drop (k - 1) }

/-! ### What the configuration and the participation say -/

/-- The configured role (Table 11-2); START accepts the three codes only. -/
def ConfigRecord.roleOf (c : ConfigRecord) : Role := (Role.ofCode? c.role).getD .path

/-- The station is ORIGIN. -/
def Node.isOrigin (n : Node) : Bool := decide (n.config.roleOf = .origin)

/-- The station is TERMINAL. -/
def Node.isTerminal (n : Node) : Bool := decide (n.config.roleOf = .terminal)

/-- Participation codes (Table 8-6). -/
def Participation.code : Participation → Nat
  | .unconfigured => 0 | .joining => 1 | .active => 2 | .listen => 3 | .withdrawing => 4
  | .offline => 5

/-- Participation other than UNCONFIGURED: from START onward. -/
def Node.configured (n : Node) : Bool := decide (n.bus.participation ≠ .unconfigured)

/-- JOINING, ACTIVE, LISTEN and WITHDRAWING, in which frames are received (R137). -/
def Node.receiving (n : Node) : Bool :=
  match n.bus.participation with
  | .joining => true | .active => true | .listen => true | .withdrawing => true | _ => false

/-- JOINING, ACTIVE and LISTEN, in which a FATAL fault withdraws the station (R184). -/
def Node.onLine (n : Node) : Bool :=
  match n.bus.participation with
  | .joining => true | .active => true | .listen => true | _ => false

/-- Participation is ACTIVE. -/
def Node.active (n : Node) : Bool := decide (n.bus.participation = .active)

/-- The own descriptor (R121, R145). -/
def Node.descriptor (n : Node) : Descriptor :=
  { role := n.config.roleOf, order := n.config.order, reach := n.config.reach,
    entryGap := n.config.entryGap, startRight := decide (n.config.startRight ≠ 0) }

/-- A channel is enabled (Table 9-1). -/
def ChannelConfig.enabled (c : ChannelConfig) : Bool := decide (c.enable ≠ 0)

/-- The fallback enable (R8). -/
def Node.fallback (n : Node) : Bool := decide (n.config.fallback ≠ 0)

/-! ### Faults and responses -/

/-- A block reports a fault to the Fault Unit, which takes it by `Node.takeFaults` (R183). -/
def Node.fault (k : FaultKind) (n : Node) : Node :=
  { n with faults.reported := n.faults.reported ++ [{ kind := k, silent := false }] }

/-- A block reports the same fault `count` times. -/
def Node.faultTimes (k : FaultKind) : Nat → Node → Node
  | 0, n => n
  | c + 1, n => Node.faultTimes k c (n.fault k)

/-- The FRAME_DROPPED of a FAULT frame, which makes no FAULT frame of its own (R140). -/
def Node.faultSilent (k : FaultKind) (n : Node) : Node :=
  { n with faults.reported := n.faults.reported ++ [{ kind := k, silent := true }] }

/-- Result codes (R154). -/
def Result.done : Nat := 0
def Result.ignored : Nat := 1
def Result.refusedState : Nat := 2
def Result.refusedBusy : Nat := 3
def Result.refusedArgument : Nat := 4
def Result.unknownRequest : Nat := 5

/-- The bytes of a READY response (R154). -/
def responseBytes (result field : Nat) (data : List Byte) : List Byte :=
  be 1 1 ++ be 1 result ++ be 1 field ++ be 2 data.length ++ data

/-- The request's response takes the place of the held one (R175). -/
def Node.respond (result field : Nat) (data : List Byte) (n : Node) : Node :=
  { n with port.response := some (responseBytes result field data) }

/-- DONE with data. -/
def Node.done (data : List Byte) (n : Node) : Node := n.respond Result.done 0 data

/-- IGNORED with data. -/
def Node.ignored (data : List Byte) (n : Node) : Node := n.respond Result.ignored 0 data

/-- REFUSED_STATE without data. -/
def Node.refuseState (n : Node) : Node := n.respond Result.refusedState 0 []

/-- REFUSED_BUSY. -/
def Node.refuseBusy (n : Node) : Node := n.respond Result.refusedBusy 0 []

/-- REFUSED_ARGUMENT with the index of the field. -/
def Node.refuseArgument (field : Nat) (n : Node) : Node :=
  n.respond Result.refusedArgument field []

/-- What SDO gives in a frame of `k` bytes: the held response, then 0; while no response is held, the
PENDING response, whose bytes are 0 (R154, R175). -/
def Node.sdoBytes (k : Nat) (n : Node) : List Byte :=
  ((n.port.response.getD []) ++ List.replicate k 0).take k

/-- RESET_N is asserted: the part is at its power-on values and takes no request (R180, log 42). -/
def Node.inReset (n : Node) : Bool := n.port.held && !n.configured

/-- A request reaches the part unless RESET_N is asserted (R180). -/
def Node.takeRequest (act : Node → Node) (n : Node) : Node := if n.inReset then n else act n

/-- A request is judged by its rule only when its length byte is the argument length of its kind
(R176); none is taken while RESET_N is asserted (R180). -/
def Node.request (len : Nat) (args : List Byte) (act : Node → Node) (n : Node) : Node :=
  n.takeRequest fun n => if args.length = len then act n else n.refuseArgument 0

/-- A request that is refused with REFUSED_STATE while participation is UNCONFIGURED (Table 11-1). -/
def Node.whenConfigured (act : Node → Node) (n : Node) : Node :=
  if n.configured then act n else n.refuseState

/-- A place in an image whose bytes no layout states: free bytes (log 5). -/
def Node.fill (site k : Nat) (n : Node) : List Byte :=
  (List.range k).map fun i => Config.absentByte n.freeUses (64 * site + i)

/-- The bytes of a field, or free bytes when it is absent (log 5). -/
def Node.fieldOr (site k : Nat) (v : Option Nat) (n : Node) : List Byte :=
  match v with
  | some x => be k x
  | none => n.fill site k

/-- One use of the free bytes is over (log 5). -/
def Node.useFill (n : Node) : Node := { n with freeUses := n.freeUses + 1 }

/-! ### Conditions that blocks present to one another -/

/-- The LENGTH_DERIVED condition (R12). -/
def Node.lengthDerived (n : Node) : Bool := decide (n.len.source = .derived)

/-- The ARRIVAL_WAITING condition (R75). -/
def Node.arrivalWaiting (n : Node) : Bool := !n.handover.arrivals.isEmpty

/-- The roster entry of another station. -/
def Roster.entry? (r : Roster) (s : Nat) : Option RosterEntry := r.others.find? (fun e => e.station == s)

/-- The speed a usable reference gives: the chosen station is another station, its entry is PRESENT
and holds a last speed (R10). -/
def Node.usableSpeed (n : Node) : Option Nat :=
  match n.roster.reference with
  | none => none
  | some s =>
    if s = n.config.station then none
    else
      match n.roster.entry? s with
      | some e => if e.present then e.speed else none
      | none => none

/-- The length-unfit condition (R12). -/
def Node.lengthUnfit (n : Node) : Bool :=
  (n.len.stalled && !n.fallback) || (n.lengthDerived && n.usableSpeed.isNone)

/-- While a reference is usable, its last speed is the reference speed in force and the absence timer
is held at 0 (R10). -/
def Node.refreshReference (n : Node) : Node :=
  match n.usableSpeed with
  | some v => { n with len.reference := some v, len.absenceTimer := 0 }
  | none => n

/-! ### Monitor Counters -/

/-- A report of an event of Table 10-2: its code, the mask bits it needs, its amount. -/
structure CounterEvent where
  code : Nat
  bits : List Nat
  amount : Nat
  deriving DecidableEq, Repr

/-- BOUNDARY_APPLIED qualifiers (Table 10-2): 0 normal, 1 coalesced, 2 first-arrival, 3 origin-cut. -/
def CounterEvent.boundary (q amount : Nat) : CounterEvent := { code := 1, bits := [q], amount := amount }
/-- HANDOFF_MATCH qualifiers: 0 late-fill, 1 duplicate, 2 stale, 3 skip. -/
def CounterEvent.handoffMatch (q amount : Nat) : CounterEvent := { code := 2, bits := [q], amount := amount }
/-- LATE_DECLARED. -/
def CounterEvent.lateDeclared (amount : Nat) : CounterEvent := { code := 3, bits := [], amount := amount }
/-- HANDOFF_SENT qualifiers: 0 sent, 1 dropped, 2 discarded-in-LISTEN. -/
def CounterEvent.handoffSent (q : Nat) : CounterEvent := { code := 4, bits := [q], amount := 0 }
/-- FRAME_RECEIVED qualifiers: 0 good, 1 check-fail, 2 malformed. -/
def CounterEvent.frameReceived (q : Nat) : CounterEvent := { code := 5, bits := [q], amount := 0 }
/-- COLLISION. -/
def CounterEvent.collided : CounterEvent := { code := 6, bits := [], amount := 0 }
/-- MARK_OPENED, qualified by kind. -/
def CounterEvent.markOpened (k : MarkKind) : CounterEvent := { code := 9, bits := [k.code - 1], amount := 0 }
/-- SENSOR_READING qualifiers: 0 valid-in-limits, 1 out-of-limits, 2 invalid; and the channel's bit. -/
def CounterEvent.sensorReading (q ch : Nat) : CounterEvent := { code := 10, bits := [q, 4 + ch], amount := 0 }
/-- STRETCH qualifiers: 0 positive, 1 negative, 2 absent. -/
def CounterEvent.stretch (q amount : Nat) : CounterEvent := { code := 12, bits := [q], amount := amount }
/-- PROPOSAL_RESULT qualifiers: 0 enacted, 1 denied, 2 timed-out, 3 abandoned. -/
def CounterEvent.proposalResult (q : Nat) : CounterEvent := { code := 13, bits := [q], amount := 0 }

/-- An addition to a counter's value, which wraps and sets the overflow flag (R172). -/
def Counter.add (k : Nat) (c : Counter) : Counter :=
  if Config.maxLength < c.value + k then
    { c with value := c.value + k - (Config.maxLength + 1), overflow := true }
  else { c with value := c.value + k }

/-- An addition wraps the counter (R172). -/
def Counter.wraps (k : Nat) (c : Counter) : Bool := decide (Config.maxLength < c.value + k)

/-- The counter after what `f` gives it, if anything, is added. -/
def Counter.addBy (f : Counter → Option Nat) (c : Counter) : Counter :=
  match f c with
  | some k => c.add k
  | none => c

/-- What `f` gives the counter wraps it. -/
def Counter.wrapsBy (f : Counter → Option Nat) (c : Counter) : Bool :=
  match f c with
  | some k => c.wraps k
  | none => false

/-- What `f` gives the counter wraps it while its overflow flag is clear: a wrap while the flag stands
shows nothing more (R172). -/
def Counter.overflowsBy (f : Counter → Option Nat) (c : Counter) : Bool :=
  !c.overflow && c.wrapsBy f

/-- Adds to each counter what `f` gives it, unless frozen; a wrap that sets an overflow flag sets
COUNTER_OVERFLOW (R172, R173). -/
def Node.addCounters (f : Counter → Option Nat) (n : Node) : Node :=
  if n.counters.frozen then n
  else if n.counters.cells.toList.any (Counter.overflowsBy f) then
    Node.notice Notice.counterOverflow
      { n with counters.cells := n.counters.cells.map (Counter.addBy f) }
  else { n with counters.cells := n.counters.cells.map (Counter.addBy f) }

/-- What a report adds to a counter: 1 in OCCURRENCES, the amount in AMOUNT, when the counter names
the code and its mask sets every bit the report needs (R170). -/
def Counter.counts (e : CounterEvent) (c : Counter) : Option Nat :=
  if c.code = e.code ∧ e.bits.all (fun i => c.mask.getLsbD i) = true then
    match c.mode with
    | .occurrences => some 1
    | .amount => some e.amount
    | _ => none
  else none

/-- A report of an event reaches every counter (R170). -/
def Node.report (e : CounterEvent) (n : Node) : Node := n.addCounters (Counter.counts e)

/-- The codes that name a condition: VIEW, LENGTH_DERIVED, ARRIVAL_WAITING (Table 10-2). -/
def conditionCode (code : Nat) : Bool := decide (code = 7) || decide (code = 8) || decide (code = 11)

/-- The value of the condition a counter selects (R171). -/
def Node.conditionOf (n : Node) (c : Counter) : Bool :=
  match c.code with
  | 7 => c.mask.getLsbD n.line.view.code
  | 8 => n.lengthDerived
  | 11 => n.arrivalWaiting
  | _ => false

/-- Each counter that selects a condition follows it: an edge from false to true adds 1 in
OCCURRENCES while running; the change is recorded frozen or running (R171). -/
def Node.followConditions (n : Node) : Node :=
  let m := n.addCounters fun c =>
    if conditionCode c.code && decide (c.mode = .occurrences) && n.conditionOf c && !c.lastCondition
    then some 1 else none
  { m with counters.cells := m.counters.cells.map fun c =>
      if conditionCode c.code then { c with lastCondition := n.conditionOf c } else c }

/-- An advance of `mm` adds to the counters in mode LENGTH whose condition is true (R171). -/
def Node.countLength (mm : Nat) (n : Node) : Node :=
  n.addCounters fun c =>
    if conditionCode c.code && decide (c.mode = .length) && n.conditionOf c then some mm else none

/-- A millisecond of the time base adds 1 to the counters in mode TIME whose condition is true
(R171). -/
def Node.countMillisecond (n : Node) : Node :=
  n.addCounters fun c =>
    if conditionCode c.code && decide (c.mode = .time) && n.conditionOf c then some 1 else none

end Sys2Proof.Machine
end

