-- ==== Sys2Proof/Machine/Records.lean ====
section
/-! DEFINITION. The content of a segment record: offering mark entries (R46), filling (R29), merging
(R30) and adding dwell and readings (R108, R161). -/

namespace Sys2Proof.Machine

/-- The list holds an entry with the same kind, id and station (R46). -/
def holdsEntry (m : MarkEntry) (l : List MarkEntry) : Bool :=
  l.any fun e => decide (e.kind = m.kind) && decide (e.id = m.id) && decide (e.station = m.station)

/-- What became of an entry offered to a record (R46, R58). -/
inductive OfferOutcome
  | stamped | duplicate | overflow
  deriving DecidableEq, Repr

/-- The outcome of offering an entry to a record (R46). -/
def offerOutcome (m : MarkEntry) (b : Body) : OfferOutcome :=
  if holdsEntry m b.marks then .duplicate
  else if b.marks.length < Config.markListCapacity then .stamped
  else .overflow

/-- The entry meets a full list without being a duplicate, and is dropped (R46). -/
def drops (m : MarkEntry) (b : Body) : Bool := decide (offerOutcome m b = .overflow)

/-- Adds an entry to the mark list, or drops it with MARKS_OVERFLOW; a duplicate changes nothing
(R46). The summary is not touched here. -/
def addEntry (m : MarkEntry) (b : Body) : Body :=
  match offerOutcome m b with
  | .stamped => { b with marks := b.marks ++ [m] }
  | .duplicate => b
  | .overflow => setFlag RecordFlag.marksOverflow b

/-- An entry offered to a record: the summary takes its kind in every case (R46, R47). -/
def offerEntry (m : MarkEntry) (b : Body) : Body := addEntry m (summarize m.kind b)

/-- Offers entries in order (R29). -/
def offerAll (ms : List MarkEntry) (b : Body) : Body := ms.foldl (fun acc m => offerEntry m acc) b

/-- How many of the entries are dropped when they are offered in order (R46). -/
def countDrops : List MarkEntry → Body → Nat
  | [], _ => 0
  | m :: ms, b => bit (drops m b) + countDrops ms (offerEntry m b)

/-- A reading after filling: a reading held keeps its value, an absent one takes the carried; counts
are summed (R29). -/
def fillReading (own carried : Option Reading) : Option Reading :=
  match own, carried with
  | none, c => c
  | some o, none => some o
  | some o, some c => some { value := o.value, count := addHold Config.max16 o.count c.count }

/-- A reading after merging: the carried reading overwrites the value; counts are summed (R30). -/
def mergeReading (own carried : Option Reading) : Option Reading :=
  match own, carried with
  | o, none => o
  | none, some c => some c
  | some o, some c => some { value := c.value, count := addHold Config.max16 o.count c.count }

/-- What filling and merging treat alike: flags, skip count, dwell, trail, mark entries, summary
(R29, R30). -/
def joinCommon (own carried : Body) : Body :=
  let joined := offerAll carried.marks
    { own with
      flags := own.flags ||| carried.flags
      skip := addHold Config.maxSkip own.skip carried.skip
      dwell := addHold Config.max16 own.dwell carried.dwell
      trail := if carried.trail.isEmpty then own.trail else carried.trail }
  { joined with summary := joined.summary ||| carried.summary }

/-- Content filled into a PENDING or PROVISIONAL record (R29). -/
def fillBody (own carried : Body) : Body :=
  dropOrigin
    { joinCommon own carried with
      content := carried.content
      nominal := carried.nominal
      origin := carried.origin
      beamSet := carried.beamSet
      pickup := fillReading own.pickup carried.pickup
      moisture := fillReading own.moisture carried.moisture
      tension := fillReading own.tension carried.tension }

/-- The nominal length after merging (R30). -/
def mergeNominal (own carried : Option Nat) : Option Nat :=
  match own, carried with
  | some a, some b => some (addHold Config.maxLength a b)
  | some a, none => some a
  | none, c => c

/-- The origin length after merging (R30). -/
def mergeOrigin (own carried : Option Nat) : Option Nat :=
  match own, carried with
  | some a, some b => some (addHold Config.maxLength a b)
  | _, _ => none

/-- Content merged into a record that already holds content (R30). -/
def mergeBody (own carried : Body) : Body :=
  dropOrigin
    { joinCommon own carried with
      content := if own.content = .provisional ∨ carried.content = .provisional then .provisional
                 else .filled
      nominal := mergeNominal own.nominal carried.nominal
      origin := mergeOrigin own.origin carried.origin
      beamSet := if own.beamSet = carried.beamSet then own.beamSet else 0
      pickup := mergeReading own.pickup carried.pickup
      moisture := mergeReading own.moisture carried.moisture
      tension := mergeReading own.tension carried.tension }

/-- Content reaches the entering record: filled when it is PENDING, merged otherwise (R28). -/
def absorb (own carried : Body) : Body :=
  if own.content = .pending then fillBody own carried else mergeBody own carried

/-- Entries dropped when content reaches a record: both filling and merging offer the carried entries
to the record's own list (R29, R30, R46). -/
def absorbDrops (own carried : Body) : Nat := countDrops carried.marks own

/-- Adds the seconds of a standstill to a record's dwell (R108). -/
def addDwell (s : Nat) (b : Body) : Body := { b with dwell := addHold Config.max16 b.dwell s }

/-- A reading bound to a record: last value replaced, count raised by one (R161). -/
def bindReading (v : Nat) (r : Option Reading) : Option Reading :=
  match r with
  | none => some { value := v, count := 1 }
  | some o => some { value := v, count := addHold Config.max16 o.count 1 }

/-- Binds a reading of a quantity: PICKUP 0, MOISTURE 1, TENSION 2 (R161). -/
def bindQuantity (quantity v : Nat) (b : Body) : Body :=
  match quantity with
  | 0 => { b with pickup := bindReading v b.pickup }
  | 1 => { b with moisture := bindReading v b.moisture }
  | _ => { b with tension := bindReading v b.tension }

/-- A record's content with nothing written into it yet (R28). -/
def freshBody (number : Nat) (content : Content) (nominal : Option Nat) (beamSet : Nat)
    (derived : Bool) : Body :=
  setFlagIf derived RecordFlag.derivedLength
    { first := number, last := number, content := content, nominal := nominal, origin := none,
      beamSet := beamSet, flags := 0, skip := 0, marks := [], summary := 0, trail := [],
      pickup := none, moisture := none, tension := none, dwell := 0 }

end Sys2Proof.Machine
end

