-- ==== Sys2Proof/Machine/Window.lean ====
section
/-! DEFINITION. The Segment Window (Section 2): which records a claim reaches (R26, R27), boundaries
and coalescing (R28, R38), cuts and KNOTs at the ORIGIN (R32 to R34, R40), late declarations (R35,
R36, R39). -/

namespace Sys2Proof.Machine

/-- A closed record covers position `p` at tracking length `l` (R26). -/
def ClosedRecord.covers (l p : Nat) (r : ClosedRecord) : Bool :=
  decide (l ≤ p + r.tail) && decide (p + r.head < l)

/-- The entering record covers position `p` at tracking length `l` (R26). -/
def EnteringRecord.covers (l p : Nat) (e : EnteringRecord) : Bool := decide (p + e.head < l)

/-- A closed record covers at least one position from `s` to `e` (R26). -/
def ClosedRecord.overlaps (l s e : Nat) (r : ClosedRecord) : Bool :=
  decide (l ≤ e + r.tail) && decide (s + r.head < l) && decide (r.head < r.tail)

/-- A claim on the window: which closed records it reaches, and whether it reaches the entering one
(R27). -/
structure Claim where
  closed : ClosedRecord → Bool
  entering : EnteringRecord → Bool

/-- A claim at a position (R26, R27). -/
def Claim.point (l p : Nat) : Claim :=
  { closed := ClosedRecord.covers l p, entering := EnteringRecord.covers l p }

/-- A claim on a span (R26, R27); the entering record overlaps it when it covers its start. -/
def Claim.span (l s e : Nat) : Claim :=
  { closed := ClosedRecord.overlaps l s e, entering := EnteringRecord.covers l s }

/-- A claim on the whole window (R27). -/
def Claim.whole : Claim := { closed := fun _ => true, entering := fun _ => true }

/-- The claim narrowed to records whose content satisfies `p`. -/
def Claim.narrow (p : Body → Bool) (c : Claim) : Claim :=
  { closed := fun r => c.closed r && p r.body, entering := fun e => c.entering e && p e.body }

/-- Records held (R44). -/
def Window.count (w : Window) : Nat := w.closed.length + bit w.entering.isSome

/-- The window holds no record (R24). -/
def Window.isEmpty (w : Window) : Bool := w.closed.isEmpty && w.entering.isNone

/-- The window has no room for another record (R28, R38). -/
def Window.full (w : Window) : Bool := decide (Config.windowCapacity ≤ w.count)

/-- Newest segment number: the last number of the entering record, or 0 (R44). -/
def Window.newest (w : Window) : Nat :=
  match w.entering with
  | some e => e.body.last
  | none => 0

/-- The contents a claim reaches with their head positions, oldest first. -/
def Window.reached (c : Claim) (w : Window) : List (Nat × Body) :=
  (w.closed.filter c.closed).map (fun r => (r.head, r.body)) ++
  ((w.entering.filter c.entering).map fun e => (e.head, e.body)).toList

/-- A claim written into the records it reaches (R27); `f` is given the head position. -/
def Window.write (c : Claim) (f : Nat → Body → Body) (w : Window) : Window :=
  { closed := w.closed.map fun r => if c.closed r then { r with body := f r.head r.body } else r
    entering := w.entering.map fun e =>
      if c.entering e then { e with body := f e.head e.body } else e }

/-- The first of a list that satisfies `p` is changed. -/
def changeFirst {α : Type} (p : α → Bool) (f : α → α) : List α → List α
  | [] => []
  | a :: as => if p a then f a :: as else a :: changeFirst p f as

/-- Changes the oldest record whose content satisfies `p`. -/
def Window.changeOldest (p : Body → Bool) (f : Body → Body) (w : Window) : Window :=
  if w.closed.any (fun r => p r.body) then
    { w with closed := changeFirst (fun r => p r.body) (fun r => { r with body := f r.body }) w.closed }
  else
    { w with entering := w.entering.map fun e => if p e.body then { e with body := f e.body } else e }

/-- The contents of all records, oldest first. -/
def Window.bodies (w : Window) : List Body :=
  w.closed.map (fun r => r.body) ++ (w.entering.map fun e => e.body).toList

/-- A new entering record at `x` (R28, R32): PENDING with what the boundary hands on at a PATH or
TERMINAL station; FILLED with the segment length and the beam set at the ORIGIN. -/
def Node.newEntering (number x : Nat) (next : Option Nat) (n : Node) : EnteringRecord :=
  if n.isOrigin then
    { body := freshBody number .filled (some n.config.segmentLength) n.marks.beamSet n.lengthDerived
      head := x, expectFrom := x, expected := some n.config.segmentLength }
  else
    { body := freshBody number .pending next 0 n.lengthDerived
      head := x, expectFrom := x, expected := next }

/-- The last number after a boundary that may bring one (R28). -/
def lastAfter (own : Nat) (brought : Option Nat) : Nat :=
  match brought with
  | some b => segNewest own b
  | none => own

/-- The entering record `e`, with content `body`, closes at `x` and a new one opens (R28). -/
def Node.closeEntering (x : Nat) (e : EnteringRecord) (body : Body) (brought next : Option Nat)
    (n : Node) : Node :=
  { n with
    window.closed := n.window.closed ++
      [{ body := { body with last := lastAfter e.body.last brought }, head := e.head, tail := x }]
    window.entering :=
      some (n.newEntering (segSucc (lastAfter e.body.last brought)) x next) }

/-- The entering record `e`, with content `body`, widens instead of closing (R38). -/
def Node.coalesce (x : Nat) (e : EnteringRecord) (body : Body) (brought next : Option Nat)
    (n : Node) : Node :=
  Node.report (CounterEvent.boundary 1 (x - e.expectFrom))
    (Node.fault .windowCoalesce
      { n with
        window.entering := some
          { body := setFlag RecordFlag.coalesced
              { body with last := segSucc (lastAfter e.body.last brought) }
            head := e.head, expectFrom := x, expected := next } })

/-- The content of the record a cut closes with room in the window (R33). -/
def cutBody (x : Nat) (e : EnteringRecord) : Body :=
  { e.body with content := .filled, origin := some (x - e.head) }

/-- The content of the record a cut widens in a full window (R40). -/
def cutCoalesced (segmentLength beamSet : Nat) (b : Body) : Body :=
  { b with
    nominal := some (addHold Config.maxLength (b.nominal.getD 0) segmentLength)
    beamSet := if b.beamSet = beamSet then b.beamSet else 0 }

/-- A cut at `x` at the ORIGIN, by length or by KNOT (R33, R34, R40). -/
def Node.cut (x : Nat) (e : EnteringRecord) (n : Node) : Node :=
  if n.window.full then
    n.coalesce x e (cutCoalesced n.config.segmentLength n.marks.beamSet e.body) none
      (some n.config.segmentLength)
  else
    Node.report (CounterEvent.boundary 3 (x - e.head))
      (n.closeEntering x e (cutBody x e) none (some n.config.segmentLength))

/-- The cut test (R33). -/
def cutMet (l : Nat) (e : EnteringRecord) : Bool :=
  match e.expected with
  | some x => decide (x ≤ l - e.expectFrom)
  | none => false

/-- The late limit of a record expected to be `expected` long (R35). -/
def Node.lateLimit (expected : Nat) (n : Node) : Nat :=
  expected * (100 + n.config.lateMargin) / 100 + n.handover.allowance

/-- An arrival waiting overlaps the range of `b` (R35, R75). -/
def Node.arrivalOverlaps (b : Body) (n : Node) : Bool :=
  n.handover.arrivals.any fun a => rangesOverlap a.body.first a.body.last b.first b.last

/-- The late test (R35). -/
def Node.lateMet (l : Nat) (e : EnteringRecord) (n : Node) : Bool :=
  match e.expected with
  | some x => decide (n.lateLimit x < l - e.expectFrom) && !n.arrivalOverlaps e.body
  | none => false

/-- The content of a record closed late (R36). -/
def lateBody (b : Body) : Body :=
  { setFlag RecordFlag.provisionalLate b with content := .provisional, origin := none }

/-- A late declaration at `x` (R36, R39). -/
def Node.declareLate (x : Nat) (e : EnteringRecord) (n : Node) : Node :=
  Node.report (CounterEvent.lateDeclared (x - e.expectFrom - e.expected.getD 0))
    (Node.fault .boundaryLate
      (if n.window.full then
        n.coalesce x e (setFlag RecordFlag.provisionalLate e.body) none e.expected
      else n.closeEntering x e (lateBody e.body) none e.expected))

/-- The test of the entering record at an advance (R31, R33, R35). -/
def Node.testEntering (n : Node) : Node :=
  match n.window.entering with
  | none => n
  | some e =>
    if n.isOrigin then
      if cutMet n.len.tracking e then n.cut n.len.tracking e else n
    else if n.lateMet n.len.tracking e then n.declareLate n.len.tracking e
    else n

/-- The boundary claim of a KNOT at `x`, the beam set already changed (R34, R40, log 16). -/
def Node.knotClaim (x : Nat) (n : Node) : Node :=
  match n.window.entering with
  | none => n
  | some e =>
    if e.head < x then n.cut x e
    else { n with window.entering := some { e with body.beamSet := n.marks.beamSet } }

/-- The number of the ORIGIN's first record (R32, R133). -/
def Node.firstNumber (n : Node) : Nat :=
  match n.roster.highest with
  | some h => segSucc h
  | none => 1

/-- At the ORIGIN the first record of an empty window opens when JOINING ends (R32). -/
def Node.openFirst (n : Node) : Node :=
  if n.isOrigin && n.window.isEmpty then
    { n with window.entering := some (n.newEntering n.firstNumber n.len.tracking none) }
  else n

/-- The following nominal length handed over with an exiting record (R42). -/
def Node.followingNominal (n : Node) : Option Nat :=
  if n.isOrigin then some n.config.segmentLength
  else n.window.entering.bind (fun e => e.expected)

end Sys2Proof.Machine
end

