-- ==== Sys2Proof/Machine/Queue.lean ====
section
/-! DEFINITION. The outbound queue (R139 to R141, R145) and, with it, the end of an own proposal
(R100, R101, R103) and the loss of an own ENACT (R102), which the queue reports. -/

namespace Sys2Proof.Machine

/-- A frame as it joins the queue (R139). -/
def QueuedFrame.fresh (f : Frame) (ofWithdrawal : Bool) : QueuedFrame :=
  { frame := f, collisions := 0, inTransmission := false, withdrawn := false,
    ofWithdrawal := ofWithdrawal }

/-- The frame is a PROPOSE; the only ones in the queue are the station's own. -/
def QueuedFrame.isPropose (q : QueuedFrame) : Bool :=
  match q.frame with
  | .propose _ => true
  | _ => false

/-- The frame is a STATUS. -/
def QueuedFrame.isStatus (q : QueuedFrame) : Bool :=
  match q.frame with
  | .status _ => true
  | _ => false

/-- The frame is in transmission. -/
def Node.transmitting (n : Node) : Option QueuedFrame := n.bus.queue.find? fun q => q.inTransmission

/-- The line driver is released: nothing is driven on LTX (R135, R142, R143). -/
def Node.release (n : Node) : Node :=
  { n with bus.lde := false, bus.ltx := [], bus.tap.driven := 0, bus.tap.clash := false }

/-- The line as it goes on once the own drive has been cut: what the own frame gave the line is no frame
received, and a frame of which no bit time has passed has driven its dominant start bit (R135, R138, R141,
R142; log 39). -/
def LineTap.undriven (driving : Bool) (t : LineTap) : LineTap :=
  { t with
    recessive := if driving && decide (t.driven = 0) then 0 else t.recessive
    heard := if driving then [] else t.heard
    driven := 0
    clash := false }

/-- A transmission is cut (R141). -/
def Node.cutShort (n : Node) : Node :=
  { n with bus.lde := false, bus.ltx := [], bus.tap := n.bus.tap.undriven n.bus.lde }

/-! ### Ends of an own proposal -/

/-- The qualifier of PROPOSAL_RESULT (Table 10-2, R103). -/
def ProposalEnd.qualifier : ProposalEnd → Nat
  | .enacted _ => 0 | .denied _ _ => 1 | .timedOut => 2 | .abandoned => 3

/-- The own proposal ends (R103). -/
def Node.endOwn (e : ProposalEnd) (n : Node) : Node :=
  match n.line.own with
  | none => n
  | some o =>
    Node.report (CounterEvent.proposalResult e.qualifier)
      (Node.notice Notice.proposalResult
        { n with line.own := none, line.lastOutcome := some { id := o.id, outcome := e } })

/-- The own PROPOSE is withdrawn: removed at once, or marked when it is in transmission (R141). -/
def withdrawPropose (l : List QueuedFrame) : List QueuedFrame :=
  (l.filter fun q => !q.isPropose || q.inTransmission).map fun q =>
    if q.isPropose then { q with withdrawn := true } else q

/-- The own proposal ends and its PROPOSE, if still queued, is withdrawn (R100, R101). -/
def Node.endAndWithdraw (e : ProposalEnd) (n : Node) : Node :=
  if n.line.own.isSome then
    Node.endOwn e { n with bus.queue := withdrawPropose n.bus.queue }
  else n

/-- The own proposal ends ABANDONED (R101). -/
def Node.abandonOwn (n : Node) : Node := n.endAndWithdraw .abandoned

/-- The fate of the own ENACT enters the last own outcome (R102, R103). -/
def LineState.enactFate (fate : EnactFate) (l : LineState) : LineState :=
  { l with
    enact := none
    lastOutcome :=
      match l.lastOutcome with
      | some { id := i, outcome := .enacted .pending } => some { id := i, outcome := .enacted fate }
      | other => other }

/-- A frame of the own PROPOSE is lost: the proposal ends ABANDONED when it still waited for that
frame (R97, R101). -/
def Node.proposeLost (i : ProposalId) (n : Node) : Node :=
  match n.line.own with
  | some o => if o.id = i ∧ o.phase = .queued then n.endOwn .abandoned else n
  | none => n

/-- A frame lost without transmission is reported to the block that offered it (R140, R141, R67, R97,
R102). -/
def Node.frameLost (q : QueuedFrame) (n : Node) : Node :=
  match q.frame with
  | .handoff _ => n.report (CounterEvent.handoffSent 1)
  | .propose p => if q.withdrawn then n else n.proposeLost p.id
  | .enact _ => { n with line := n.line.enactFate .lost }
  | _ => n

/-! ### Offers -/

/-- A frame joins the queue as the newest (R139). -/
def Node.joinQueue (q : QueuedFrame) (n : Node) : Node :=
  { n with bus.queue := n.bus.queue ++ [q] }

/-- The queue holds 16 frames (R139). -/
def Node.queueFull (n : Node) : Bool := decide (Config.outboundCapacity ≤ n.bus.queue.length)

/-- The fault of a frame lost to a full queue: HANDOFF_DROPPED, FRAME_DROPPED, without a FAULT frame
when it was one, and none for a STATUS (R140). -/
def Node.dropFault (f : Frame) (n : Node) : Node :=
  match f with
  | .handoff _ => n.fault .handoffDropped
  | .status _ => n
  | .fault _ => n.faultSilent .frameDropped
  | _ => n.fault .frameDropped

/-- A frame that may be evicted: class 2 or 3, not in transmission (R140). -/
def QueuedFrame.evictable (q : QueuedFrame) : Bool :=
  decide (2 ≤ q.frame.cls) && !q.inTransmission

/-- A frame meets a full queue (R140). -/
def Node.offerToFull (f : Frame) (n : Node) : Node :=
  if f.cls < 2 then
    match n.bus.queue.find? QueuedFrame.evictable with
    | some q =>
      Node.joinQueue (QueuedFrame.fresh f false)
        ((({ n with bus.queue := n.bus.queue.eraseP QueuedFrame.evictable }).dropFault q.frame).frameLost
          q)
    | none => (n.dropFault f).frameLost (QueuedFrame.fresh f false)
  else (n.dropFault f).frameLost (QueuedFrame.fresh f false)

/-- A frame is offered to the outbound queue (R139, R140). -/
def Node.offer (f : Frame) (n : Node) : Node :=
  if !n.active then n.frameLost (QueuedFrame.fresh f false)
  else if n.queueFull then n.offerToFull f
  else n.joinQueue (QueuedFrame.fresh f false)

/-- The TRIP of a withdrawal is offered: never refused; the oldest frame not in transmission makes
room (R139). -/
def Node.offerWithdrawal (p : AnnouncePayload) (n : Node) : Node :=
  if n.queueFull then
    match n.bus.queue.find? fun q => !q.inTransmission with
    | some q =>
      Node.joinQueue (QueuedFrame.fresh (.trip p) true)
        (({ n with bus.queue := n.bus.queue.eraseP fun q => !q.inTransmission }).frameLost q)
    | none => n
  else n.joinQueue (QueuedFrame.fresh (.trip p) true)

/-- A purge: every frame leaves, a transmission is cut, each frame is reported lost (R141). -/
def Node.purge (n : Node) : Node :=
  n.bus.queue.foldl (fun m q => m.frameLost q) (Node.cutShort { n with bus.queue := [] })

/-! ### STATUS -/

/-- The STATUS made at this moment (R145, R6, R44, R87). -/
def Node.statusFrame (n : Node) : Frame :=
  .status { view := n.line.view, number := n.line.number, speed := n.len.speed
            newest := n.window.newest, descriptor := n.descriptor }

/-- A STATUS that waits, not in transmission (R145). -/
def QueuedFrame.waitingStatus (q : QueuedFrame) : Bool := q.isStatus && !q.inTransmission

/-- A STATUS is generated: it replaces one that waits, in its place, or is offered (R145, log 17). The
model's choice: where a collision has left two that wait, each of them is replaced (log 48). -/
def Node.generateStatus (n : Node) : Node :=
  if n.bus.queue.any QueuedFrame.waitingStatus then
    { n with
      bus.queue := n.bus.queue.map fun q =>
        if q.waitingStatus then QueuedFrame.fresh n.statusFrame false else q }
  else n.offer n.statusFrame

end Sys2Proof.Machine
end

