-- ==== Sys2Proof/Machine/Lines.lean ====
section
/-! DEFINITION. The Protection Unit (Section 6): dwell conditions, the standstill timer on a change
of view, the action lines, and the hold reasons that end an own proposal (R100, R117). -/

namespace Sys2Proof.Machine

/-- The DWELL1 condition; false before START, when no limit is in force (R110, R115). -/
def Node.dwell1 (n : Node) : Bool := n.configured && decide (n.config.dwell1 ≤ n.prot.timer)

/-- The DWELL2 condition (R110). -/
def Node.dwell2 (n : Node) : Bool := n.configured && decide (n.config.dwell2 ≤ n.prot.timer)

/-- A span mark of a kind the mask names is open (R62, Table 6-3). -/
def Node.spanOpen (mask : Nat) (n : Node) : Bool :=
  n.marks.table.any fun s => mask.testBit (s.kind.code - 1)

/-- The SENSOR_OUT condition of a channel (R162). -/
def Node.sensorOut (ch : Nat) (n : Node) : Bool :=
  (n.config.channels.get ch).enabled && (n.sensor.channels.get ch).out

/-- The SENSOR_FAILED condition of a channel (R162). -/
def Node.sensorFailed (ch : Nat) (n : Node) : Bool :=
  (n.config.channels.get ch).enabled && (n.sensor.channels.get ch).failed

/-- The condition of an action line (R113, Table 6-3; codes of 11.2). -/
def Node.lineCondition (a : ActionConfig) (n : Node) : Bool :=
  match a.condition with
  | 1 => a.parameter.testBit n.line.view.code
  | 2 => n.dwell1
  | 3 => n.dwell2
  | 4 => n.spanOpen a.parameter
  | 5 => n.sensorOut a.parameter
  | 6 => n.sensorFailed a.parameter
  | 7 => n.lengthDerived
  | 8 => !n.active
  | _ => false

/-- The latch of a line after its condition is evaluated in a view (R116). -/
def latchAfter (latchOption : Bool) (view : View) (latch condition : Bool) : Bool :=
  latchOption && decide (view ≠ .run) && (latch || condition)

/-- A line evaluated: asserted while its condition is true or its latch is set (R114, R116). -/
def Node.evalLine (n : Node) (a : ActionConfig) (l : ActionLine) : ActionLine :=
  let c := n.lineCondition a
  let latch := latchAfter (decide (a.latch ≠ 0)) n.line.view l.latch c
  { latch := latch, asserted := c || latch }

/-- A line as it enters OFFLINE: one with the latch-until-RUN option that is asserted stays asserted
through it, by its latch (R119; that the latch is set, log 36). -/
def ActionLine.hold (a : ActionConfig) (l : ActionLine) : ActionLine :=
  { l with latch := l.latch || (decide (a.latch ≠ 0) && l.asserted) }

/-- From START onward every line follows its inputs (R114). -/
def Node.evalLines (n : Node) : Node :=
  if n.prot.driven then { n with prot.lines := n.config.lines.zip n.evalLine n.prot.lines } else n

/-- The level at the pin of a line: the wiring's before START, then by polarity (R115). -/
def Node.pinHigh (i : Nat) (n : Node) : Bool :=
  if n.prot.driven then
    (n.prot.lines.get i).asserted ^^ decide ((n.config.lines.get i).polarity ≠ 0)
  else n.prot.wired.get i

/-- The ACTION condition (R117). -/
def Node.actionHolds (n : Node) : Bool :=
  (n.config.lines.zip (fun a (l : ActionLine) => decide (a.holdsStart ≠ 0) && l.asserted)
    n.prot.lines).toList.any id

/-- The own hold reasons for a target that hold, in the order of Table 5-4 (R96, R98, R100). -/
def Node.holdReasons (target : View) (n : Node) : List HoldReason :=
  (if target = .standstill ∧ n.line.tripUnack = true then [.tripUnacknowledged] else []) ++
  (if n.line.hold then [.localHold] else []) ++
  (if n.lengthUnfit then [.length] else []) ++
  (if n.actionHolds then [.action] else [])

/-- An own proposal for which a hold reason has come to hold ends DENIED, the own station as sender;
of several reasons one is chosen (R100, log 4). -/
def Node.denyOwn (n : Node) : Node :=
  match n.line.own with
  | none => n
  | some o =>
    match (n.holdReasons o.target)[n.choice (n.holdReasons o.target).length]? with
    | some r =>
      (n.spend (n.holdReasons o.target).length).endAndWithdraw (.denied r n.config.station)
    | none => n

/-- The blocks that follow the state of others take it in: the counters' conditions (R171), the
action lines (R114), the own proposal's hold reasons (R100). -/
def Node.settle (n : Node) : Node := n.followConditions.evalLines.denyOwn

/-- The standstill timer stopped at 0 (R107, R109). -/
def Protection.stopTimer (p : Protection) : Protection :=
  { p with timer := 0, phase := 0, running := false }

/-- The standstill timer started from 0 (R107). -/
def Protection.startTimer (p : Protection) : Protection :=
  { p with timer := 0, phase := 0, running := true }

/-- The dwell claim of a standstill that ends (R108). -/
def Node.claimDwell (n : Node) : Node :=
  if n.prot.timer = 0 then n
  else { n with window := n.window.write Claim.whole fun _ b => addDwell n.prot.timer b }

/-- The Protection Unit takes a change of view (R107, R108). -/
def Node.timerOnView (before after : View) (n : Node) : Node :=
  if after = .unknown then { n with prot := n.prot.stopTimer }
  else if after.standing then
    if before.standing then n else { n with prot := n.prot.startTimer }
  else if before.standing then
    let m := n.claimDwell
    { m with prot := m.prot.stopTimer }
  else n

/-- The OVERDRY claim (R111). -/
def Node.claimOverdry (n : Node) : Node :=
  { n with
    window := n.window.write (Claim.span n.len.tracking n.config.spanStart n.config.spanEnd)
      fun _ b => setFlag RecordFlag.overdry b }

end Sys2Proof.Machine
end

