-- ==== Sys2Proof/Machine/Marks.lean ====
section
/-! DEFINITION. The Mark Unit (Section 3): opening, stamping, counting down and closing span marks,
and stamping a point mark. -/

namespace Sys2Proof.Machine

/-- The span claim of this station at tracking length `l` (R49, R50, R111). -/
def Node.spanClaim (n : Node) : Claim :=
  Claim.span n.len.tracking n.config.spanStart n.config.spanEnd

/-- The entry a span mark stamps: a span kind has no offset (R46, R153). -/
def spanEntry (station : Nat) (k : MarkKind) (id : Nat) : MarkEntry :=
  { kind := k, id := id, station := station, offset := 0 }

/-- Entries dropped when `m` is offered to the records a claim reaches (R46). -/
def Window.dropCount (c : Claim) (m : MarkEntry) (w : Window) : Nat :=
  ((w.reached c).filter fun hb => drops m hb.2).length

/-- An entry offered to the records a claim reaches (R46). -/
def Window.stamp (c : Claim) (m : MarkEntry) (w : Window) : Window :=
  w.write c fun _ b => offerEntry m b

/-- The frontier after a claim: the first number of the newest record offered (R49, R50). -/
def Window.frontier (c : Claim) (w : Window) (old : Nat) : Nat :=
  match (w.reached c).getLast? with
  | some hb => hb.2.first
  | none => old

/-- The table when a mark of kind `k` is about to open: an open STOP or TRIP gives way to a new one
(R49). -/
def tableFor (k : MarkKind) (t : List SpanMark) : List SpanMark :=
  if k.stopOrTrip then t.filter fun s => !s.kind.stopOrTrip else t

/-- The mark that an opening evicts (R57). -/
def Node.evicted (k : MarkKind) (n : Node) : Option SpanMark :=
  if Config.markCapacity ≤ (tableFor k n.marks.table).length then (tableFor k n.marks.table).head?
  else none

/-- The table with room for one more mark (R49, R57). -/
def Node.roomFor (k : MarkKind) (n : Node) : List SpanMark :=
  if Config.markCapacity ≤ (tableFor k n.marks.table).length then (tableFor k n.marks.table).tail
  else tableFor k n.marks.table

/-- A span mark opens (R49, R57). -/
def Node.openSpan (k : MarkKind) (id : Nat) (n : Node) : Node :=
  let m := spanEntry n.config.station k id
  let mark : SpanMark :=
    { kind := k, id := id, countdown := if k.stopOrTrip then .held else .noCountdown
      opening := n.len.tracking, frontier := n.window.frontier n.spanClaim 0 }
  let opened :=
    { n with marks.table := n.roomFor k ++ [mark], window := n.window.stamp n.spanClaim m }
  Node.report (CounterEvent.markOpened k)
    (Node.faultTimes .marksOverflow (n.window.dropCount n.spanClaim m)
      (if (n.evicted k).isSome then opened.fault .markEvicted else opened))

/-- What the sweep of an advance carries from mark to mark: the window, the marks that stay open and
the entries dropped. -/
structure Sweep where
  window : Window
  open_ : List SpanMark
  dropped : Nat

/-- The claim of an open mark at an advance: records in the span newer than its frontier (R50). -/
def frontierClaim (c : Claim) (s : SpanMark) : Claim :=
  c.narrow fun b => decide (s.frontier = 0) || segNewer b.first s.frontier

/-- The countdown after an advance of `mm`; none when the mark closes (R50). -/
def Countdown.after (mm : Nat) : Countdown → Option Countdown
  | .held => some .held
  | .noCountdown => some .noCountdown
  | .running c => if c ≤ mm then none else some (.running (c - mm))

/-- One open mark at an advance: it stamps, then counts down (R50). -/
def Sweep.mark (c : Claim) (station mm : Nat) (acc : Sweep) (s : SpanMark) : Sweep :=
  let claim := frontierClaim c s
  let m := spanEntry station s.kind s.id
  { window := acc.window.stamp claim m
    dropped := acc.dropped + acc.window.dropCount claim m
    open_ :=
      match s.countdown.after mm with
      | some d =>
        acc.open_ ++ [{ s with countdown := d, frontier := acc.window.frontier claim s.frontier }]
      | none => acc.open_ }

/-- The Mark Unit takes an advance of `mm` (R50). -/
def Node.sweepMarks (mm : Nat) (n : Node) : Node :=
  let r := n.marks.table.foldl (Sweep.mark n.spanClaim n.config.station mm)
    { window := n.window, open_ := [], dropped := 0 }
  Node.faultTimes .marksOverflow r.dropped { n with window := r.window, marks.table := r.open_ }

/-- The countdown of a held STOP or TRIP mark starts (R53). -/
def SpanMark.start (mm : Nat) (s : SpanMark) : SpanMark :=
  if s.kind.stopOrTrip ∧ s.countdown = .held then { s with countdown := .running mm } else s

/-- The Mark Unit takes a change of view (R52, Table 3-2); in OFFLINE it opens no mark. -/
def Node.marksOnView (before after : View) (number : Nat) (n : Node) : Node :=
  if after.moving && !before.moving then
    { n with
      marks.table := n.marks.table.map
        (SpanMark.start (n.config.spanEnd - n.config.spanStart + n.config.markTail)) }
  else if n.bus.participation = .offline then n
  else if after = .trip ∧ before ≠ .trip then n.openSpan .trip number
  else if after = .standstill ∧ (before.moving ∨ before = .unknown) then n.openSpan .stop number
  else n

/-- What became of a point mark (R58): outcome code of Table 8-12, range and offset. -/
structure PointOutcome where
  outcome : Nat
  first : Nat
  last : Nat
  offset : Nat
  deriving DecidableEq, Repr

/-- Outcome codes of POST_MARK (Table 8-12). -/
def OfferOutcome.code : OfferOutcome → Nat
  | .stamped => 0 | .duplicate => 1 | .overflow => 2

/-- A point mark stamped through a claim that is at reach position `p`: its offset on a record with
head `h` is `L - p - h` (R46, R58). -/
def Node.pointEntry (k : MarkKind) (id p head : Nat) (n : Node) : MarkEntry :=
  { kind := k, id := id, station := n.config.station, offset := n.len.tracking - p - head }

/-- What a point mark at position `p` will do to the record the claim reaches (R58). -/
def Node.pointOutcome (c : Claim) (k : MarkKind) (id p : Nat) (n : Node) : PointOutcome :=
  match n.window.reached c with
  | [] => { outcome := 3, first := 0, last := 0, offset := 0 }
  | (h, b) :: _ =>
    { outcome := (offerOutcome (n.pointEntry k id p h) b).code, first := b.first, last := b.last
      offset := n.len.tracking - p - h }

/-- A point mark is stamped (R46, R58). -/
def Node.stampPoint (c : Claim) (k : MarkKind) (id p : Nat) (n : Node) : Node :=
  Node.faultTimes .marksOverflow
    ((n.window.reached c).filter fun hb => drops (n.pointEntry k id p hb.1) hb.2).length
    { n with window := n.window.write c fun h b => offerEntry (n.pointEntry k id p h) b }

end Sys2Proof.Machine
end

