-- ==== Sys2Proof/Machine/Adoption.lean ====
section
/-! DEFINITION. The Line State Unit (Section 5): the adoption of a pair (R86 to R91), announcements
(R92 to R94) and proposals (R96 to R102). -/

namespace Sys2Proof.Machine

/-- What the adoption rule decides about a pair (Table 5-2). -/
inductive Decision
  | ignore
  | adopt
  | relay
  deriving DecidableEq, Repr

/-- The adoption rule for the pair (`m`, `s`); `clears` tells that it comes from an ENACT whose
target is STANDSTILL (R88 to R90, Table 5-2). -/
def LineState.judge (l : LineState) (m : Nat) (s : View) (clears : Bool) : Decision :=
  match l.view with
  | .unknown => .adopt
  | .trip =>
    if evNewer m l.number then
      if s = .trip ∨ clears = true then .adopt else .relay
    else .ignore
  | v =>
    if evNewer m l.number then .adopt
    else if m = l.number ∧ s.rank < v.rank then .adopt
    else .ignore

/-- The Length Unit restarts the stall timer when CREEP or RUN is adopted from another view (R7). -/
def Node.stallOnView (before after : View) (n : Node) : Node :=
  if after.moving && !before.moving then { n with len.stallTimer := 0 } else n

/-- A change of the view is reported: VIEW_CHANGED, the Mark Unit, the Protection Unit, the Length
Unit, the counters and the action lines (R87). -/
def Node.viewReported (before after : View) (number : Nat) (n : Node) : Node :=
  (((n.notice Notice.viewChanged).marksOnView before after number).timerOnView before after).stallOnView
    before after

/-- A change of number ends the own proposal and closes the proposal view (R99, R101). -/
def Node.numberChanged (n : Node) : Node :=
  let m := n.abandonOwn
  { m with line.proposalView := none }

/-- Adopts number `m` and view `s`, with the reports of R87 (R88). The model's choice: the action lines are
evaluated once, when the change of view and the marks it closes have both been taken, so a condition that
turns false as the view leaves RUN sets no latch (R116, log 36); and an adoption that keeps the number
leaves the proposal view open, that of an ENACT of another id too (R99, log 47). -/
def Node.adoptPair (m : Nat) (s : View) (n : Node) : Node :=
  let n1 := if m = n.line.number then n else n.numberChanged
  let n2 := { n1 with line.view := s, line.number := m }
  if s = n.line.view then n2.settle else (n2.viewReported n.line.view s m).settle

/-- The own station announces a STOP (`trip` false) or a TRIP: it is offered, adopted at once and
becomes the last announcement (R90 to R93, log 22). -/
def Node.announce (trip : Bool) (p : AnnouncePayload) (n : Node) : Node :=
  let offered := n.offer (if trip then .trip p else .stop p)
  let adopted := offered.adoptPair p.number (if trip then .trip else .standstill)
  { adopted with
    line.lastAnnouncement := some
      { trip := trip, sender := n.config.station, number := p.number, source := p.source,
        detail := p.detail } }

/-- In ACTIVE a RELAY TRIP one newer than the pair not adopted, its detail the sender (R90). -/
def Node.relayTrip (sender m : Nat) (n : Node) : Node :=
  if n.active then
    n.announce true { number := evSucc m, source := .relay, detail := sender }
  else n

/-- A pair is taken from a frame of `sender` (R88 to R90); `ann` is the announcement it becomes when
it is adopted from a STOP or TRIP (R91). -/
def Node.takePair (sender m : Nat) (s : View) (clears : Bool) (ann : Option Announcement)
    (n : Node) : Node :=
  match n.line.judge m s clears with
  | .ignore => n
  | .relay => n.relayTrip sender m
  | .adopt =>
    let adopted := n.adoptPair m s
    match ann with
    | some a => { adopted with line.lastAnnouncement := some a }
    | none => adopted

/-- The view becomes STANDSTILL with number 0 when JOINING ends while it is UNKNOWN (R89). -/
def Node.standstillIfUnknown (n : Node) : Node :=
  if n.line.view = .unknown then n.adoptPair 0 .standstill else n

/-! ### Proposals -/

/-- The legal moves (Table 5-3). -/
def legalMove (view target : View) : Bool :=
  match view, target with
  | .standstill, .creep => true
  | .standstill, .run => true
  | .creep, .run => true
  | .run, .creep => true
  | .trip, .standstill => true
  | _, _ => false

/-- The own proposal is VOTING (R97). -/
def Node.voting (n : Node) : Bool :=
  match n.line.own with
  | some { phase := .voting _ _ _, .. } => true
  | _ => false

/-- The own proposal is QUEUED (R96). -/
def Node.queuedOwn (n : Node) : Bool :=
  match n.line.own with
  | some { phase := .queued, .. } => true
  | _ => false

/-- The own proposal ends ENACTED: its ENACT becomes PENDING and is offered (R100, R102). -/
def Node.enactOwn (n : Node) : Node :=
  match n.line.own with
  | none => n
  | some o =>
    let m := n.endOwn (.enacted .pending)
    Node.offer (.enact { id := o.id, base := o.base, number := evSucc o.base, target := o.target })
      { m with line.enact := some { id := o.id, number := evSucc o.base } }

/-- The electorate: every PRESENT entry but the self entry (R132). -/
def Roster.electorate (r : Roster) : List Nat :=
  (r.others.filter fun e => e.present).map fun e => e.station

/-- The own PROPOSE has been transmitted (R97). -/
def Node.proposeSent (i : ProposalId) (n : Node) : Node :=
  match n.line.own with
  | none => n
  | some o =>
    if o.id = i ∧ o.phase = .queued then
      let m := { n with line.own := some { o with phase := .voting n.roster.electorate [] 0 } }
      if n.roster.electorate.isEmpty then m.enactOwn else m
    else n

/-- The first hold reason for a received PROPOSE, BUSY excepted, in the order of Table 5-4 (R98). -/
def Node.answerReason (p : ProposePayload) (n : Node) : Option HoldReason :=
  if p.base ≠ n.line.number ∨ legalMove n.line.view p.target = false then some .stale
  else (n.holdReasons p.target).head?

/-- The answer to a PROPOSE (R98). -/
def answerFrame (i : ProposalId) (r : Option HoldReason) : Frame :=
  match r with
  | some reason => .hold { id := i, reason := reason }
  | none => .assent i

/-- In ACTIVE an answer is offered (R98). -/
def Node.answer (i : ProposalId) (r : Option HoldReason) (n : Node) : Node :=
  if n.active then n.offer (answerFrame i r) else n

/-- A received PROPOSE (R97, R98). -/
def Node.takePropose (p : ProposePayload) (n : Node) : Node :=
  let m := if n.queuedOwn then n.abandonOwn else n
  if m.line.proposalView.isSome || m.voting then m.answer p.id (some .busy)
  else
    Node.answer p.id (m.answerReason p)
      { m with
        line.proposalView := some { id := p.id, base := p.base, target := p.target, timer := 0 } }

/-- A received ASSENT (R100): the expiry of the vote timer is VOTE_TIMEOUT, and an assent taken before it
counts. -/
def Node.takeAssent (sender : Nat) (i : ProposalId) (n : Node) : Node :=
  match n.line.own with
  | some { id := own, base := base, target := target, phase := .voting electorate assents timer } =>
    if own = i ∧ sender ∈ electorate ∧ sender ∉ assents then
      let m := { n with
        line.own := some
          { id := own, base := base, target := target,
            phase := .voting electorate (assents ++ [sender]) timer } }
      if electorate.all (fun s => decide (s ∈ assents ++ [sender])) then m.enactOwn else m
    else n
  | _ => n

/-- A received HOLD for the own proposal (R100, log 14). -/
def Node.takeHold (sender : Nat) (p : HoldPayload) (n : Node) : Node :=
  match n.line.own with
  | some o => if o.id = p.id then n.endAndWithdraw (.denied p.reason sender) else n
  | none => n

/-- An ENACT bearing the proposal view's id closes it (R99). -/
def Node.closeViewOf (i : ProposalId) (n : Node) : Node :=
  match n.line.proposalView with
  | some v => if v.id = i then { n with line.proposalView := none } else n
  | none => n

/-- A received ENACT (R88, R90, R99). -/
def Node.takeEnact (sender : Nat) (p : EnactPayload) (n : Node) : Node :=
  (n.takePair sender p.number p.target (decide (p.target = .standstill)) none).closeViewOf p.id

/-- The own ENACT has been transmitted: its fate, and its pair taken (R102). -/
def Node.enactSent (p : EnactPayload) (n : Node) : Node :=
  Node.takePair n.config.station p.number p.target (decide (p.target = .standstill)) none
    { n with line := n.line.enactFate .sent }

end Sys2Proof.Machine
end

