-- ==== Sys2Proof/Machine/Faults.lean ====
section
/-! DEFINITION. The Fault Unit (R183, R184) and the withdrawal of a station by a FATAL fault (R94,
R149). -/

namespace Sys2Proof.Machine

/-- The detected count of a kind is raised, holding at 255 (R183). -/
def Node.countFault (k : FaultKind) (n : Node) : Node :=
  { n with faults.counts := n.faults.counts.modify k.index fun c => addHold 255 c 1 }

/-- The class of a kind at this station (R183, Table 11-4). -/
def Node.faultClass (k : FaultKind) (n : Node) : FaultClass :=
  k.classOf n.fallback n.faults.escalation

/-- The notice enable of a class: bits 0 to 2 of the reporting enables (Table 11-2). -/
def FaultUnit.noticeEnabled (c : FaultClass) (f : FaultUnit) : Bool := f.enables.getLsbD (c.code - 1)

/-- The FAULT frame enable of a class: bits 4 and 5 (Table 11-2); a FATAL fault offers none (R184). -/
def FaultUnit.frameEnabled (c : FaultClass) (f : FaultUnit) : Bool :=
  decide (c ≠ .fatal) && f.enables.getLsbD (c.code + 3)

/-- The notice of a fault's class, when it is enabled (R183, R184). -/
def Node.faultNotice (c : FaultClass) (n : Node) : Node :=
  if n.faults.noticeEnabled c then n.notice (Notice.ofClass c) else n

/-- Participation leaves its state for `p`, and the timers stop (R146, R148 to R150). An own proposal
ends ABANDONED; a hold reason that comes to hold at the same time may end it first (R100, R101,
log 4). The queue is purged (R141). -/
def Node.leaveFor (p : Participation) (n : Node) : Node :=
  let m := Node.notice Notice.participationChanged
    { n with bus.participation := p, bus.joinRunning := false, bus.statusRunning := false,
             bus.statusTimer := 0 }
  if n.line.own.isSome then
    (if m.choice 2 = 0 then (m.spend 2).abandonOwn else (m.spend 2).settle.abandonOwn).purge
  else m.purge

/-- The first-fatal record, made when none is held (R184). -/
def Node.recordFatal (k : FaultKind) (n : Node) : Node :=
  match n.faults.firstFatal with
  | some _ => n
  | none =>
    { n with
      faults.firstFatal := some
        { kind := k, tracking := n.len.tracking, view := n.line.view,
          participation := n.bus.participation } }

/-- The TRIP of a withdrawal (R94). -/
def Node.fatalTrip (k : FaultKind) (n : Node) : Node :=
  let p : AnnouncePayload := { number := evSucc n.line.number, source := .fault, detail := k.code }
  let adopted := (n.offerWithdrawal p).adoptPair p.number .trip
  { adopted with
    line.tripUnack := true
    line.lastAnnouncement := some
      { trip := true, sender := n.config.station, number := p.number, source := .fault,
        detail := k.code } }

/-- A FATAL fault withdraws the station (R94, R149, R184). -/
def Node.withdraw (k : FaultKind) (n : Node) : Node :=
  ((((n.recordFatal k).faultNotice .fatal).leaveFor .withdrawing).fatalTrip k).settle

/-- The notice and, when `frames` allows it, the FAULT frame of a fault that is not FATAL (R183). -/
def Node.reportClass (frames : Bool) (c : FaultClass) (k : FaultKind) (n : Node) : Node :=
  let m := n.faultNotice c
  if frames && n.active && n.faults.frameEnabled c then m.offer (.fault { cls := c, kind := k }) else m

/-- The Fault Unit takes a fault (R183, R184). -/
def Node.takeFault (n : Node) (r : FaultReport) : Node :=
  let m := n.countFault r.kind
  if n.faultClass r.kind = .fatal then
    if n.onLine then m.withdraw r.kind else m
  else m.reportClass (!r.silent) (n.faultClass r.kind) r.kind

/-- A fault that comes of taking a fault: it makes no FAULT frame (R140, R183). -/
def Node.takeFollowing (n : Node) (r : FaultReport) : Node :=
  let m := n.countFault r.kind
  if n.faultClass r.kind = .fatal then
    if n.onLine then m.withdraw r.kind else m
  else m.reportClass false (n.faultClass r.kind) r.kind

/-- A fault that comes of a withdrawal: the station is WITHDRAWING, so a FATAL one is counted only
and no frame is offered (R183, R184). -/
def Node.takeCounted (n : Node) (r : FaultReport) : Node :=
  let m := n.countFault r.kind
  if n.faultClass r.kind = .fatal then m else m.reportClass false (n.faultClass r.kind) r.kind

/-- The faults reported are taken one after the other by `take`, in an order the spec leaves open
(R183, log 4). -/
def Node.takeReported (take : Node → FaultReport → Node) (n : Node) : Node :=
  (n.inOrder n.faults.reported).foldl take
    (Node.spendOrder n.faults.reported.length { n with faults.reported := [] })

/-- The Fault Unit takes every fault reported: those of the block, those that taking them makes, and
those that a withdrawal among these makes (R183, log 21). -/
def Node.takeFaults (n : Node) : Node :=
  if n.faults.reported.isEmpty then n
  else
    let m := ((n.takeReported Node.takeFault).takeReported Node.takeFollowing).takeReported
      Node.takeCounted
    { m with faults.reported := [] }

/-- A block has done with an event: its faults are taken and the blocks that follow its state take it
in. Where an own proposal is open, a hold reason that came to hold may end it before the faults are
taken (R100, R101, log 4). -/
def Node.finish (n : Node) : Node :=
  if n.line.own.isSome && !n.faults.reported.isEmpty then
    if n.choice 2 = 0 then (n.spend 2).takeFaults.settle
    else (n.spend 2).settle.takeFaults.settle
  else n.takeFaults.settle

end Sys2Proof.Machine
end

