-- ==== Sys2Proof/Machine/Choices.lean ====
section
/-! DEFINITION. The Roster's choices of upstream neighbour (R129) and speed reference (R131), the
gap in force the Handover Engine derives from the first (R68), and the creel condition (R128). -/

namespace Sys2Proof.Machine

/-- Upstream order: a lower order, and at equal order a lower station number, lies further upstream
(7.4). -/
def upstreamOf (o s o' s' : Nat) : Bool := decide (o < o') || (decide (o = o') && decide (s < s'))

/-- The entry lies upstream of the place of order `o` and station `s`; entries without a descriptor
have no place (7.4). -/
def RosterEntry.upstreamOf (o s : Nat) (e : RosterEntry) : Bool :=
  match e.descriptor with
  | some d => Machine.upstreamOf d.order e.station o s
  | none => false

/-- The entry lies downstream of the place of order `o` and station `s` (7.4). -/
def RosterEntry.downstreamOf (o s : Nat) (e : RosterEntry) : Bool :=
  match e.descriptor with
  | some d => Machine.upstreamOf o s d.order e.station
  | none => false

/-- Of two placed entries, the one further downstream (7.4). -/
def RosterEntry.nearer (a b : RosterEntry) : RosterEntry :=
  match b.descriptor with
  | some d => if a.upstreamOf d.order b.station then b else a
  | none => a

/-- The PRESENT entry nearest upstream of the place of order `o` and station `s` (R129). -/
def nearestUpstream (o s : Nat) (l : List RosterEntry) : Option RosterEntry :=
  match l.filter fun e => e.present && e.upstreamOf o s with
  | [] => none
  | e :: es => some (es.foldl RosterEntry.nearer e)

/-- The Roster's choice of upstream neighbour (R129). -/
def Node.chooseUpstream (n : Node) : Option Nat :=
  if n.bus.participation = .offline ∨ n.isOrigin = true then none
  else if n.config.neighbourMode = 1 then some n.config.forcedNeighbour
  else (nearestUpstream n.config.order n.config.station n.roster.others).map fun e => e.station

/-- The least of a list of numbers. -/
def least : List Nat → Option Nat
  | [] => none
  | a :: as => some (as.foldl min a)

/-- The PRESENT TERMINALs by station number, the self entry among them (R131). -/
def Node.terminals (n : Node) : List Nat :=
  (if n.isTerminal then [n.config.station] else []) ++
  (n.roster.others.filter fun e =>
    e.present && (match e.descriptor with | some d => decide (d.role = .terminal) | none => false)).map
      fun e => e.station

/-- The Roster's choice of speed reference (R131). -/
def Node.chooseReference (n : Node) : Option Nat :=
  if n.config.referenceMode = 1 then some n.config.referenceStation else least n.terminals

/-- The reach plus entry gap of an entry, 0 without a descriptor (R68). -/
def RosterEntry.path (e : RosterEntry) : Nat :=
  match e.descriptor with
  | some d => d.reach + d.entryGap
  | none => 0

/-- The placed entries strictly between the chosen station and this one (R68, 7.4): none in FORCED
mode or when nothing is chosen. -/
def Node.between (chosen : Option Nat) (n : Node) : List RosterEntry :=
  match chosen with
  | none => []
  | some s =>
    if n.config.neighbourMode = 1 then []
    else
      match (n.roster.entry? s).bind fun e => e.descriptor with
      | none => []
      | some d => n.roster.others.filter fun e =>
          e.downstreamOf d.order s && e.upstreamOf n.config.order n.config.station

/-- The added length of bridging (R68). -/
def Node.addedLength (chosen : Option Nat) (n : Node) : Nat :=
  ((n.between chosen).map RosterEntry.path).sum

/-- The Handover Engine takes a change of the choice (R68). -/
def Node.takeNeighbour (chosen : Option Nat) (n : Node) : Node :=
  { n with
    handover.neighbour := chosen
    handover.gap := n.config.entryGap + n.addedLength chosen
    handover.allowance := n.addedLength chosen / 10
    handover.bridging := !(n.between chosen).isEmpty }

/-- A change of the choice of upstream neighbour is reported and sets NEIGHBOUR_CHANGED; the same
choice made again is no change (R129). -/
def Node.remakeUpstream (n : Node) : Node :=
  if n.chooseUpstream = n.roster.upstream then n
  else
    Node.notice Notice.neighbourChanged
      (Node.takeNeighbour n.chooseUpstream { n with roster.upstream := n.chooseUpstream })

/-- The choice of speed reference is made again, and the Length Unit takes it (R131, R10). -/
def Node.remakeReference (n : Node) : Node :=
  Node.refreshReference { n with roster.reference := n.chooseReference }

/-- Both choices are made again (R129, R131). -/
def Node.remakeChoices (n : Node) : Node := n.remakeUpstream.remakeReference

/-- An entry that makes the creel condition true (R128). -/
def RosterEntry.creel (own : Nat) (e : RosterEntry) : Bool :=
  e.present && decide (e.station < own) &&
  (match e.descriptor with | some d => decide (d.role = .origin) | none => false)

/-- The creel condition, kept at the ORIGIN alone (R128). -/
def Node.creel (n : Node) : Bool :=
  n.isOrigin && n.roster.others.any (RosterEntry.creel n.config.station)

end Sys2Proof.Machine
end

