-- ==== Sys2Proof/Machine/Participation.lean ====
section
/-! DEFINITION. Changes of participation (R146 to R151): entry to ACTIVE, LISTEN, OFFLINE and JOINING,
with what the other blocks do at each. -/

namespace Sys2Proof.Machine

/-- What leaving JOINING for ACTIVE or LISTEN does at the window and at the line view (R32, R89). -/
def Node.endJoining (n : Node) : Node := n.openFirst.standstillIfUnknown

/-- Entry to ACTIVE from JOINING (R145, R147, log 18). -/
def Node.enterActive (n : Node) : Node :=
  let m := Node.notice Notice.participationChanged
    { n with bus.participation := .active, bus.joinTimer := Config.joinTime,
             bus.joinRunning := false, bus.statusTimer := 0, bus.statusRunning := true }
  m.endJoining.generateStatus

/-- Entry to LISTEN from JOINING or ACTIVE (R148). -/
def Node.enterListen (n : Node) : Node :=
  let m := n.leaveFor .listen
  if n.bus.participation = .joining then m.endJoining else m

/-- JOINING and ACTIVE, which CREEL_CONFLICT and a request for LISTEN leave (R128, R146). -/
def Node.inService (n : Node) : Bool :=
  decide (n.bus.participation = .joining) || n.active

/-- CREEL_CONFLICT is recorded, and the station goes to LISTEN unless the fault has withdrawn it
(R128, R148, log 25). -/
def Node.creelConflict (n : Node) : Node :=
  let m := (n.fault .creelConflict).takeFaults
  if m.inService then m.enterListen else m

/-- Entry to JOINING (R122, R128, R147, R151). -/
def Node.enterJoining (n : Node) : Node :=
  let m := Node.remakeChoices
    (Node.notice Notice.participationChanged
      { n with bus.participation := .joining, bus.joinTimer := 0, bus.joinRunning := true,
               roster.highest := none })
  if m.creel then m.creelConflict else m

/-- The line view and number on entry to OFFLINE, with the report of a change to UNKNOWN (R85, R87). -/
def Node.forgetView (n : Node) : Node :=
  let m := { n with line.view := .unknown, line.number := 0, line.proposalView := none }
  if n.line.view = .unknown then m else m.viewReported n.line.view .unknown 0

/-- Entry to OFFLINE (R150 and the rules of the blocks: R25, R48, R63, R85, R107, R119, R122). -/
def Node.enterOffline (n : Node) : Node :=
  let left := n.leaveFor .offline
  let viewless := Node.forgetView
    { left with
      window := Window.empty, marks.table := [], handover.arrivals := []
      prot.lines := n.config.lines.zip ActionLine.hold n.prot.lines
      bus.idleCount := 0, bus.busyCount := 0, bus.joinTimer := 0, bus.tap.heard := [] }
  (Node.remakeChoices { viewless with roster.others := [] }).settle

end Sys2Proof.Machine
end

