-- ==== Sys2Proof/Machine/BusEvents.lean ====
section
/-! DEFINITION. The events of the Line Bus Interface: TRANSMIT_BEGIN, TRANSMIT_COMPLETE, COLLISION,
LINE_JAM, STATUS_TIMER and JOIN_TIMER_EXPIRY (R142 to R145, R147). -/

namespace Sys2Proof.Machine

/-- The frame is a TRIP. -/
def QueuedFrame.isTrip (q : QueuedFrame) : Bool :=
  match q.frame with
  | .trip _ => true
  | _ => false

/-- A frame that participation lets be sent: any in ACTIVE, TRIP alone in WITHDRAWING (R142). -/
def Node.maySend (n : Node) (q : QueuedFrame) : Bool :=
  n.active || (decide (n.bus.participation = .withdrawing) && q.isTrip)

/-- The lowest class among the frames that may be sent (R142). -/
def Node.chosenClass (n : Node) : Option Nat :=
  least ((n.bus.queue.filter n.maySend).map fun q => q.frame.cls)

/-- The frame is of the chosen class; the oldest such frame is the chosen one (R142). -/
def Node.choosable (n : Node) (q : QueuedFrame) : Bool :=
  n.maySend q && decide (n.chosenClass = some q.frame.cls)

/-- The chosen frame: the most urgent, and the oldest of its class (R142). -/
def Node.chosenFrame (n : Node) : Option QueuedFrame := n.bus.queue.find? n.choosable

/-- The chosen frame begins: LDE asserted, its bytes on LTX (R135, R136, R142). The next bit time drives its
dominant start bit, at which the line stops being idle; the ends of a transmission that come before it has
passed take it as driven (`Node.lineSent`, `Node.lineDominant`, `LineTap.undriven`; log 39). -/
def Node.beginFrame (q : QueuedFrame) (n : Node) : Node :=
  Node.useFill
    { n with
      bus.queue := changeFirst n.choosable (fun q => { q with inTransmission := true }) n.bus.queue
      bus.lde := true
      bus.ltx := frameBytes n.config.station (n.fill 0 4) q.frame
      bus.idleCount := 0
      bus.tap.driven := 0
      bus.tap.clash := false }

/-- The effect of TRANSMIT_BEGIN (R142): the command says that the idle count has reached the chosen
frame's gap (log 3); where time passes, `Node.gapReached` tests it. -/
def Node.transmitBegin (n : Node) : Node :=
  if n.transmitting.isSome then n
  else
    match n.chosenFrame with
    | none => n
    | some q => n.beginFrame q

/-- TRANSMIT_BEGIN (R142). -/
def execTransmitBegin (s : State) : Host.Outcome State Fault Refusal := s.act Node.transmitBegin

/-- The frame in transmission leaves the queue and the line is released (R142). -/
def Node.leaveQueue (n : Node) : Node :=
  Node.release { n with bus.queue := n.bus.queue.eraseP fun q => q.inTransmission }

/-- The recessive bits that end a byte on the line: its stop bit and the 1s before it (R135). -/
def recessiveTail (b : Byte) : Nat := ((lineBits b).reverse.takeWhile fun recessive => recessive).length

/-- The own frame's last stop bit has been driven and read back: the line has been recessive since the
last dominant bit of the frame's last byte, and is not idle yet; the own frame is no frame received (R135,
R138, R142; log 39). -/
def Node.lineSent (n : Node) : Node :=
  { n with
    bus.idleCount := 0
    bus.tap.lrx := false
    bus.tap.recessive := recessiveTail (n.bus.ltx.getLastD 0)
    bus.tap.heard := [] }

/-- A bit has been read back dominant: the line is not idle (R135, R143; log 39). -/
def Node.lineDominant (n : Node) : Node :=
  { n with bus.idleCount := 0, bus.tap.lrx := true, bus.tap.recessive := 0 }

/-- Completion reported to the offering block (R67, R97, R102, R141, R142, R149). -/
def Node.frameSent (q : QueuedFrame) (n : Node) : Node :=
  if q.ofWithdrawal then n.enterOffline
  else if q.withdrawn then n
  else
    match q.frame with
    | .handoff _ => n.report (CounterEvent.handoffSent 0)
    | .propose p => n.proposeSent p.id
    | .enact p => n.enactSent p
    | _ => n

/-- The frame in transmission; none before START, when the part sends nothing (R135, R142). -/
def Node.sending (n : Node) : Option QueuedFrame := if n.configured then n.transmitting else none

/-- The effect of TRANSMIT_COMPLETE (R142). -/
def Node.transmitComplete (n : Node) : Node :=
  match n.sending with
  | none => n
  | some q => (n.lineSent.leaveQueue.frameSent q).finish

/-- TRANSMIT_COMPLETE (R142). -/
def execTransmitComplete (s : State) : Host.Outcome State Fault Refusal := s.act Node.transmitComplete

/-- The frame stays in its place with its collision count raised (R143). -/
def Node.retry (n : Node) : Node :=
  Node.release
    { n with
      bus.queue := changeFirst (fun q => q.inTransmission)
        (fun q => { q with inTransmission := false, collisions := q.collisions + 1 }) n.bus.queue }

/-- COLLISION is recorded and reported (R143). -/
def Node.collided (n : Node) : Node := (n.fault .collision).report CounterEvent.collided

/-- The frame is abandoned at its sixteenth collision; the station leaves ACTIVE for LISTEN, unless
the fault has withdrawn it, and WITHDRAWING for OFFLINE (R143, R148, R149). -/
def Node.abandonFrame (q : QueuedFrame) (n : Node) : Node :=
  let m := (((n.leaveQueue.collided).frameLost q).fault .transmitAbandoned).finish
  if n.bus.participation = .withdrawing then m.enterOffline.finish
  else if m.active then m.enterListen.finish
  else m

/-- A frame whose bit has been read back different is removed when it is withdrawn, abandoned at its
sixteenth collision, and otherwise kept (R141, R143). -/
def Node.frameCollided (q : QueuedFrame) (n : Node) : Node :=
  if q.withdrawn then n.leaveQueue.collided.finish
  else if Config.collisionLimit ≤ q.collisions + 1 then n.abandonFrame q
  else n.retry.collided.finish

/-- The effect of COLLISION (R143). -/
def Node.collision (n : Node) : Node :=
  match n.sending with
  | none => n
  | some q => n.lineDominant.frameCollided q

/-- COLLISION (R143). -/
def execCollision (s : State) : Host.Outcome State Fault Refusal := s.act Node.collision

/-- The effect of LINE_JAM (R144). -/
def Node.lineJam (n : Node) : Node :=
  if n.receiving then (n.enterOffline.fault .lineJam).finish else n

/-- LINE_JAM (R144). -/
def execLineJam (s : State) : Host.Outcome State Fault Refusal := s.act Node.lineJam

/-- The effect of STATUS_TIMER (R145). -/
def Node.statusPoint (n : Node) : Node :=
  if n.active then (Node.generateStatus { n with bus.statusTimer := 0 }).finish else n

/-- STATUS_TIMER (R145). -/
def execStatusTimer (s : State) : Host.Outcome State Fault Refusal := s.act Node.statusPoint

/-- The effect of JOIN_TIMER_EXPIRY (R147). -/
def Node.joinExpired (n : Node) : Node :=
  if n.bus.participation = .joining then n.enterActive.finish else n

/-- JOIN_TIMER_EXPIRY (R147). -/
def execJoinTimerExpiry (s : State) : Host.Outcome State Fault Refusal := s.act Node.joinExpired

end Sys2Proof.Machine
end

