-- ==== Sys2Proof/Machine/Line.lean ====
section
/-! DEFINITION. The line as the Line Bus Interface follows it (R135 to R138, R142 to R144): one bit time,
the frame assembled from the levels heard, and the events of the line that fall due. The levels of the
other stations are an input (log 9). -/

namespace Sys2Proof.Machine

/-! ### One bit time -/

/-- The bit presented on LTX in bit time `k` of a frame: 0 is dominant (R135). -/
def ltxBit (ltx : List Byte) (k : Nat) : Option Bool :=
  (ltx[k / 10]?).bind fun b => (lineBits b)[k % 10]?

/-- The bit the station presents on LTX in the next bit time; none while LDE is negated or the frame is
over (R135, R142). -/
def LineBus.presented (b : LineBus) : Option Bool :=
  if b.lde then ltxBit b.ltx b.tap.driven else none

/-- The level of the line in the next bit time: dominant when any station drives it so (R135). -/
def LineBus.level (b : LineBus) : Bool :=
  decide (b.presented = some false) || b.tap.others.headD false

/-- The line is idle (R135). -/
def LineBus.idle (b : LineBus) : Bool := decide (b.tap.recessive = Config.idleRun)

/-- Recessive bit times since the last dominant level, after the next bit time (R135). -/
def LineBus.recessiveAfter (b : LineBus) : Nat :=
  if b.level then 0 else addHold Config.idleRun b.tap.recessive 1

/-- The levels heard of a frame that is received: it begins at a dominant level of an idle line (R137). -/
def LineBus.heardAfter (receiving : Bool) (b : LineBus) : List Bool :=
  if receiving && (!b.tap.heard.isEmpty || (b.idle && b.level)) then b.level :: b.tap.heard
  else []

/-- One bit time of the line: the idle count grows on an idle line and a dominant level sets it to 0; the
busy count grows until the line is idle, while frames are received; a bit driven recessive and read back
dominant is a clash (R135, R137, R142 to R144). -/
def LineBus.bitTime (receiving : Bool) (b : LineBus) : LineBus :=
  { b with
    idleCount := if !b.level && b.idle then addHold Config.max16 b.idleCount 1 else 0
    busyCount :=
      if receiving && decide (b.recessiveAfter ≠ Config.idleRun) then
        addHold Config.max16 b.busyCount 1
      else 0
    tap :=
      { others := b.tap.others.tail
        lrx := b.level
        recessive := b.recessiveAfter
        heard := b.heardAfter receiving
        driven := b.tap.driven + bit b.presented.isSome
        clash := b.tap.clash || (decide (b.presented = some true) && b.level)
        phase := b.tap.phase + 1 } }

/-! ### The frame assembled -/

/-- The byte of eight levels, least significant bit first, dominant a 0 (R135). -/
def levelsByte (l : List Bool) : Byte :=
  BitVec.ofNat 8 (l.foldr (fun dominant acc => 2 * acc + bit (!dominant)) 0)

/-- The bytes of the levels heard, oldest first, each with the level of its stop bit: a byte begins at a
dominant level (R135, R137). The number bounds the bytes read. -/
def levelsBytes : Nat → List Bool → List (Byte × Bool)
  | 0, _ => []
  | _ + 1, [] => []
  | k + 1, false :: rest => levelsBytes k rest
  | k + 1, true :: rest =>
    (levelsByte (rest.take 8), (rest.drop 8).headD false) :: levelsBytes k (rest.drop 9)

/-- The receive command of a good frame (R137). -/
def receiveCommand (sender : Nat) : Frame → Instr
  | .status p => .receiveStatus sender p
  | .handoff p => .receiveHandoff sender p
  | .stop p => .receiveStop sender p
  | .trip p => .receiveTrip sender p
  | .propose p => .receivePropose sender p
  | .assent i => .receiveAssent sender i
  | .hold p => .receiveHold sender p
  | .enact p => .receiveEnact sender p
  | .fault p => .receiveFault sender p

/-- The command that the levels heard of a frame stand for once the line is idle (R137). -/
def heardCommand (heard : List Bool) : Instr :=
  let read := levelsBytes heard.length heard.reverse
  let bytes := read.map Prod.fst
  let badStop := read.findIdx? Prod.snd
  match judge bytes badStop with
  | .good sender f => receiveCommand sender f
  | _ => .frameDiscarded bytes badStop

/-! ### Events of the line -/

/-- The gap the chosen frame waits for, when none is in transmission (R142, Table 8-2). -/
def Node.waitingGap (n : Node) : Option Nat :=
  if n.transmitting.isSome then none
  else n.chosenFrame.map fun q => gapOf q.frame.cls n.config.station

/-- The idle count has reached the gap `gap` (R142). -/
def LineBus.gapReached (gap : Option Nat) (b : LineBus) : Bool :=
  match gap with
  | some g => decide (g ≤ b.idleCount)
  | none => false

/-- A bit of the own frame has been read back different (R143). -/
def LineBus.collides (b : LineBus) : Bool := b.lde && b.tap.clash

/-- Every bit of the own frame has been driven and read back unchanged (R142). -/
def LineBus.sentWhole (b : LineBus) : Bool :=
  b.lde && !b.tap.clash && decide (b.tap.driven = 10 * b.ltx.length)

/-- A frame has been heard and the line is idle again (R137). -/
def LineBus.frameHeard (b : LineBus) : Bool := b.idle && !b.tap.heard.isEmpty

/-- The line is jammed (R144). -/
def LineBus.jammed (b : LineBus) : Bool := decide (Config.jamLimit < b.busyCount)

/-- An event of the line is due, at a station that receives or not and whose chosen frame waits for
`gap`. -/
def LineBus.eventful (receiving : Bool) (gap : Option Nat) (b : LineBus) : Bool :=
  b.collides || b.sentWhole || b.gapReached gap || (receiving && (b.frameHeard || b.jammed))

/-- A command that is due when a condition holds. -/
def dueWhen (b : Bool) (c : Instr) : List Instr := if b then [c] else []

/-- The events of the line that are due (R137, R142 to R144). -/
def Node.lineDue (n : Node) : List Instr :=
  dueWhen (n.sending.isSome && n.bus.collides) .collision ++
  dueWhen (n.sending.isSome && n.bus.sentWhole) .transmitComplete ++
  dueWhen (n.configured && n.bus.gapReached n.waitingGap) .transmitBegin ++
  dueWhen (n.receiving && n.bus.frameHeard) (heardCommand n.bus.tap.heard) ++
  dueWhen (n.receiving && n.bus.jammed) .lineJam

/-- At most `k` bit times pass, until an event of the line is due. -/
def LineBus.bitTimes (receiving : Bool) (gap : Option Nat) : Nat → LineBus → LineBus
  | 0, b => b
  | k + 1, b =>
    let next := b.bitTime receiving
    if next.eventful receiving gap then next else LineBus.bitTimes receiving gap k next

end Sys2Proof.Machine
end

