-- ==== Sys2Proof/Machine/Handover.lean ====
section
/-! DEFINITION. The Handover Engine (Section 4): exit processing (R64 to R67, R82), matching an arrival
to the window (R76 to R81), taking a HANDOFF as an arrival (R70 to R74). -/

namespace Sys2Proof.Machine

/-! ### Exit processing -/

/-- The stretch of a record of local length `len` against its origin length, in 0.01 %, rounded toward
zero and held (R64). -/
def stretchOf (len : Nat) (origin : Option Nat) : Option Int :=
  match origin with
  | none => none
  | some o =>
    if o = 0 then none
    else some (max (-32768) (min 32767 ((((len : Int) - (o : Int)) * 10000).tdiv (o : Int))))

/-- An entry appended to a stretch trail of at most six (R65). -/
def appendTrail (t : TrailEntry) (l : List TrailEntry) : List TrailEntry :=
  (if Config.trailCapacity ≤ l.length then l.tail else l) ++ [t]

/-- The report of a stretch (R65). -/
def stretchEvent (s : Option Int) : CounterEvent :=
  match s with
  | none => CounterEvent.stretch 2 0
  | some v => CounterEvent.stretch (if v < 0 then 1 else 0) v.natAbs

/-- The measurement at exit: trail entry and report at a PATH or TERMINAL station (R64, R65). -/
def Node.measured (r : ClosedRecord) (n : Node) : Body :=
  if n.isOrigin then r.body
  else
    { r.body with
      trail := appendTrail
        { station := n.config.station, stretch := stretchOf (r.tail - r.head) r.body.origin }
        r.body.trail }

/-- The report made with the measurement (R65). -/
def Node.reportStretch (r : ClosedRecord) (n : Node) : Node :=
  if n.isOrigin then n else n.report (stretchEvent (stretchOf (r.tail - r.head) r.body.origin))

/-- A record is retired into the beam log (R82). -/
def Node.retire (b : Body) (len : Nat) (n : Node) : Node :=
  let entry : LogEntry :=
    { body := b, localLength := len, exitLength := n.len.tracking, beam := n.handover.beam }
  Node.notice Notice.logNotEmpty
    (if Config.logCapacity ≤ n.handover.log.length then
      Node.fault .logOverrun { n with handover.log := n.handover.log.tail ++ [entry] }
    else { n with handover.log := n.handover.log ++ [entry] })

/-- The disposal of an exiting record (R66, R67, R82). -/
def Node.dispose (b : Body) (len : Nat) (following : Option Nat) (n : Node) : Node :=
  if n.isTerminal then n.retire b len
  else if n.active then n.offer (.handoff { nextNominal := following, body := b })
  else n.report (CounterEvent.handoffSent 2)

/-- Exit processing of a record handed over with a following nominal length (R64 to R67). -/
def Node.exitRecord (r : ClosedRecord) (following : Option Nat) (n : Node) : Node :=
  (n.reportStretch r).dispose (n.measured r) (r.tail - r.head) following

/-- A closed record exits when its tail plus the reach is reached (R42). -/
def Node.exits (r : ClosedRecord) (n : Node) : Bool :=
  decide (r.tail + n.config.reach ≤ n.len.tracking)

/-- Records exit, oldest first, each handed over and its faults taken (R31, R42). -/
def Node.takeExits : Nat → Node → Node
  | 0, n => n
  | k + 1, n =>
    match n.window.closed with
    | [] => n
    | r :: rest =>
      if n.exits r then
        let m := { n with window.closed := rest }
        Node.takeExits k (m.exitRecord r m.followingNominal).takeFaults
      else n

/-! ### Matching -/

/-- BRIDGED and EARLY on the record that an arrival's content goes into (R81). -/
def Arrival.flag (early : Bool) (a : Arrival) (b : Body) : Body :=
  setFlagIf early RecordFlag.early (setFlagIf a.bridged RecordFlag.bridged b)

/-- The numbers skipped when an arrival's range begins beyond the successor of `e2` (R77). -/
def skipped (e2 : Nat) (a : Arrival) : Nat :=
  if segNewer a.body.first (segSucc e2) then segDist e2 a.body.first - 1 else 0

/-- The faults of entries dropped from mark lists (R46). -/
def Node.marksLost (count : Nat) (n : Node) : Node := n.faultTimes .marksOverflow count

/-- The first record of an empty window, made of an arrival (R80, R12). -/
def Node.firstRecord (early : Bool) (a : Arrival) (n : Node) : ClosedRecord :=
  let blank := { freshBody a.body.first .pending none 0 n.lengthDerived with last := a.body.last }
  { body := dropOrigin (setFlag RecordFlag.isPartial (a.flag early (fillBody blank a.body)))
    head := n.len.tracking, tail := n.len.tracking }

/-- An arrival applied to an empty window (R80). -/
def Node.applyFirst (early : Bool) (a : Arrival) (n : Node) : Node :=
  Node.report (CounterEvent.boundary 2 0)
    { n with
      window := { closed := [n.firstRecord early a]
                  entering := some
                    (n.newEntering (segSucc a.body.last) n.len.tracking a.nextNominal) } }

/-- The content of the entering record once an arrival's content is in it (R76, R77, R81). -/
def EnteringRecord.taken (early : Bool) (a : Arrival) (e : EnteringRecord) : Body :=
  let b := a.flag early (absorb e.body a.body)
  { b with skip := addHold Config.maxSkip b.skip (skipped e.body.last a) }

/-- The fault and the report of skipped numbers (R77). -/
def Node.reportSkip (count : Nat) (n : Node) : Node :=
  if count = 0 then n else (n.fault .numberSkip).report (CounterEvent.handoffMatch 3 count)

/-- An arrival as a boundary at the entering record `e` (R76, R77). -/
def Node.applyBoundary (early : Bool) (a : Arrival) (e : EnteringRecord) (n : Node) : Node :=
  let x := n.len.tracking
  Node.reportSkip (skipped e.body.last a)
    (Node.marksLost (absorbDrops e.body a.body)
      (if n.window.full then
        n.coalesce x e (e.taken early a) (some a.body.last) a.nextNominal
      else
        Node.report (CounterEvent.boundary 0 (x - e.head))
          (n.closeEntering x e (e.taken early a) (some a.body.last) a.nextNominal)))

/-- A record's range overlaps an arrival's (R20, R78). -/
def Arrival.overlaps (a : Arrival) (b : Body) : Bool :=
  rangesOverlap a.body.first a.body.last b.first b.last

/-- A resident PROVISIONAL record overlaps the arrival (R78). -/
def Arrival.fills (a : Arrival) (b : Body) : Bool :=
  decide (b.content = .provisional) && a.overlaps b

/-- The content of a record filled late (R29, R78, R81). -/
def Arrival.fillLate (early : Bool) (a : Arrival) (b : Body) : Body :=
  a.flag early (setFlag RecordFlag.late (fillBody b a.body))

/-- An arrival older than the entering record (R78, R79). -/
def Node.applyOlder (early : Bool) (a : Arrival) (n : Node) : Node :=
  match n.window.bodies.find? a.fills with
  | some b =>
    Node.report (CounterEvent.handoffMatch 0 0)
      (Node.marksLost (countDrops a.body.marks b)
        { n with window := n.window.changeOldest a.fills (a.fillLate early) })
  | none =>
    if n.window.bodies.any a.overlaps then
      (n.fault .handoffDuplicate).report (CounterEvent.handoffMatch 1 0)
    else (n.fault .handoffStale).report (CounterEvent.handoffMatch 2 0)

/-- An arrival is applied at the tracking length (4.5.1, Table 4-3). A window without an entering
record is empty (R24). -/
def Node.applyArrival (early : Bool) (a : Arrival) (n : Node) : Node :=
  match n.window.entering with
  | none => n.applyFirst early a
  | some e =>
    if segNotOlder a.body.last e.body.first then n.applyBoundary early a e else n.applyOlder early a

/-- The head arrival leaves the queue and is applied (R72, R73). -/
def Node.applyHead (early : Bool) (n : Node) : Node :=
  match n.handover.arrivals with
  | [] => n
  | a :: rest => Node.applyArrival early a { n with handover.arrivals := rest }

/-- The head arrival's due position is reached (R73). -/
def Node.arrivalDue (n : Node) : Bool :=
  match n.handover.arrivals with
  | [] => false
  | a :: _ => decide (a.due ≤ n.len.tracking)

/-- The Handover Engine's turn at an advance: one due arrival (R73). -/
def Node.handoverTurn (n : Node) : Node := if n.arrivalDue then n.applyHead false else n

/-! ### Taking -/

/-- The arrival a HANDOFF becomes when taken (R71). -/
def Node.arrivalOf (p : HandoffPayload) (n : Node) : Arrival :=
  { body := p.body, nextNominal := p.nextNominal, bridged := n.handover.bridging
    due := addHold Config.maxLength n.len.tracking n.handover.gap }

/-- An arrival joins the queue as the newest; a full queue first gives up its oldest, applied early
(R72, R74). -/
def Node.joinArrivals (a : Arrival) (n : Node) : Node :=
  let m :=
    if Config.arrivalCapacity ≤ n.handover.arrivals.length then
      (n.applyHead true).fault .arrivalOverrun
    else n
  { m with handover.arrivals := m.handover.arrivals ++ [a] }

/-- A HANDOFF is taken as an arrival at a PATH or TERMINAL station from its neighbour in force, and
applied at once when the gap in force is 0 and no arrival waits (R70, R71). -/
def Node.takeHandoff (sender : Nat) (p : HandoffPayload) (n : Node) : Node :=
  if n.isOrigin ∨ n.handover.neighbour ≠ some sender then n
  else if n.handover.gap = 0 ∧ n.handover.arrivals = [] then n.applyArrival false (n.arrivalOf p)
  else n.joinArrivals (n.arrivalOf p)

end Sys2Proof.Machine
end

