-- ==== Sys2Proof/Machine/Length.lean ====
section
/-! DEFINITION. The Length Unit (Section 1) and the advance of the tracking length with what every
block does at it (R5, R27, R31, R50, R73, R171). -/

namespace Sys2Proof.Machine

/-! ### The advance -/

/-- The blocks that act on an advance (R5). The Sensor Port and the Protection Unit take it too and
change nothing at it. -/
inductive Taker
  | window | handover | marks | counters
  deriving DecidableEq, Repr

/-- What a block does at an advance of `mm` (R31, R50, R73, R171). -/
def Node.takerTurn (t : Taker) (mm : Nat) (n : Node) : Node :=
  match t with
  | .window => (n.takeExits n.window.closed.length).testEntering
  | .handover => n.handoverTurn
  | .marks => n.sweepMarks mm
  | .counters => n.countLength mm

/-- The blocks still to act once the block at place `i` has had its turn: the Handover Engine stays
while another arrival is due (R73). -/
def takersLeft (l : List Taker) (i : Nat) (t : Taker) (n : Node) : List Taker :=
  if t = .handover ∧ n.arrivalDue = true then l else l.eraseIdx i

/-- The blocks act one after another in an order the spec leaves open (R27, R50, R70, R73, R171,
log 4); faults are taken after each turn (log 21). -/
def Node.advanceTurns : Nat → Nat → List Taker → Node → Node
  | 0, _, _, n => n
  | k + 1, mm, l, n =>
    match l[n.choice l.length]? with
    | none => n
    | some t =>
      let m := ((n.spend l.length).takerTurn t mm).finish
      Node.advanceTurns k mm (takersLeft l (n.choice l.length) t m) m

/-- An advance of `mm` millimetres, held at the length's limit (R5, R6); one of 0 mm is none (log 34). -/
def Node.advance (mm : Nat) (n : Node) : Node :=
  let d := min mm (Config.maxLength - n.len.tracking)
  if d = 0 then n
  else
    Node.advanceTurns (4 + n.handover.arrivals.length) d
      [.window, .handover, .marks, .counters]
      { n with
        len.tracking := n.len.tracking + d
        len.speedSum := addHold Config.maxLength n.len.speedSum d }

/-! ### Pulses -/

/-- What a change of level is (R1). -/
inductive Count
  | forward | reverse | none
  deriving DecidableEq, Repr

/-- A change of level judged against the quadrature state: in the forward cycle ENC_A changes a
quarter cycle before ENC_B, so (A, B) is followed by (not B, A) (R1). -/
def judgeQuadrature (qa qb a b : Bool) : Count :=
  if a = !qb ∧ b = qa then .forward
  else if a = qb ∧ b = !qa then .reverse
  else .none

/-- The ENCODER_LOST flag is set, and its notice is raised when it was clear (R8, R9, R15). -/
def Node.setLost (n : Node) : Node :=
  if n.len.lostFlag then n
  else Node.notice Notice.encoderLost { n with len.lostFlag := true }

/-- The ENCODER_RESUMED flag is set, and its notice is raised when it was clear (R13, R15). -/
def Node.setResumed (n : Node) : Node :=
  if n.len.resumedFlag then n
  else Node.notice Notice.encoderResumed { n with len.resumedFlag := true }

/-- Millimetres taken out by a forward pulse (R2). -/
def forwardOut (m p fraction : Nat) : Nat := (fraction + m) / p

/-- Millimetres borrowed by a reverse pulse (R3). -/
def reverseIn (m p fraction : Nat) : Nat := (m - fraction + p - 1) / p

/-- A forward pulse in ENCODER: the fraction, the debt, then the advance (R2). -/
def Node.forwardPulse (n : Node) : Node :=
  let out := forwardOut n.config.m n.config.p n.len.fraction
  Node.advance (out - n.len.debt)
    { n with
      len.fraction := (n.len.fraction + n.config.m) % n.config.p
      len.debt := n.len.debt - out }

/-- A reverse pulse in ENCODER (R3, R4). -/
def Node.reversePulse (n : Node) : Node :=
  let borrowed := reverseIn n.config.m n.config.p n.len.fraction
  let debt := addHold Config.maxLength n.len.debt borrowed
  let m := { n with
    len.fraction := n.len.fraction + borrowed * n.config.p - n.config.m
    len.debt := debt }
  if n.len.debt ≤ Config.reverseExcess ∧ Config.reverseExcess < debt then m.fault .reverseExcess
  else m

/-- A pulse while DERIVED is counted into nothing; the first after a stall sets ENCODER_RESUMED
(R13). -/
def Node.derivedPulse (n : Node) : Node :=
  if n.len.stalled then Node.setResumed { n with len.stalled := false } else n

/-- A pulse: it restarts the stall timer, clears a stall, and is counted by source and direction (R1,
R7, R9, R13). -/
def Node.pulse (forward : Bool) (n : Node) : Node :=
  let m := { n with len.stallTimer := 0 }
  if n.lengthDerived then m.derivedPulse
  else
    let k := { m with len.stalled := false }
    if forward then k.forwardPulse else k.reversePulse

/-- A change of level on ENC_A or ENC_B (R1). -/
def Node.quadrature (a b : Bool) (n : Node) : Node :=
  let m := { n with len.quadA := a, len.quadB := b }
  if !n.configured then m
  else
    match judgeQuadrature n.len.quadA n.len.quadB a b with
    | .forward => (m.pulse true).finish
    | .reverse => (m.pulse false).finish
    | .none => m

/-! ### Stall, derived length, speed -/

/-- The Length Unit reports the change to DERIVED and the window sets DERIVED_LENGTH on every record
(R12). -/
def Node.markDerived (n : Node) : Node :=
  { n with window := n.window.write Claim.whole fun _ b => setFlag RecordFlag.derivedLength b }

/-- The source becomes DERIVED; nothing changes where it is DERIVED already (R8, R11, R12). -/
def Node.fallBack (n : Node) : Node :=
  if n.lengthDerived then n
  else
    Node.markDerived { n with len.source := .derived, len.remainder := 0, len.derivedPhase := 0 }

/-- A stall may be declared: the view is CREEP or RUN and the encoder is not stalled (R7). -/
def Node.stallable (n : Node) : Bool :=
  n.configured && n.line.view.moving && !n.len.stalled

/-- A stall is declared (R7, R8, R9). The model's choice for a stall while DERIVED whose ENCODER_LOST flag
has been cleared: the flag is set and its notice raised as R8 says, though R13 leaves the flags as they
stand (log 33). -/
def Node.declareStall (n : Node) : Node :=
  let m := { n with len.stalled := true, len.stallTimer := n.config.stallTime }
  Node.fault .encoderLost (Node.setLost (if n.fallback then m.fallBack else m))

/-- A derived advance at a 10 ms point (R11). The model's choice: one that takes out no whole millimetre
is delivered to no block (log 34). -/
def Node.deriveAdvance (n : Node) : Node :=
  let m := { n with len.derivedPhase := 0 }
  match n.len.reference with
  | none => m
  | some s =>
    Node.advance ((n.len.remainder + s) / 100)
      { m with len.remainder := (n.len.remainder + s) % 100 }

/-- The end of a speed interval (R6). -/
def Node.endInterval (n : Node) : Node :=
  { n with len.speed := min Config.max16 (10 * n.len.speedSum), len.speedSum := 0,
           len.speedPhase := 0 }

end Sys2Proof.Machine
end

