-- ==== Sys2Proof/Machine/Sensor.lean ====
section
/-! DEFINITION. The Sensor Port (Section 9): polling in AUTO (R158), transactions (R159), judging and
binding a reading (R160, R161), manual replies and mode changes (R163 to R166). -/

namespace Sys2Proof.Machine

/-- The lowest-numbered channel that is due (R158). -/
def SensorPort.firstDue (s : SensorPort) : Option Nat :=
  (List.range 4).find? fun i => (s.channels.get i).due

/-- The auto transaction of a channel: its command and its reply size (R159, Table 9-1). -/
def autoTransaction (ch : Nat) (c : ChannelConfig) : Transaction :=
  { manual := false, select := ch, command := c.command.take c.commandSize, replyCount := c.replySize }

/-- In AUTO, with no change pending and no transaction in progress, the lowest due channel's
transaction begins, and the channel stops being due (R158). -/
def Node.beginPoll (n : Node) : Node :=
  if n.sensor.mode = .auto ∧ n.sensor.request = none ∧ n.sensor.transaction = none then
    match n.sensor.firstDue with
    | none => n
    | some i =>
      { n with
        sensor.transaction := some (autoTransaction i (n.config.channels.get i))
        sensor.channels :=
          n.sensor.channels.set i { n.sensor.channels.get i with due := false } }
  else n

/-- A channel's poll timer expires (R158). -/
def Node.pollExpired (ch : Nat) (n : Node) : Node :=
  Node.beginPoll
    { n with
      sensor.channels :=
        n.sensor.channels.set ch { n.sensor.channels.get ch with timer := 0, due := true } }

/-- The reply bytes that SSDI gave at the rising edges of SSCK, most significant bit first (R159,
log 29). -/
def replyBytes (ssdi : BitVec 64) (count : Nat) : List Byte :=
  (List.range count).map fun i => ssdi.extractLsb' (56 - 8 * i) 8

/-- The limit flag of a reading outside its limits (Table 9-3). -/
def limitFlag (quantity : Nat) (low : Bool) : Option Nat :=
  match quantity with
  | 0 => some (if low then RecordFlag.sizeLow else RecordFlag.sizeHigh)
  | 1 => some (if low then RecordFlag.dry else RecordFlag.wet)
  | _ => none

/-- A reading bound to a record, with its limit flag (R161). -/
def bindBody (c : ChannelConfig) (v : Nat) (b : Body) : Body :=
  let bound := bindQuantity c.quantity v b
  if v < c.low then
    match limitFlag c.quantity true with
    | some i => setFlag i bound
    | none => bound
  else if c.high < v then
    match limitFlag c.quantity false with
    | some i => setFlag i bound
    | none => bound
  else bound

/-- The channel after an invalid reading (R160). -/
def Channel.afterInvalid (c : Channel) : Channel :=
  { c with invalid := addHold 3 c.invalid 1, failed := c.failed || decide (c.invalid = 2) }

/-- The channel after a valid reading (R160). -/
def Channel.afterValid (cfg : ChannelConfig) (v : Nat) (c : Channel) : Channel :=
  { c with invalid := 0, failed := false, last := some v
           out := decide (v < cfg.low) || decide (cfg.high < v)
           valid := addHold Config.max16 c.valid 1 }

/-- An invalid reading on a channel (R160). -/
def Node.invalidReading (ch : Nat) (n : Node) : Node :=
  let c := n.sensor.channels.get ch
  let m := Node.fault .sensorInvalid { n with sensor.channels := n.sensor.channels.set ch c.afterInvalid }
  Node.report (CounterEvent.sensorReading 2 ch)
    (if c.invalid = 2 then m.fault .sensorFailed else m)

/-- A valid reading on a channel, bound at its position (R160, R161). -/
def Node.validReading (ch v : Nat) (n : Node) : Node :=
  let cfg := n.config.channels.get ch
  let c := (n.sensor.channels.get ch).afterValid cfg v
  Node.report (CounterEvent.sensorReading (bit c.out) ch)
    { n with
      sensor.channels := n.sensor.channels.set ch c
      window := n.window.write (Claim.point n.len.tracking cfg.position) fun _ b => bindBody cfg v b }

/-- The status byte's most significant bit (R160). -/
def statusInvalid (reply : List Byte) : Bool := (reply.headD 0).msb

/-- The reply of an auto transaction is judged (R160). -/
def Node.judgeReply (ch : Nat) (reply : List Byte) (n : Node) : Node :=
  if statusInvalid reply then n.invalidReading ch
  else n.validReading ch (fieldAt reply (n.config.channels.get ch).valueOffset 2)

/-- The reply of a manual transaction is stored (R165). -/
def Node.storeReply (select : Nat) (reply : List Byte) (n : Node) : Node :=
  Node.notice Notice.sensorDone
    { n with sensor.reply := some { select := select, bytes := reply } }

/-- A pending mode change takes effect (R163). -/
def Node.changeMode (n : Node) : Node :=
  match n.sensor.request with
  | none => n
  | some m => { n with sensor.mode := m, sensor.request := none }

/-- What a completed transaction brings: a reading judged or a reply stored (R160, R165). -/
def Node.useReply (t : Transaction) (reply : List Byte) (n : Node) : Node :=
  if t.manual then n.storeReply t.select reply else n.judgeReply t.select reply

/-- A transaction completes: its reply is used, a pending mode change takes effect, the next
transaction begins (R159). -/
def Node.completeTransaction (ssdi : BitVec 64) (n : Node) : Node :=
  match n.sensor.transaction with
  | none => n
  | some t =>
    ((Node.useReply t (replyBytes ssdi t.replyCount)
      { n with sensor.transaction := none }).changeMode.beginPoll).finish

/-- The levels of SEL0 to SEL3, asserted (true) or negated: a transaction holds its select asserted
(R159). -/
def SensorPort.selected (i : Nat) (s : SensorPort) : Bool :=
  match s.transaction with
  | some t => decide (t.select = i)
  | none => false

/-- The bits SSDO gives in a transaction: the command, most significant bit first, then low during the
reply (R159). -/
def Transaction.ssdo (t : Transaction) : List Bool :=
  (t.command.flatMap fun b => (List.range 8).map fun i => b.getMsbD i) ++
  List.replicate (8 * t.replyCount) false

/-- The SSCK periods of a transaction: eight for each byte (R159). -/
def Transaction.clocks (t : Transaction) : Nat := 8 * (t.command.length + t.replyCount)

end Sys2Proof.Machine
end

