-- ==== Sys2Proof/Machine/TimerEvents.lean ====
section
/-! DEFINITION. VOTE_TIMEOUT, PROPOSAL_VIEW_TIMEOUT, STANDSTILL_SECOND, POLL_TIMER_EXPIRY,
TRANSACTION_COMPLETE and TIME_BASE_MILLISECOND (R99, R100, R107, R111, R158, R159, R171). -/

namespace Sys2Proof.Machine

/-- The effect of VOTE_TIMEOUT (R100). -/
def Node.voteTimeout (n : Node) : Node := if n.voting then (n.endOwn .timedOut).finish else n

/-- VOTE_TIMEOUT (R100). -/
def execVoteTimeout (s : State) : Host.Outcome State Fault Refusal := s.act Node.voteTimeout

/-- PROPOSAL_VIEW_TIMEOUT: an open proposal view closes (R99). -/
def execProposalViewTimeout (s : State) : Host.Outcome State Fault Refusal :=
  s.act fun n => { n with line.proposalView := none }

/-- The standstill timer advances one second; at dwell limit 2 the OVERDRY claim is made (R107,
R111). -/
def Node.timerSecond (n : Node) : Node :=
  let t := addHold Config.max16 n.prot.timer 1
  let m := { n with prot.timer := t, prot.phase := 0 }
  if n.prot.timer < n.config.dwell2 ∧ n.config.dwell2 ≤ t then m.claimOverdry else m

/-- The effect of STANDSTILL_SECOND (R107). -/
def Node.standstillSecond (n : Node) : Node := if n.prot.running then n.timerSecond.finish else n

/-- STANDSTILL_SECOND (R107). -/
def execStandstillSecond (s : State) : Host.Outcome State Fault Refusal := s.act Node.standstillSecond

/-- The effect of POLL_TIMER_EXPIRY on an enabled channel (R158). -/
def Node.pollPoint (ch : Nat) (n : Node) : Node :=
  if n.configured && decide (ch < 4) && (n.config.channels.get ch).enabled then n.pollExpired ch else n

/-- POLL_TIMER_EXPIRY (R158). -/
def execPollTimerExpiry (ch : Nat) (s : State) : Host.Outcome State Fault Refusal :=
  s.act (Node.pollPoint ch)

/-- TRANSACTION_COMPLETE, by which alone a transaction completes (R159, R160, R165, log 46). -/
def execTransactionComplete (ssdi : BitVec 64) (s : State) : Host.Outcome State Fault Refusal :=
  s.act (Node.completeTransaction ssdi)

/-- The effect of TIME_BASE_MILLISECOND (R171); nothing is counted in UNCONFIGURED (R168). -/
def Node.timeBase (n : Node) : Node := if n.configured then n.countMillisecond else n

/-- TIME_BASE_MILLISECOND (R171). -/
def execTimeBaseMillisecond (s : State) : Host.Outcome State Fault Refusal := s.act Node.timeBase

end Sys2Proof.Machine
end

