-- ==== Sys2Proof/Machine/Clock.lean ====
section
/-! DEFINITION. Time, which passes when no command waits (log 2): every timer of the part counts
milliseconds, the line is followed bit time by bit time, and the events that are due happen one by one in
an order the spec leaves open (log 4). -/

namespace Sys2Proof.Machine

/-- Bit times in a millisecond (R135). -/
def bitsPerMs (rate : Nat) : Nat :=
  match rate with
  | 0 => 125
  | 1 => 250
  | _ => 500

/-- The Length Unit's timers (R6, R7, R10, R11). -/
def Node.tickLength (n : Node) : LengthUnit :=
  { n.len with
    stallTimer := addHold Config.max16 n.len.stallTimer 1
    absenceTimer :=
      if n.usableSpeed.isSome then 0 else addHold Config.referenceAbsence n.len.absenceTimer 1
    speedPhase := addHold Config.speedInterval n.len.speedPhase 1
    derivedPhase :=
      if n.lengthDerived then addHold Config.derivedPeriod n.len.derivedPhase 1
      else n.len.derivedPhase }

/-- The Line Bus Interface's timers (R145, R147). -/
def Node.tickBus (n : Node) : LineBus :=
  { n.bus with
    joinTimer :=
      if n.bus.joinRunning then addHold Config.joinTime n.bus.joinTimer 1 else n.bus.joinTimer
    statusTimer :=
      if n.bus.statusRunning then addHold Config.statusTime n.bus.statusTimer 1
      else n.bus.statusTimer
    tap.phase := 0 }

/-- The vote timer (R100). -/
def OwnProposal.tick (o : OwnProposal) : OwnProposal :=
  match o.phase with
  | .queued => o
  | .voting electorate assents timer =>
    { o with phase := .voting electorate assents (addHold Config.voteTime timer 1) }

/-- The Line State Unit's timers (R99, R100). -/
def LineState.tick (l : LineState) : LineState :=
  { l with
    own := l.own.map OwnProposal.tick
    proposalView := l.proposalView.map fun v => { v with timer := addHold Config.viewTime v.timer 1 } }

/-- The standstill timer's phase (R107). -/
def Protection.tick (p : Protection) : Protection :=
  if p.running then { p with phase := addHold 1000 p.phase 1 } else p

/-- The poll timer of a channel (R158). -/
def Channel.tick (cfg : ChannelConfig) (c : Channel) : Channel :=
  if cfg.enabled then { c with timer := addHold cfg.interval c.timer 1 } else c

/-- The time since an entry's last frame (R124). -/
def RosterEntry.tick (e : RosterEntry) : RosterEntry :=
  { e with age := addHold Config.max16 e.age 1 }

/-- A millisecond is over: every timer of the part counts it, and the time base's event is due (R171). -/
def Node.tick (n : Node) : Node :=
  { n with
    baseDue := true
    len := n.tickLength
    bus := n.tickBus
    line := n.line.tick
    prot := n.prot.tick
    roster.others := n.roster.others.map RosterEntry.tick
    sensor.channels := n.config.channels.zip Channel.tick n.sensor.channels }

/-- The vote timer has reached 300 ms (R100). -/
def Node.voteDue (n : Node) : Bool :=
  match n.line.own with
  | some { phase := .voting _ _ timer, .. } => decide (Config.voteTime ≤ timer)
  | _ => false

/-- The view timer has reached 500 ms (R99). -/
def Node.viewDue (n : Node) : Bool :=
  match n.line.proposalView with
  | some v => decide (Config.viewTime ≤ v.timer)
  | none => false

/-- A channel's poll interval is over (R158). -/
def Node.pollDue (ch : Nat) (n : Node) : Bool :=
  (n.config.channels.get ch).enabled &&
  decide ((n.config.channels.get ch).interval ≤ (n.sensor.channels.get ch).timer)

/-- The events of the timers that are due: each timer's stands here from the moment it reaches its limit
until the event, or what restarts the timer, is taken. -/
def Node.timersDue (n : Node) : List Instr :=
  dueWhen n.baseDue .timeBaseMillisecond ++
  dueWhen (decide (Config.speedInterval ≤ n.len.speedPhase)) .speedIntervalEnd ++
  dueWhen (n.lengthDerived && decide (Config.derivedPeriod ≤ n.len.derivedPhase)) .derivedAdvance ++
  dueWhen (n.stallable && decide (n.config.stallTime ≤ n.len.stallTimer)) .stall ++
  dueWhen (n.usableSpeed.isNone && n.len.reference.isSome &&
    decide (Config.referenceAbsence ≤ n.len.absenceTimer)) .referenceAbsent ++
  dueWhen (decide (n.bus.participation = .joining) && decide (Config.joinTime ≤ n.bus.joinTimer))
    .joinTimerExpiry ++
  dueWhen (n.active && n.bus.statusRunning && decide (Config.statusTime ≤ n.bus.statusTimer)) .statusTimer ++
  dueWhen n.voteDue .voteTimeout ++
  dueWhen n.viewDue .proposalViewTimeout ++
  dueWhen (n.prot.running && decide (1000 ≤ n.prot.phase)) .standstillSecond ++
  (List.range 4).flatMap (fun ch => dueWhen (n.pollDue ch) (.pollTimerExpiry ch)) ++
  (n.roster.others.filter fun e => e.present && decide (Config.silence ≤ e.age)).map
    (fun e => .entrySilent e.station)

/-- The events that are due when no command waits: those of the timers and those of the line. The model's
choice: the completion of a transaction of the Sensor Port is not among them; it comes as TRANSACTION_COMPLETE,
with the levels of SSDI (log 46). -/
def Node.dueEvents (n : Node) : List Instr := n.timersDue ++ n.lineDue

/-- Time passes to the end of the millisecond that runs, or to the first event of the line. -/
def Node.pass (n : Node) : Node :=
  let m := { n with
    bus := n.bus.bitTimes n.receiving n.waitingGap (bitsPerMs n.config.bitRate - n.bus.tap.phase) }
  if bitsPerMs n.config.bitRate ≤ m.bus.tap.phase then m.tick else m

/-- The node as an event that was due is taken: the choice among `k` is spent, and a millisecond of the
time base has its event once (R171, log 4). -/
def Node.takingDue (k : Nat) (c : Instr) (n : Node) : Node :=
  { n.spend k with baseDue := n.baseDue && decide (c ≠ .timeBaseMillisecond) }

end Sys2Proof.Machine
end

