-- ==== Sys2Proof/Machine/Receive.lean ====
section
/-! DEFINITION. The Roster's taking of frames and silence (R123 to R128, R130, R133) and the receive
processing of a frame that the station did not send (R137, R138). -/

namespace Sys2Proof.Machine

/-! ### The Roster -/

/-- The source of a TRIP frame is FAULT (R125). -/
def Frame.fatalTrip : Frame → Bool
  | .trip p => decide (p.source = .fault)
  | _ => false

/-- The segment number with which a frame reaches the highest number learned (R133). -/
def Frame.newestNumber : Frame → Option Nat
  | .status p => if p.newest = 0 then none else some p.newest
  | .handoff p => some p.body.last
  | _ => none

/-- The highest segment number learned after a number reaches it (R133). -/
def learn (held : Option Nat) (reached : Option Nat) : Option Nat :=
  match reached with
  | none => held
  | some v =>
    match held with
    | none => some v
    | some h => some (segNewest h v)

/-- An entry as it is made, without descriptor, view, speed or fault (R123). -/
def RosterEntry.blank (sender : Nat) : RosterEntry :=
  { station := sender, descriptor := none, present := false, age := 0, lastView := none,
    speed := none, newest := 0, lastFault := none }

/-- An entry updated by a frame (R123, R125). -/
def RosterEntry.update (f : Frame) (e : RosterEntry) : RosterEntry :=
  let heard := { e with age := 0, present := !Frame.fatalTrip f }
  match f with
  | .status p =>
    { heard with descriptor := some p.descriptor, lastView := some (p.view, p.number)
                 speed := some p.speed, newest := p.newest }
  | .fault p => { heard with lastFault := some p }
  | _ => heard

/-- An entry in order conflict (R127). -/
def RosterEntry.conflict (order : Nat) (e : RosterEntry) : Bool :=
  e.present && (match e.descriptor with | some d => decide (d.order = order) | none => false)

/-- The entries after a frame of `sender` when the roster has an entry for it or room (R123). -/
def Roster.updated (sender : Nat) (f : Frame) (r : Roster) : List RosterEntry :=
  match r.entry? sender with
  | some _ => changeFirst (fun e => e.station == sender) (RosterEntry.update f) r.others
  | none => r.others ++ [RosterEntry.update f (RosterEntry.blank sender)]

/-- The Roster has an entry for the sender or room for one (R121, R123). -/
def Roster.takes (sender : Nat) (r : Roster) : Bool :=
  (r.entry? sender).isSome || decide (r.others.length < Config.otherEntries)

/-- NEIGHBOUR_LOST when the entry of the current choice has become SILENT (R130). -/
def Node.testLost (before after : Option RosterEntry) (n : Node) : Node :=
  match before, after with
  | some b, some a =>
    if b.present && !a.present && !n.isOrigin && decide (n.roster.upstream = some b.station) then
      n.fault .neighbourLost
    else n
  | _, _ => n

/-- ORDER_CONFLICT when an entry comes into order conflict (R127). -/
def Node.testOrder (before after : Option RosterEntry) (n : Node) : Node :=
  if !(before.any (RosterEntry.conflict n.config.order)) &&
      after.any (RosterEntry.conflict n.config.order) then n.fault .orderConflict
  else n

/-- CREEL_CONFLICT when the creel condition has become true in JOINING or ACTIVE (R128). -/
def Node.testCreel (before : Bool) (n : Node) : Node :=
  if !before && n.creel && n.inService then n.creelConflict else n

/-- The roster's entries change: the conflict tests, NEIGHBOUR_LOST, the choices (R123, R127 to
R131). -/
def Node.changeEntries (station : Nat) (entries : List RosterEntry) (n : Node) : Node :=
  let m := { n with roster.others := entries }
  let before := n.roster.entry? station
  let after := m.roster.entry? station
  (((m.testOrder before after).testLost before after).remakeChoices).testCreel n.creel

/-- The Roster takes a good frame of another station (R123, R133). -/
def Node.rosterTake (sender : Nat) (f : Frame) (n : Node) : Node :=
  let m := { n with roster.highest := learn n.roster.highest (Frame.newestNumber f) }
  if m.roster.takes sender then m.changeEntries sender (m.roster.updated sender f)
  else m.fault .rosterFull

/-- An entry becomes SILENT after 1,000 ms unheard (R124). -/
def Node.silence (station : Nat) (n : Node) : Node :=
  match n.roster.entry? station with
  | none => n
  | some e =>
    if e.present then
      n.changeEntries station
        (changeFirst (fun e => e.station == station)
          (fun e => { e with present := false, age := Config.silence }) n.roster.others)
    else n

/-! ### Delivery -/

/-- The announcement that a STOP or TRIP frame becomes when adopted (R91). -/
def announcementOf (trip : Bool) (sender : Nat) (p : AnnouncePayload) : Announcement :=
  { trip := trip, sender := sender, number := p.number, source := p.source, detail := p.detail }

/-- The block besides the Roster that takes a frame (R137). -/
def Node.deliver (sender : Nat) (f : Frame) (n : Node) : Node :=
  match f with
  | .status p => n.takePair sender p.number p.view false none
  | .handoff p => n.takeHandoff sender p
  | .stop p => n.takePair sender p.number .standstill false (some (announcementOf false sender p))
  | .trip p => n.takePair sender p.number .trip false (some (announcementOf true sender p))
  | .propose p => n.takePropose p
  | .assent i => n.takeAssent sender i
  | .hold p => n.takeHold sender p
  | .enact p => n.takeEnact sender p
  | .fault _ => n

/-- The Roster's part of a delivery, its faults taken and its changes followed. -/
def Node.deliverRoster (sender : Nat) (f : Frame) (n : Node) : Node := (n.rosterTake sender f).finish

/-- The other block's part of a delivery. -/
def Node.deliverBlock (sender : Nat) (f : Frame) (n : Node) : Node := (n.deliver sender f).finish

/-- Deliveries to different blocks have no order among them (R137, log 4). -/
def Node.deliverGood (sender : Nat) (f : Frame) (n : Node) : Node :=
  if n.choice 2 = 0 then ((n.spend 2).deliverRoster sender f).deliverBlock sender f
  else ((n.spend 2).deliverBlock sender f).deliverRoster sender f

/-- The line has become idle after a frame, at which moment the frame is taken (R135, R137, R144). -/
def Node.lineIdle (n : Node) : Node :=
  { n with
    bus.idleCount := 0
    bus.busyCount := 0
    bus.tap.lrx := false
    bus.tap.recessive := Config.idleRun
    bus.tap.heard := [] }

/-- A frame judged FRAME_MALFORMED (R137). -/
def Node.malformed (n : Node) : Node :=
  ((n.fault .frameMalformed).report (CounterEvent.frameReceived 2)).finish

/-- A frame judged FRAME_CHECK (R137). -/
def Node.checkFailed (n : Node) : Node :=
  ((n.fault .frameCheck).report (CounterEvent.frameReceived 1)).finish

/-- A good frame bearing the own station number (R126, R138). -/
def Node.duplicateStation (n : Node) : Node :=
  ((n.report (CounterEvent.frameReceived 0)).fault .duplicateStation).finish

/-- Receive processing of a frame that has passed its check (R137, R138, log 10): none in
UNCONFIGURED and OFFLINE. -/
def Node.receive (sender : Nat) (f : Frame) (n : Node) : Node :=
  if !n.configured then n
  else if !n.receiving then n.lineIdle
  else if !(stationOk sender && frameOk f) then n.lineIdle.malformed
  else if sender = n.config.station then n.lineIdle.duplicateStation
  else (n.lineIdle.report (CounterEvent.frameReceived 0)).deliverGood sender f

/-- Receive processing of a frame that fails the receive checks (R137, log 11). -/
def Node.discard (bytes : List Byte) (badStop : Option Nat) (n : Node) : Node :=
  if !n.configured then n
  else if !n.receiving then n.lineIdle
  else
    match judge bytes badStop with
    | .checkFail => n.lineIdle.checkFailed
    | .malformed => n.lineIdle.malformed
    | .good _ _ => n

end Sys2Proof.Machine
end

