-- ==== Sys2Proof/Machine/FrameEvents.lean ====
section
/-! DEFINITION. The frames received: one event for each kind (R123, R137, R138), the discarded frame
(R137) and ENTRY_SILENT (R124). -/

namespace Sys2Proof.Machine

/-- RECEIVE_STATUS (R88, R123). -/
def execReceiveStatus (sender : Nat) (p : StatusPayload) (s : State) :
    Host.Outcome State Fault Refusal := s.act (Node.receive sender (.status p))

/-- RECEIVE_HANDOFF (R70, R123). -/
def execReceiveHandoff (sender : Nat) (p : HandoffPayload) (s : State) :
    Host.Outcome State Fault Refusal := s.act (Node.receive sender (.handoff p))

/-- RECEIVE_STOP (R88, R91, R123). -/
def execReceiveStop (sender : Nat) (p : AnnouncePayload) (s : State) :
    Host.Outcome State Fault Refusal := s.act (Node.receive sender (.stop p))

/-- RECEIVE_TRIP (R88, R91, R125). -/
def execReceiveTrip (sender : Nat) (p : AnnouncePayload) (s : State) :
    Host.Outcome State Fault Refusal := s.act (Node.receive sender (.trip p))

/-- RECEIVE_PROPOSE (R98). -/
def execReceivePropose (sender : Nat) (p : ProposePayload) (s : State) :
    Host.Outcome State Fault Refusal := s.act (Node.receive sender (.propose p))

/-- RECEIVE_ASSENT (R100). -/
def execReceiveAssent (sender : Nat) (i : ProposalId) (s : State) :
    Host.Outcome State Fault Refusal := s.act (Node.receive sender (.assent i))

/-- RECEIVE_HOLD (R100). -/
def execReceiveHold (sender : Nat) (p : HoldPayload) (s : State) :
    Host.Outcome State Fault Refusal := s.act (Node.receive sender (.hold p))

/-- RECEIVE_ENACT (R88, R90, R99). -/
def execReceiveEnact (sender : Nat) (p : EnactPayload) (s : State) :
    Host.Outcome State Fault Refusal := s.act (Node.receive sender (.enact p))

/-- RECEIVE_FAULT (R123). -/
def execReceiveFault (sender : Nat) (p : FaultPayload) (s : State) :
    Host.Outcome State Fault Refusal := s.act (Node.receive sender (.fault p))

/-- FRAME_DISCARDED (R137). -/
def execFrameDiscarded (bytes : List Byte) (badStop : Option Nat) (s : State) :
    Host.Outcome State Fault Refusal := s.act (Node.discard bytes badStop)

/-- ENTRY_SILENT (R124, R130). -/
def execEntrySilent (station : Nat) (s : State) : Host.Outcome State Fault Refusal :=
  s.act fun n => (n.silence station).finish

end Sys2Proof.Machine
end

