-- ==== Sys2Proof/Machine/LengthEvents.lean ====
section
/-! DEFINITION. The events of the Length Unit: QUADRATURE_CHANGE, STALL, DERIVED_ADVANCE,
REFERENCE_ABSENT and SPEED_INTERVAL_END (R1, R6 to R11). A timer's event brings the timer to its word
(log 3); an event whose conditions do not hold changes nothing (log 8). -/

namespace Sys2Proof.Machine

/-- QUADRATURE_CHANGE (R1). -/
def execQuadratureChange (a b : Bool) (s : State) : Host.Outcome State Fault Refusal :=
  s.act (Node.quadrature a b)

/-- The effect of STALL (R7 to R9). -/
def Node.stall (n : Node) : Node := if n.stallable then n.declareStall.finish else n

/-- STALL (R7). -/
def execStall (s : State) : Host.Outcome State Fault Refusal := s.act Node.stall

/-- The effect of DERIVED_ADVANCE (R11). -/
def Node.derivedPoint (n : Node) : Node :=
  if n.configured && n.lengthDerived then n.deriveAdvance.finish else n

/-- DERIVED_ADVANCE (R11). -/
def execDerivedAdvance (s : State) : Host.Outcome State Fault Refusal := s.act Node.derivedPoint

/-- The effect of REFERENCE_ABSENT (R10). -/
def Node.referenceLapse (n : Node) : Node :=
  if n.configured && n.usableSpeed.isNone then
    { n with len.reference := none, len.absenceTimer := Config.referenceAbsence }
  else n

/-- REFERENCE_ABSENT (R10). -/
def execReferenceAbsent (s : State) : Host.Outcome State Fault Refusal := s.act Node.referenceLapse

/-- The effect of SPEED_INTERVAL_END (R6). -/
def Node.intervalPoint (n : Node) : Node := if n.configured then n.endInterval else n

/-- SPEED_INTERVAL_END (R6). -/
def execSpeedIntervalEnd (s : State) : Host.Outcome State Fault Refusal := s.act Node.intervalPoint

end Sys2Proof.Machine
end

