-- ==== Sys2Proof/Machine/LineRequests.lean ====
section
/-! DEFINITION. ANNOUNCE_STOP, ANNOUNCE_TRIP, PROPOSE, SET_HOLD, CLEAR_HOLD and ACK_TRIP (R92, R93,
R96, R104, R105). -/

namespace Sys2Proof.Machine

/-- The payload of an announcement of source LOCAL, one newer than the own number (R92, R93). -/
def Node.localAnnouncement (cause : Nat) (n : Node) : AnnouncePayload :=
  { number := evSucc n.line.number, source := .localRequest, detail := cause }

/-- The effect of ANNOUNCE_STOP with a cause code (R92). -/
def Node.announceStop (cause : Nat) (n : Node) : Node :=
  if !n.active ∨ !n.line.view.moving then n.refuseState
  else ((n.announce false (n.localAnnouncement cause)).finish).done (be 2 (evSucc n.line.number))

/-- ANNOUNCE_STOP (R92). -/
def execAnnounceStop (args : List Byte) (s : State) : Host.Outcome State Fault Refusal :=
  s.act (Node.request 1 args (Node.whenConfigured (Node.announceStop (fieldAt args 0 1))))

/-- The effect of ANNOUNCE_TRIP with a cause code (R93). -/
def Node.announceTrip (cause : Nat) (n : Node) : Node :=
  if !n.active ∨ n.line.view = .trip then n.refuseState
  else
    let m := n.announce true (n.localAnnouncement cause)
    (Node.finish { m with line.tripUnack := true }).done (be 2 (evSucc n.line.number))

/-- ANNOUNCE_TRIP (R93). -/
def execAnnounceTrip (args : List Byte) (s : State) : Host.Outcome State Fault Refusal :=
  s.act (Node.request 1 args (Node.whenConfigured (Node.announceTrip (fieldAt args 0 1))))

/-- The id of the next own proposal (R96). -/
def Node.nextId (n : Node) : ProposalId :=
  { station := n.config.station, count := n.line.proposalCount }

/-- The own proposal is made QUEUED and its PROPOSE offered (R96). -/
def Node.makeProposal (target : View) (n : Node) : Node :=
  Node.offer (.propose { id := n.nextId, base := n.line.number, target := target })
    { n with
      line.own := some
        { id := n.nextId, base := n.line.number, target := target, phase := .queued }
      line.proposalCount := (n.line.proposalCount + 1) % 256 }

/-- The effect of PROPOSE with a target code: the refusals in the order of R96. -/
def Node.propose (code : Nat) (n : Node) : Node :=
  if n.config.startRight = 0 ∨ !n.active then n.refuseState
  else if n.line.own.isSome ∨ n.line.enact.isSome ∨ n.line.proposalView.isSome then n.refuseBusy
  else
    match View.ofCode? code with
    | none => n.refuseArgument 1
    | some target =>
      if !legalMove n.line.view target then n.refuseArgument 1
      else
        match n.holdReasons target with
        | r :: _ => n.respond Result.refusedState 0 (be 1 1 ++ be 1 r.code)
        | [] => ((n.makeProposal target).finish).done (idBytes n.nextId ++ be 2 n.line.number)

/-- PROPOSE (R96). -/
def execPropose (args : List Byte) (s : State) : Host.Outcome State Fault Refusal :=
  s.act (Node.request 1 args (Node.whenConfigured (Node.propose (fieldAt args 0 1))))

/-- The effect of SET_HOLD (R104). -/
def Node.setHold (n : Node) : Node :=
  if n.line.hold then n.ignored []
  else (Node.finish { n with line.hold := true }).done []

/-- SET_HOLD (R104). -/
def execSetHold (args : List Byte) (s : State) : Host.Outcome State Fault Refusal :=
  s.act (Node.request 0 args (Node.whenConfigured Node.setHold))

/-- The effect of CLEAR_HOLD (R104). -/
def Node.clearHold (n : Node) : Node :=
  if n.line.hold then Node.done [] { n with line.hold := false } else n.ignored []

/-- CLEAR_HOLD (R104). -/
def execClearHold (args : List Byte) (s : State) : Host.Outcome State Fault Refusal :=
  s.act (Node.request 0 args (Node.whenConfigured Node.clearHold))

/-- The effect of ACK_TRIP (R105). -/
def Node.ackTrip (n : Node) : Node :=
  if n.line.tripUnack then Node.done [] { n with line.tripUnack := false } else n.ignored []

/-- ACK_TRIP (R105). -/
def execAckTrip (args : List Byte) (s : State) : Host.Outcome State Fault Refusal :=
  s.act (Node.request 0 args (Node.whenConfigured Node.ackTrip))

end Sys2Proof.Machine
end

