-- ==== Sys2Proof/Machine/MarkRequests.lean ====
section
/-! DEFINITION. POST_MARK, OPEN_MARK and CLOSE_MARK (R55, R56, R58 to R60). -/

namespace Sys2Proof.Machine

/-- Mark requests are refused with REFUSED_STATE in UNCONFIGURED and OFFLINE (R55, R56, R58). -/
def Node.whenTracking (act : Node → Node) (n : Node) : Node :=
  if !n.configured ∨ n.bus.participation = .offline then n.refuseState else act n

/-- The data of a POST_MARK that completes with DONE (Table 8-12). -/
def postData (o : PointOutcome) (beam : Nat) : List Byte :=
  be 1 o.outcome ++ be 3 o.first ++ be 3 o.last ++ be 4 o.offset ++ be 2 beam

/-- A point mark taken: its stamp, the report, the answer (R58). -/
def Node.postPoint (c : Claim) (k : MarkKind) (id p beam : Nat) (n : Node) : Node :=
  let o := n.pointOutcome c k id p
  (((n.stampPoint c k id p).report (CounterEvent.markOpened k)).finish).done (postData o beam)

/-- The claim on the record that is entering (R59). -/
def Claim.enteringRecord : Claim := { closed := fun _ => false, entering := fun _ => true }

/-- A KNOT at the ORIGIN: the beam set, the boundary claim, the stamp on the entering record (R59). -/
def Node.postKnot (id : Nat) (n : Node) : Node :=
  Node.postPoint Claim.enteringRecord .knot id 0 id
    (Node.knotClaim n.len.tracking { n with marks.beamSet := id })

/-- The successor of a weaver's beam number (R60). -/
def beamSucc (b : Nat) : Nat := if b = 65535 then 1 else b + 1

/-- A CUT at the TERMINAL: the weaver's beam number, the stamp at the exit point (R60). -/
def Node.postCut (n : Node) : Node :=
  let beam := beamSucc n.handover.beam
  Node.postPoint (Claim.point n.len.tracking n.config.reach) .cut beam n.config.reach beam
    { n with handover.beam := beam }

/-- A LEASE or OPERATOR mark at the mark point (R58). -/
def Node.postAtPoint (k : MarkKind) (id : Nat) (n : Node) : Node :=
  n.postPoint (Claim.point n.len.tracking n.config.markPoint) k id n.config.markPoint 0

/-- The effect of POST_MARK with kind code `kind` and id `id` (R58). The model's choice: when kind and id
both break a rule the kind is named (log 35). -/
def Node.postMark (kind id : Nat) (n : Node) : Node :=
  match MarkKind.ofCode? kind with
  | some .knot =>
    if !n.isOrigin then n.refuseArgument 1
    else if id = 0 ∨ id = n.marks.beamSet then n.refuseArgument 2
    else n.postKnot id
  | some .cut => if !n.isTerminal then n.refuseArgument 1 else n.postCut
  | some .lease => if id = 0 then n.refuseArgument 2 else n.postAtPoint .lease id
  | some .operator => if id = 0 then n.refuseArgument 2 else n.postAtPoint .operator id
  | _ => n.refuseArgument 1

/-- POST_MARK (R58). -/
def execPostMark (args : List Byte) (s : State) : Host.Outcome State Fault Refusal :=
  s.act (Node.request 3 args (Node.whenTracking (Node.postMark (fieldAt args 0 1) (fieldAt args 1 2))))

/-- An open OPERATOR_SPAN mark with the id (R55, R56). -/
def SpanMark.operatorWith (id : Nat) (s : SpanMark) : Bool :=
  decide (s.kind = .operatorSpan) && decide (s.id = id)

/-- The data of OPEN_MARK (R55, Table 8-12, log 15). -/
def openData (stamped : Nat) (evicted : Option SpanMark) : List Byte :=
  be 1 stamped ++
  (match evicted with
   | some s => be 1 s.kind.code ++ be 2 s.id
   | none => be 1 0 ++ be 2 0)

/-- The effect of OPEN_MARK with an id (R55). -/
def Node.openMark (id : Nat) (n : Node) : Node :=
  if id = 0 ∨ n.marks.table.any (SpanMark.operatorWith id) then n.refuseArgument 1
  else
    ((n.openSpan .operatorSpan id).finish).done
      (openData (n.window.reached n.spanClaim).length (n.evicted .operatorSpan))

/-- OPEN_MARK (R55). -/
def execOpenMark (args : List Byte) (s : State) : Host.Outcome State Fault Refusal :=
  s.act (Node.request 2 args (Node.whenTracking (Node.openMark (fieldAt args 0 2))))

/-- The effect of CLOSE_MARK with an id (R51, R56). -/
def Node.closeMark (id : Nat) (n : Node) : Node :=
  if id = 0 then n.refuseArgument 1
  else
    match n.marks.table.find? (SpanMark.operatorWith id) with
    | none => n.ignored []
    | some s =>
      (Node.finish { n with marks.table := n.marks.table.eraseP (SpanMark.operatorWith id) }).done
        (be 4 s.opening ++ be 3 s.frontier)

/-- CLOSE_MARK (R56). -/
def execCloseMark (args : List Byte) (s : State) : Host.Outcome State Fault Refusal :=
  s.act (Node.request 2 args (Node.whenTracking (Node.closeMark (fieldAt args 0 2))))

end Sys2Proof.Machine
end

