-- ==== Sys2Proof/Machine/Images.lean ====
section
/-! DEFINITION. The data of the reads, byte by byte (Tables 8-8, 8-9, 8-11, 9-4, R174, R182, R185).
Bytes of an absent field that no layout states are free bytes (log 5); the number after `fill` or
`fieldOr` tells the places of one response apart. -/

namespace Sys2Proof.Machine

/-- Length source codes (Table 8-6). -/
def LengthSource.code : LengthSource → Nat
  | .encoder => 0 | .derived => 1

/-- Counter mode codes (R169). -/
def CounterMode.code : CounterMode → Nat
  | .occurrences => 0 | .time => 1 | .length => 2 | .amount => 3

/-- The 4-byte mask of a set of stations: bit n for station n (R152). -/
def stationMask (l : List Nat) : Nat := l.foldl (fun a s => a ||| 2 ^ s) 0

/-! ### Records -/

/-- The local block of a closed record (Table 8-9). -/
def ClosedRecord.localBlock (r : ClosedRecord) : List Byte :=
  be 1 0 ++ be 4 r.head ++ be 4 r.tail ++ be 4 0 ++ be 4 0

/-- The local block of the entering record (Table 8-9). -/
def EnteringRecord.localBlock (e : EnteringRecord) : List Byte :=
  be 1 1 ++ be 4 e.head ++ be 4 0 ++ be 4 (e.expected.getD 0) ++ be 4 e.expectFrom

/-- Every record with its local block, oldest first. -/
def Window.images (w : Window) : List (List Byte × Body) :=
  w.closed.map (fun r => (r.localBlock, r.body)) ++
  (w.entering.map fun e => (e.localBlock, e.body)).toList

/-- A record image: local block and content block (R153). -/
def Node.recordImage (n : Node) (i : Nat) (image : List Byte × Body) : List Byte :=
  image.1 ++ contentBlock (n.fill i 4) image.2

/-- Images of a list in order, each given its place. -/
def imagesOf {α : Type} (f : Nat → α → List Byte) : Nat → List α → List Byte
  | _, [] => []
  | i, a :: as => f i a ++ imagesOf f (i + 1) as

/-- The data of READ_WINDOW (R43, Table 8-11). -/
def Node.windowData (start count : Nat) (n : Node) : List Byte :=
  let images := (n.window.images.drop start).take count
  be 4 n.len.tracking ++ be 1 n.window.count ++ be 1 images.length ++
  imagesOf n.recordImage 0 images

/-- A beam log entry image (R153, Table 8-9). -/
def Node.logImage (e : LogEntry) (n : Node) : List Byte :=
  be 4 e.localLength ++ be 4 e.exitLength ++ be 2 e.beam ++ contentBlock (n.fill 0 4) e.body

/-! ### Roster -/

/-- The self entry as it stands (R121, log 19). -/
def Node.selfEntry (n : Node) : RosterEntry :=
  { station := n.config.station, descriptor := some n.descriptor, present := true, age := 0
    lastView := if n.line.view = .unknown then none else some (n.line.view, n.line.number)
    speed := some n.len.speed, newest := n.window.newest, lastFault := none }

/-- A roster entry image of 22 bytes (Table 8-11); `inConflict` is its order conflict flag. -/
def Node.entryImage (n : Node) (i : Nat) (entry : RosterEntry × Bool) : List Byte :=
  let e := entry.1
  be 1 e.station ++
  be 1 (packBits [e.present, e.descriptor.isSome, e.lastView.isSome, e.speed.isSome,
    e.lastFault.isSome, entry.2]) ++
  (match e.descriptor with | some d => descriptorBytes d | none => n.fill (4 * i) 8) ++
  be 2 e.age ++
  (match e.lastView with | some v => be 1 v.1.code ++ be 2 v.2 | none => n.fill (4 * i + 1) 3) ++
  n.fieldOr (4 * i + 2) 2 e.speed ++ be 3 e.newest ++
  (match e.lastFault with
   | some f => be 1 f.cls.code ++ be 1 f.kind.code
   | none => n.fill (4 * i + 3) 2)

/-- Every entry, the self entry first, with its order conflict flag (R121, R127). -/
def Node.entries (n : Node) : List (RosterEntry × Bool) :=
  (n.selfEntry, false) :: n.roster.others.map fun e => (e, e.conflict n.config.order)

/-- The data of READ_ROSTER (R134, Table 8-11). -/
def Node.rosterData (start count : Nat) (n : Node) : List Byte :=
  let shown := (n.entries.drop start).take count
  be 1 n.entries.length ++ be 3 (n.roster.highest.getD 0) ++ be 1 (n.roster.upstream.getD 0) ++
  be 1 (n.roster.reference.getD 0) ++ be 1 (bit n.creel) ++ be 1 shown.length ++
  imagesOf n.entryImage 0 shown

/-! ### READ_STATUS -/

/-- Frames of a class in the outbound queue (R151). -/
def Node.queuedOf (cls : Nat) (n : Node) : Nat :=
  (n.bus.queue.filter fun q => decide (q.frame.cls = cls)).length

/-- The participation group (R151). -/
def Node.participationGroup (n : Node) : List Byte :=
  be 1 n.bus.participation.code ++ be 2 n.bus.joinTimer ++ be 1 (bit n.bus.statusRunning) ++
  (List.range 4).flatMap fun c => be 1 (n.queuedOf c)

/-- The Length Unit group (R19). The model's choice: the bits of its flags byte that Table 8-11 does not
name, 4 to 7, are 0, as in every byte of flags (log 43). -/
def Node.lengthGroup (n : Node) : List Byte :=
  be 4 n.len.tracking ++ be 1 n.len.source.code ++
  be 1 (packBits [n.len.stalled, n.len.lostFlag, n.len.resumedFlag, n.len.reference.isSome]) ++
  be 2 n.len.speed ++ be 4 n.len.debt ++ n.fieldOr 0 2 n.len.reference

/-- The window group (R44). -/
def Node.windowGroup (n : Node) : List Byte := be 1 n.window.count ++ be 3 n.window.newest

/-- A close countdown (Table 8-11). -/
def Countdown.bytes : Countdown → List Byte
  | .held => be 4 0xFFFFFFFF
  | .noCountdown => be 4 0xFFFFFFFE
  | .running mm => be 4 mm

/-- An open mark of 14 bytes (Table 8-11). -/
def SpanMark.bytes (s : SpanMark) : List Byte :=
  be 1 s.kind.code ++ be 2 s.id ++ s.countdown.bytes ++ be 4 s.opening ++ be 3 s.frontier

/-- The marks group (R62). -/
def Node.marksGroup (n : Node) : List Byte :=
  be 2 n.marks.beamSet ++ be 1 n.marks.table.length ++ n.marks.table.flatMap SpanMark.bytes

/-- A waiting arrival of 11 bytes (Table 8-11). -/
def Arrival.bytes (a : Arrival) : List Byte :=
  be 3 a.body.first ++ be 3 a.body.last ++ be 4 a.due ++ be 1 (bit a.bridged)

/-- The handover group (R84, log 24). -/
def Node.handoverGroup (n : Node) : List Byte :=
  be 1 (n.handover.neighbour.getD 0) ++ be 4 n.handover.gap ++ be 4 n.handover.allowance ++
  be 1 (bit n.handover.bridging) ++ be 1 n.handover.log.length ++ be 2 n.handover.beam ++
  be 1 n.handover.arrivals.length ++ n.handover.arrivals.flatMap Arrival.bytes

/-- The last announcement (R91, R155). -/
def Node.announcementBytes (n : Node) : List Byte :=
  match n.line.lastAnnouncement with
  | none => be 1 0 ++ n.fill 1 6
  | some a => be 1 1 ++ be 1 (if a.trip then 4 else 3) ++ be 1 a.sender ++ be 2 a.number ++
      be 1 a.source.code ++ be 1 a.detail

/-- The own proposal (R106). -/
def Node.proposalBytes (n : Node) : List Byte :=
  match n.line.own with
  | none => be 1 0 ++ n.fill 2 15
  | some o =>
    match o.phase with
    | .queued => be 1 1 ++ idBytes o.id ++ be 2 o.base ++ be 1 o.target.code ++ n.fill 2 10
    | .voting electorate assents timer =>
      be 1 2 ++ idBytes o.id ++ be 2 o.base ++ be 1 o.target.code ++
      be 4 (stationMask electorate) ++ be 4 (stationMask assents) ++ be 2 timer

/-- The own ENACT (R106). -/
def Node.enactBytes (n : Node) : List Byte :=
  match n.line.enact with
  | none => be 1 0 ++ n.fill 3 4
  | some e => be 1 1 ++ idBytes e.id ++ be 2 e.number

/-- The fate of an ENACT (Table 8-11). -/
def EnactFate.code : EnactFate → Nat
  | .pending => 0 | .sent => 1 | .lost => 2

/-- The last own outcome (R103, Table 8-11). -/
def Node.outcomeBytes (n : Node) : List Byte :=
  match n.line.lastOutcome with
  | none => be 1 0 ++ n.fill 4 5
  | some o =>
    match o.outcome with
    | .enacted fate => be 1 1 ++ idBytes o.id ++ n.fill 4 2 ++ be 1 fate.code
    | .denied reason sender =>
      be 1 2 ++ idBytes o.id ++ be 1 reason.code ++ be 1 sender ++ n.fill 4 1
    | .timedOut => be 1 3 ++ idBytes o.id ++ n.fill 4 3
    | .abandoned => be 1 4 ++ idBytes o.id ++ n.fill 4 3

/-- The proposal view (R106). -/
def Node.viewBytes (n : Node) : List Byte :=
  match n.line.proposalView with
  | none => be 1 0 ++ n.fill 5 7
  | some v => be 1 1 ++ idBytes v.id ++ be 2 v.base ++ be 1 v.target.code ++ be 2 v.timer

/-- The line state group (R106). -/
def Node.lineGroup (n : Node) : List Byte :=
  be 1 n.line.view.code ++ be 2 n.line.number ++ be 1 (packBits [n.line.hold, n.line.tripUnack]) ++
  n.announcementBytes ++ n.proposalBytes ++ n.enactBytes ++ n.outcomeBytes ++ n.viewBytes

/-- The byte of an action line; before START no condition is evaluated (R115, R120). -/
def Node.lineByte (i : Nat) (n : Node) : List Byte :=
  be 1 (packBits [n.prot.driven && n.lineCondition (n.config.lines.get i),
    (n.prot.lines.get i).latch, (n.prot.lines.get i).asserted, n.pinHigh i])

/-- The protection group (R120). -/
def Node.protectionGroup (n : Node) : List Byte :=
  be 2 n.prot.timer ++ be 1 (packBits [n.prot.running, n.dwell1, n.dwell2, n.actionHolds]) ++
  (List.range 4).flatMap fun i => n.lineByte i

/-- The roster choices group (R134). -/
def Node.choicesGroup (n : Node) : List Byte :=
  be 1 (n.roster.upstream.getD 0) ++ be 1 (n.roster.reference.getD 0)

/-- The required-failed indication (R167). -/
def Node.requiredFailed (n : Node) : Bool :=
  (n.config.channels.zip (fun c (s : Channel) => decide (c.required ≠ 0) && s.failed)
    n.sensor.channels).toList.any id

/-- Mode codes (Table 9-4). -/
def SensorMode.code : SensorMode → Nat
  | .auto => 0 | .manual => 1

/-- Mode-change request codes (Table 9-4). -/
def requestCode : Option SensorMode → Nat
  | none => 0 | some .auto => 1 | some .manual => 2

/-- The transaction byte (Table 9-4); its two low bits are free while none is in progress (log 5). The
model's choice: bits 2 to 5, which the table does not name, are 0 (log 43). -/
def Node.transactionByte (n : Node) : List Byte :=
  match n.sensor.transaction with
  | none => (n.fill 6 1).map fun b => b &&& 0x03#8
  | some t => be 1 (128 + 64 * bit t.manual + t.select)

/-- A channel's eight bytes (Table 9-4); its settings are in force from START (log 32). -/
def Node.channelBytes (i : Nat) (n : Node) : List Byte :=
  let cfg := n.config.channels.get i
  let c := n.sensor.channels.get i
  be 1 (packBits [n.configured && cfg.enabled, n.configured && decide (cfg.required ≠ 0), c.due,
    c.failed, c.out, c.last.isSome]) ++
  be 1 c.invalid ++ n.fieldOr (7 + i) 2 c.last ++ be 2 c.valid ++ be 2 c.timer

/-- The sensor port group (R167, Table 9-4). -/
def Node.sensorGroup (n : Node) : List Byte :=
  be 1 n.sensor.mode.code ++ be 1 (requestCode n.sensor.request) ++ n.transactionByte ++
  be 1 (packBits [n.requiredFailed, n.sensor.reply.isSome]) ++
  (List.range 4).flatMap fun i => n.channelBytes i

/-- A group of READ_STATUS with its length before it (R154, Table 8-11). -/
def statusGroup (g : List Byte) : List Byte := be 1 g.length ++ g

/-- The data of READ_STATUS: the groups in the order of Table 8-11 (R154). -/
def Node.statusData (n : Node) : List Byte :=
  statusGroup n.participationGroup ++ statusGroup n.lengthGroup ++ statusGroup n.windowGroup ++
  statusGroup n.marksGroup ++ statusGroup n.handoverGroup ++ statusGroup n.lineGroup ++
  statusGroup n.protectionGroup ++ statusGroup n.choicesGroup ++ statusGroup n.sensorGroup

/-! ### Faults, counters, notices -/

/-- The first-fatal record in 9 bytes (R185). -/
def Node.firstFatalBytes (n : Node) : List Byte :=
  match n.faults.firstFatal with
  | none => be 1 0 ++ n.fill 0 7 ++ be 1 0
  | some f => be 1 1 ++ be 1 f.kind.code ++ be 4 f.tracking ++ be 1 f.view.code ++
      be 1 f.participation.code ++ be 1 0

/-- The data of READ_FAULTS (R185). -/
def Node.faultData (n : Node) : List Byte :=
  n.firstFatalBytes ++ be 4 n.faults.escalation.toNat ++ be 1 n.faults.enables.toNat ++
  n.faults.counts.map byte

/-- A counter's nine bytes (R174). -/
def Counter.bytes (c : Counter) : List Byte :=
  be 1 c.code ++ be 2 c.mask.toNat ++ be 1 c.mode.code ++ be 1 (bit c.overflow) ++ be 4 c.value

/-- The data of COUNTER_READ (R174). -/
def Node.counterData (n : Node) : List Byte :=
  be 1 (bit n.counters.frozen) ++ n.counters.cells.toList.flatMap Counter.bytes

/-- The data of READ_NOTICES (R182). -/
def Node.noticeData (n : Node) : List Byte := be 2 n.port.notices.toNat ++ be 2 n.port.mask.toNat

/-- The data of SENSOR_MODE (R163, Table 8-12). -/
def Node.modeData (n : Node) : List Byte :=
  be 1 n.sensor.mode.code ++ be 1 (requestCode n.sensor.request)

end Sys2Proof.Machine
end

