-- ==== Sys2Proof/Machine/PortRequests.lean ====
section
/-! DEFINITION. The requests of the Sensor Port (R163 to R165), the Monitor Counters (R169, R173, R174)
and the notices (R182). -/

namespace Sys2Proof.Machine

/-! ### Sensor Port -/

/-- The mode a SENSOR_MODE may name (R155, R163). -/
def modeOf (code : Nat) : Option SensorMode :=
  match code with
  | 0 => some .auto
  | 1 => some .manual
  | _ => none

/-- The answer to SENSOR_MODE: mode and mode-change request as they then stand (R163). -/
def Node.answerMode (result : Nat) (n : Node) : Node := n.respond result 0 n.modeData

/-- The effect of SENSOR_MODE with a target (R163). -/
def Node.requestMode (target : SensorMode) (n : Node) : Node :=
  match n.sensor.request with
  | none =>
    if target = n.sensor.mode then n.answerMode Result.ignored
    else if n.sensor.transaction.isSome then
      Node.answerMode Result.done { n with sensor.request := some target }
    else Node.answerMode Result.done (Node.beginPoll { n with sensor.mode := target })
  | some p =>
    if target = p then n.answerMode Result.ignored
    else Node.answerMode Result.done (Node.beginPoll { n with sensor.request := none })

/-- The effect of SENSOR_MODE (R163). -/
def Node.setMode (code : Nat) (n : Node) : Node :=
  match modeOf code with
  | none => n.refuseArgument 1
  | some t => n.requestMode t

/-- SENSOR_MODE (R163). -/
def execSensorMode (args : List Byte) (s : State) : Host.Outcome State Fault Refusal :=
  s.act (Node.request 1 args (Node.whenConfigured (Node.setMode (fieldAt args 0 1))))

/-- A manual transaction is in progress (R164, R165). -/
def SensorPort.manualBusy (s : SensorPort) : Bool :=
  match s.transaction with
  | some t => t.manual
  | none => false

/-- A manual transaction begins (R164). -/
def Node.beginManual (select replyCount : Nat) (command : List Byte) (n : Node) : Node :=
  { n with
    sensor.outBuffer := command
    sensor.reply := none
    sensor.transaction := some
      { manual := true, select := select, command := command, replyCount := replyCount } }

/-- The effect of SENSOR_TRANSACT: the refusals in the order of R164. -/
def Node.transact (args : List Byte) (n : Node) : Node :=
  let select := fieldAt args 0 1
  let commands := fieldAt args 1 1
  let replies := fieldAt args 2 1
  if n.sensor.mode = .auto ∨ n.sensor.request.isSome then n.refuseState
  else if n.sensor.manualBusy then n.refuseBusy
  else if 3 < select then n.refuseArgument 1
  else if commands = 0 ∨ 8 < commands then n.refuseArgument 2
  else if 8 < replies then n.refuseArgument 3
  else if args.length - 3 ≠ commands then n.refuseArgument 2
  else (n.beginManual select replies (args.drop 3)).done []

/-- SENSOR_TRANSACT (R164): 3 to 11 argument bytes (R176). -/
def execSensorTransact (args : List Byte) (s : State) : Host.Outcome State Fault Refusal :=
  s.act (Node.takeRequest fun n =>
    if 3 ≤ args.length ∧ args.length ≤ 11 then n.whenConfigured (Node.transact args)
    else n.refuseArgument 0)

/-- The effect of SENSOR_READ (R165). -/
def Node.sensorRead (n : Node) : Node :=
  if n.sensor.manualBusy then n.refuseBusy
  else
    match n.sensor.reply with
    | none => n.ignored (be 1 0)
    | some r => n.done (be 1 r.select ++ be 1 r.bytes.length ++ r.bytes)

/-- SENSOR_READ (R165). -/
def execSensorRead (args : List Byte) (s : State) : Host.Outcome State Fault Refusal :=
  s.act (Node.request 0 args (Node.whenConfigured Node.sensorRead))

/-! ### Monitor Counters -/

/-- The mask bits a code allows (Table 10-2). -/
def allowedMask (code : Nat) : BitVec 16 :=
  match code with
  | 1 => 0x000F#16
  | 2 => 0x000F#16
  | 4 => 0x0007#16
  | 5 => 0x0007#16
  | 7 => 0x001F#16
  | 9 => 0x007F#16
  | 10 => 0x00F7#16
  | 12 => 0x0007#16
  | 13 => 0x000F#16
  | _ => 0x0000#16

/-- The mode of a code (R169). -/
def counterMode (code : Nat) : Option CounterMode :=
  match code with
  | 0 => some .occurrences
  | 1 => some .time
  | 2 => some .length
  | 3 => some .amount
  | _ => none

/-- The modes an event code allows (Table 10-2, R169). -/
def modeAllowed (code : Nat) (m : CounterMode) : Bool :=
  match m with
  | .occurrences => true
  | .amount => decide (code = 1) || decide (code = 2) || decide (code = 3) || decide (code = 12)
  | _ => conditionCode code

/-- The counter once a selection is made (R169). -/
def Node.selected (code : Nat) (mask : BitVec 16) (m : CounterMode) (n : Node) (c : Counter) :
    Counter :=
  let d := { c with value := 0, code := code, mask := mask, mode := m, overflow := false }
  if conditionCode code then { d with lastCondition := n.conditionOf d } else d

/-- The effect of COUNTER_SELECT (R169). -/
def Node.counterSelect (args : List Byte) (n : Node) : Node :=
  let i := fieldAt args 0 1
  let code := fieldAt args 1 1
  let mask := BitVec.ofNat 16 (fieldAt args 2 2)
  if 3 < i then n.refuseArgument 1
  else if 13 < code then n.refuseArgument 2
  else if mask &&& ~~~(allowedMask code) ≠ 0#16 then n.refuseArgument 3
  else
    match counterMode (fieldAt args 4 1) with
    | none => n.refuseArgument 4
    | some m =>
      if !modeAllowed code m then n.refuseArgument 4
      else
        Node.done []
          { n with
            counters.cells :=
              n.counters.cells.set i (n.selected code mask m (n.counters.cells.get i)) }

/-- COUNTER_SELECT (R169). -/
def execCounterSelect (args : List Byte) (s : State) : Host.Outcome State Fault Refusal :=
  s.act (Node.request 5 args (Node.whenConfigured (Node.counterSelect args)))

/-- COUNTER_READ (R174). -/
def execCounterRead (args : List Byte) (s : State) : Host.Outcome State Fault Refusal :=
  s.act (Node.request 0 args (Node.whenConfigured fun n => n.done n.counterData))

/-- The effect of FREEZE (R173). -/
def Node.freeze (n : Node) : Node :=
  if n.counters.frozen then n.ignored [] else Node.done [] { n with counters.frozen := true }

/-- FREEZE (R173). -/
def execFreeze (args : List Byte) (s : State) : Host.Outcome State Fault Refusal :=
  s.act (Node.request 0 args (Node.whenConfigured Node.freeze))

/-- The effect of THAW (R173). -/
def Node.thaw (n : Node) : Node :=
  if n.counters.frozen then Node.done [] { n with counters.frozen := false } else n.ignored []

/-- THAW (R173). -/
def execThaw (args : List Byte) (s : State) : Host.Outcome State Fault Refusal :=
  s.act (Node.request 0 args (Node.whenConfigured Node.thaw))

/-! ### Notices -/

/-- READ_NOTICES (R182), taken in every participation state. -/
def execReadNotices (args : List Byte) (s : State) : Host.Outcome State Fault Refusal :=
  s.act (Node.request 0 args fun n => n.done n.noticeData)

/-- A 2-byte set of flags that names none above bit 11 (R182). -/
def noticeSetOk (v : Nat) : Bool := decide (v < 4096)

/-- The effect of CLEAR_NOTICES naming the flags of `v` (R15, R182). -/
def Node.clearNotices (v : Nat) (n : Node) : Node :=
  if !noticeSetOk v then n.refuseArgument 1
  else
    Node.done []
      { n with
        port.notices := n.port.notices &&& ~~~(BitVec.ofNat 16 v)
        len.lostFlag := n.len.lostFlag && !v.testBit Notice.encoderLost
        len.resumedFlag := n.len.resumedFlag && !v.testBit Notice.encoderResumed }

/-- CLEAR_NOTICES (R182). -/
def execClearNotices (args : List Byte) (s : State) : Host.Outcome State Fault Refusal :=
  s.act (Node.request 2 args (Node.clearNotices (fieldAt args 0 2)))

/-- The effect of SET_NOTICE_MASK (R182). -/
def Node.setNoticeMask (v : Nat) (n : Node) : Node :=
  if !noticeSetOk v then n.refuseArgument 1
  else Node.done [] { n with port.mask := BitVec.ofNat 16 v }

/-- SET_NOTICE_MASK (R182). -/
def execSetNoticeMask (args : List Byte) (s : State) : Host.Outcome State Fault Refusal :=
  s.act (Node.request 2 args (Node.setNoticeMask (fieldAt args 0 2)))

end Sys2Proof.Machine
end

