-- ==== Sys2Proof/Machine/Reads.lean ====
section
/-! DEFINITION. The reads of the station port, CLEAR_FAULTS, and a request of unknown kind (R43, R83,
R134, R154, R176, R185). -/

namespace Sys2Proof.Machine

/-- A read completes with DONE; one use of the free bytes is over (log 5). -/
def Node.answerRead (data : List Byte) (n : Node) : Node := (n.done data).useFill

/-- READ_STATUS, taken in every participation state (R19, R154, Table 11-1). -/
def execReadStatus (args : List Byte) (s : State) : Host.Outcome State Fault Refusal :=
  s.act (Node.request 0 args fun n => n.answerRead n.statusData)

/-- A read with a start index up to `last` and a count of 1 to 8 (R43, R134). The model's choice: of two
arguments out of range the first is named (log 35). -/
def Node.ranged (last : Nat) (args : List Byte) (data : Nat → Nat → List Byte) (n : Node) : Node :=
  if last < fieldAt args 0 1 then n.refuseArgument 1
  else if fieldAt args 1 1 = 0 ∨ 8 < fieldAt args 1 1 then n.refuseArgument 2
  else n.answerRead (data (fieldAt args 0 1) (fieldAt args 1 1))

/-- READ_WINDOW (R43). -/
def execReadWindow (args : List Byte) (s : State) : Host.Outcome State Fault Refusal :=
  s.act (Node.request 2 args (Node.whenConfigured fun n =>
    n.ranged 47 args fun start count => n.windowData start count))

/-- READ_ROSTER (R134). -/
def execReadRoster (args : List Byte) (s : State) : Host.Outcome State Fault Refusal :=
  s.act (Node.request 2 args (Node.whenConfigured fun n =>
    n.ranged 23 args fun start count => n.rosterData start count))

/-- The effect of READ_LOG (R83). -/
def Node.readLog (n : Node) : Node :=
  if !n.isTerminal then n.refuseState
  else
    match n.handover.log with
    | [] => n.ignored (be 1 0)
    | e :: rest =>
      Node.answerRead (n.logImage e ++ be 1 rest.length) { n with handover.log := rest }

/-- READ_LOG (R83). -/
def execReadLog (args : List Byte) (s : State) : Host.Outcome State Fault Refusal :=
  s.act (Node.request 0 args (Node.whenConfigured Node.readLog))

/-- READ_FAULTS (R185). -/
def execReadFaults (args : List Byte) (s : State) : Host.Outcome State Fault Refusal :=
  s.act (Node.request 0 args (Node.whenConfigured fun n => n.answerRead n.faultData))

/-- The effect of CLEAR_FAULTS (R185). -/
def Node.clearFaults (n : Node) : Node :=
  Node.done []
    { n with faults.counts := n.faults.counts.map fun _ => 0, faults.firstFatal := none }

/-- CLEAR_FAULTS (R185). -/
def execClearFaults (args : List Byte) (s : State) : Host.Outcome State Fault Refusal :=
  s.act (Node.request 0 args (Node.whenConfigured Node.clearFaults))

/-- The effect of a request whose kind byte is `kind` (R154, R176): it is answered UNKNOWN_REQUEST and
nothing else changes; a kind that is in Table 8-10, or 0, is no such request (log 28). -/
def Node.unknownRequest (kind : Byte) (n : Node) : Node :=
  if kind.toNat = 0 ∨ requestKinds.contains kind.toNat = true then n
  else n.respond Result.unknownRequest 0 []

/-- A request of unknown kind (R154, R176). -/
def execUnknownRequest (kind : Byte) (_args : List Byte) (s : State) :
    Host.Outcome State Fault Refusal :=
  s.act (Node.takeRequest (Node.unknownRequest kind))

end Sys2Proof.Machine
end

