-- ==== Sys2Proof/Machine/Operands.lean ====
section
/-! DEFINITION. The configuration record read from CONFIGURE's 168 bytes (Table 11-2) and the checks
START makes on it, field by field (R118, R156, R177). -/

namespace Sys2Proof.Machine

/-- Reads the five fields of an action line (Table 11-2). -/
def parseLine (bs : List Byte) (i : Nat) : ActionConfig :=
  { condition := fieldAt bs i 1, parameter := fieldAt bs (i + 1) 1, polarity := fieldAt bs (i + 2) 1,
    latch := fieldAt bs (i + 3) 1, holdsStart := fieldAt bs (i + 4) 1 }

/-- Reads the eleven fields of a channel, 24 bytes (Table 11-2). -/
def parseChannel (bs : List Byte) (i : Nat) : ChannelConfig :=
  { enable := fieldAt bs i 1, quantity := fieldAt bs (i + 1) 1, position := fieldAt bs (i + 2) 4,
    interval := fieldAt bs (i + 6) 2, commandSize := fieldAt bs (i + 8) 1,
    command := (bs.drop (i + 9)).take 8, replySize := fieldAt bs (i + 17) 1,
    valueOffset := fieldAt bs (i + 18) 1, low := fieldAt bs (i + 19) 2,
    high := fieldAt bs (i + 21) 2, required := fieldAt bs (i + 23) 1 }

/-- Reads the whole record in the order in which CONFIGURE carries it (Table 11-2). -/
def parseConfig (bs : List Byte) : ConfigRecord :=
  { station := fieldAt bs 0 1, role := fieldAt bs 1 1, order := fieldAt bs 2 1,
    reach := fieldAt bs 3 4, entryGap := fieldAt bs 7 4, markPoint := fieldAt bs 11 4,
    spanStart := fieldAt bs 15 4, spanEnd := fieldAt bs 19 4, segmentLength := fieldAt bs 23 4,
    lateMargin := fieldAt bs 27 1, m := fieldAt bs 28 1, p := fieldAt bs 29 1,
    fallback := fieldAt bs 30 1, stallTime := fieldAt bs 31 2, neighbourMode := fieldAt bs 33 1,
    forcedNeighbour := fieldAt bs 34 1, referenceMode := fieldAt bs 35 1,
    referenceStation := fieldAt bs 36 1, startRight := fieldAt bs 37 1, bitRate := fieldAt bs 38 1,
    markTail := fieldAt bs 39 4, dwell1 := fieldAt bs 43 2, dwell2 := fieldAt bs 45 2,
    lines := { q0 := parseLine bs 47, q1 := parseLine bs 52, q2 := parseLine bs 57,
               q3 := parseLine bs 62 },
    channels := { q0 := parseChannel bs 67, q1 := parseChannel bs 91, q2 := parseChannel bs 115,
                  q3 := parseChannel bs 139 },
    escalation := BitVec.ofNat 32 (fieldAt bs 163 4), enables := BitVec.ofNat 8 (fieldAt bs 167 1) }

/-- A value lies in an accepted range. -/
def between (lo v hi : Nat) : Bool := decide (lo ≤ v) && decide (v ≤ hi)

/-- The parameter a condition accepts (Table 6-3, 11.2): a mask of views, none, a mask of span kinds,
a channel; other conditions take 0. -/
def parameterOk (a : ActionConfig) : Bool :=
  match a.condition with
  | 1 => decide (a.parameter < 32)
  | 4 => decide (a.parameter < 8)
  | 5 => decide (a.parameter < 4)
  | 6 => decide (a.parameter < 4)
  | _ => decide (a.parameter = 0)

/-- The holds-start option may not stand with the latch, DWELL1, DWELL2, a VIEW_IN mask that names
anything or a SPAN_OPEN mask that names STOP or TRIP (R118). -/
def holdsStartOk (a : ActionConfig) : Bool :=
  decide (a.holdsStart = 0) ||
  (decide (a.holdsStart = 1) && decide (a.latch = 0) &&
    (match a.condition with
     | 1 => decide (a.parameter = 0)
     | 2 => false
     | 3 => false
     | 4 => decide (a.parameter % 4 = 0)
     | _ => true))

/-- The checks on an action line whose first field has index `i` (Table 11-2). -/
def lineChecks (i : Nat) (a : ActionConfig) : List (Nat × Bool) :=
  [(i, between 1 a.condition 8), (i + 1, parameterOk a), (i + 2, between 0 a.polarity 1),
   (i + 3, between 0 a.latch 1), (i + 4, holdsStartOk a)]

/-- The checks on a channel whose first field has index `i` (R156): a channel that is not enabled is
checked for its required setting alone. -/
def channelChecks (reach i : Nat) (c : ChannelConfig) : List (Nat × Bool) :=
  if c.enable = 0 then [(i + 10, decide (c.required = 0))]
  else
    [(i, decide (c.enable = 1)), (i + 1, between 0 c.quantity 2), (i + 2, between 0 c.position reach),
     (i + 3, between 100 c.interval 5000), (i + 4, between 1 c.commandSize 8),
     (i + 6, between 3 c.replySize 8), (i + 7, between 1 c.valueOffset (c.replySize - 2)),
     (i + 8, decide (c.low ≤ c.high)), (i + 10, between 0 c.required 1)]

/-- START's checks in the order of Table 11-2: field index and whether its value is accepted
(R177). The neighbour mode is not checked at the ORIGIN (R129, log 40). -/
def configChecks (c : ConfigRecord) : List (Nat × Bool) :=
  let isOrigin := decide (c.role = 1)
  [(1, between 1 c.station 31), (2, between 1 c.role 3), (3, between 1 c.order 63),
   (4, between 1000 c.reach 200000), (5, between 0 c.entryGap 50000),
   (6, between 0 c.markPoint c.reach), (7, between 0 c.spanStart c.reach),
   (8, between c.spanStart c.spanEnd c.reach),
   (9, !isOrigin || between 500 c.segmentLength 50000),
   (10, between 1 c.lateMargin 50), (11, between 1 c.m 255), (12, between 1 c.p 255),
   (13, between 0 c.fallback 1),
   (14, between 200 c.stallTime 5000 && decide (c.stallTime % 100 = 0)),
   (15, isOrigin || between 0 c.neighbourMode 1),
   (16, isOrigin || decide (c.neighbourMode = 0) ||
     (between 1 c.forcedNeighbour 31 && decide (c.forcedNeighbour ≠ c.station))),
   (17, between 0 c.referenceMode 1),
   (18, decide (c.referenceMode = 0) ||
     (between 1 c.referenceStation 31 && decide (c.referenceStation ≠ c.station))),
   (19, between 0 c.startRight 1), (20, between 0 c.bitRate 2), (21, between 0 c.markTail 50000),
   (22, between 1 c.dwell1 3600), (23, between 1 c.dwell2 3600)] ++
  lineChecks 24 c.lines.q0 ++ lineChecks 29 c.lines.q1 ++ lineChecks 34 c.lines.q2 ++
  lineChecks 39 c.lines.q3 ++
  channelChecks c.reach 44 c.channels.q0 ++ channelChecks c.reach 55 c.channels.q1 ++
  channelChecks c.reach 66 c.channels.q2 ++ channelChecks c.reach 77 c.channels.q3 ++
  [(88, decide (c.escalation.toNat < 131072)), (89, c.enables &&& 0xC8#8 == 0#8)]

/-- The index of the first field that breaks its rule, if any (R177). -/
def firstInvalid (c : ConfigRecord) : Option Nat :=
  ((configChecks c).find? fun x => !x.2).map (fun x => x.1)

end Sys2Proof.Machine
end

