-- ==== Sys2Proof/Machine/Setup.lean ====
section
/-! DEFINITION. POWER_ON_RESET, CONFIGURE, START, RESTART, SET_PARTICIPATION and RETURN_TO_ENCODER
(R14, R146, R177 to R180). -/

namespace Sys2Proof.Machine

/-- Power-on reset with the encoder at levels `enc` (R16, R180), RESET_N staying asserted behind it
when `held` (log 42); the inputs and what the model adds to the part stay (log 1). -/
def Node.reset (enc : EncoderLevels) (held : Bool) (n : Node) : Node :=
  Node.powerOn enc.a enc.b held n.prot.wired n.bus.tap.others n.turns n.freeUses

/-- POWER_ON_RESET (R180). -/
def execPowerOnReset (enc : EncoderLevels) (held : Bool) (s : State) :
    Host.Outcome State Fault Refusal :=
  s.act (Node.reset enc held)

/-- The effect of CONFIGURE on the part (R177). -/
def Node.configure (args : List Byte) (n : Node) : Node :=
  if n.configured then n.refuseState else Node.done [] { n with config := parseConfig args }

/-- CONFIGURE (R177): 168 argument bytes (R176). -/
def execConfigure (args : List Byte) (s : State) : Host.Outcome State Fault Refusal :=
  s.act (Node.request 168 args (Node.configure args))

/-- Each counter that selects a condition takes its value as it stands, no edge counted (R168). -/
def Node.retakeConditions (n : Node) : Node :=
  { n with
    counters.cells := n.counters.cells.map fun c =>
      if conditionCode c.code then { c with lastCondition := n.conditionOf c } else c }

/-- The blocks at START on the record it latches, the line being `tap` (R16, R25, R63, R85, R109, R115,
R122, R151, R157, R178). -/
def Node.begun (tap : LineTap) (n : Node) : Node :=
  { n with
    window := Window.empty
    marks := MarkUnit.initial
    handover := Handover.initial n.config.entryGap
    line := LineState.initial
    prot := Protection.initial true n.prot.wired
    roster := Roster.initial
    bus := LineBus.initial .joining true tap
    sensor := SensorPort.initial (n.config.channels.map fun c => Channel.initial c.enabled)
    faults.escalation := n.config.escalation
    faults.enables := n.config.enables }

/-- Choices, lines, last conditions and the first poll once the blocks stand at their starting values
(R115, R119, R122, R157, R158, R166, R168). -/
def Node.settled (n : Node) : Node := n.remakeChoices.evalLines.retakeConditions.beginPoll

/-- START accepted (R178). The model's choice: a notice mask set before it stays (R182, log 41). -/
def Node.started (n : Node) : Node :=
  Node.done []
    (Node.notice Notice.participationChanged (n.begun (LineTap.initial n.bus.tap.others)).settled)

/-- The effect of START (R177): the first field that breaks its rule refuses it. -/
def Node.start (n : Node) : Node :=
  if n.configured then n.refuseState
  else
    match firstInvalid n.config with
    | some i => n.refuseArgument i
    | none => n.started

/-- START (R177, R178). -/
def execStart (args : List Byte) (s : State) : Host.Outcome State Fault Refusal :=
  s.act (Node.request 0 args Node.start)

/-- A counter at RESTART: its selection is kept (R168). -/
def Counter.zeroed (c : Counter) : Counter := { c with value := 0, overflow := false }

/-- The blocks at RESTART (R17, R25, R63, R85, R109, R119, R122, R151, R166, R168, R179); the line is
followed on, idle if it was, its own drive cut (R135, R151). -/
def Node.cleared (n : Node) : Node :=
  { n.begun (n.bus.tap.undriven n.bus.lde) with
    len := LengthUnit.initial n.len.quadA n.len.quadB
    counters := { cells := n.counters.cells.map Counter.zeroed, frozen := false }
    faults := FaultUnit.initial n.faults.escalation n.faults.enables }

/-- After RESTART PARTICIPATION_CHANGED is the one notice flag set (R179). -/
def Node.onlyParticipation (n : Node) : Node :=
  { n with port.notices := 1#16 <<< Notice.participationChanged }

/-- The effect of RESTART (R179, log 13). -/
def Node.restart (n : Node) : Node :=
  if n.configured then Node.done [] n.cleared.settled.onlyParticipation else n.refuseState

/-- RESTART (R179). -/
def execRestart (args : List Byte) (s : State) : Host.Outcome State Fault Refusal :=
  s.act (Node.request 0 args Node.restart)

/-- The answer to a SET_PARTICIPATION that changed participation (R146). The model's choice: it gives the
participation once the change and what follows from it have been taken (log 38). -/
def Node.doneParticipation (n : Node) : Node :=
  n.done (be 1 n.bus.participation.code)

/-- Participation toward a target (R146). -/
def Node.moveTo (target : Participation) (n : Node) : Node :=
  match target, n.bus.participation with
  | .active, .listen => n.enterJoining.finish.doneParticipation
  | .active, .offline => n.enterJoining.finish.doneParticipation
  | .listen, .joining => n.enterListen.finish.doneParticipation
  | .listen, .active => n.enterListen.finish.doneParticipation
  | .offline, .joining => n.enterOffline.finish.doneParticipation
  | .offline, .active => n.enterOffline.finish.doneParticipation
  | .offline, .listen => n.enterOffline.finish.doneParticipation
  | _, _ => n.ignored []

/-- The target a SET_PARTICIPATION may name (R146, R155). -/
def targetOf (code : Nat) : Option Participation :=
  match code with
  | 2 => some .active
  | 3 => some .listen
  | 5 => some .offline
  | _ => none

/-- The effect of SET_PARTICIPATION (R146). The model's choice: a target that is none of the three is
refused in WITHDRAWING too (log 44). -/
def Node.setParticipation (args : List Byte) (n : Node) : Node :=
  match targetOf (fieldAt args 0 1) with
  | none => n.refuseArgument 1
  | some t => n.moveTo t

/-- SET_PARTICIPATION (R146). -/
def execSetParticipation (args : List Byte) (s : State) : Host.Outcome State Fault Refusal :=
  s.act (Node.request 1 args (Node.whenConfigured (Node.setParticipation args)))

/-- The effect of RETURN_TO_ENCODER (R14). -/
def Node.returnToEncoder (n : Node) : Node :=
  if n.len.stalled then n.refuseState
  else if !n.lengthDerived then n.ignored []
  else
    (Node.finish { n with len.source := .encoder, len.remainder := 0 }).done []

/-- RETURN_TO_ENCODER (R14). -/
def execReturnToEncoder (args : List Byte) (s : State) : Host.Outcome State Fault Refusal :=
  s.act (Node.request 0 args (Node.whenConfigured Node.returnToEncoder))

end Sys2Proof.Machine
end

