-- ==== Sys2Proof/Machine/Dispatch.lean ====
section
/-! DEFINITION. The meaning of every command. -/

namespace Sys2Proof.Machine

/-- The effect of a command on everything but the queue. -/
def exec (i : Instr) (s : State) : Host.Outcome State Fault Refusal :=
  match i with
  | .powerOnReset enc held => Sys2Proof.Machine.execPowerOnReset enc held s
  | .configure args => Sys2Proof.Machine.execConfigure args s
  | .start args => Sys2Proof.Machine.execStart args s
  | .restart args => Sys2Proof.Machine.execRestart args s
  | .readStatus args => Sys2Proof.Machine.execReadStatus args s
  | .readWindow args => Sys2Proof.Machine.execReadWindow args s
  | .readRoster args => Sys2Proof.Machine.execReadRoster args s
  | .readLog args => Sys2Proof.Machine.execReadLog args s
  | .readFaults args => Sys2Proof.Machine.execReadFaults args s
  | .clearFaults args => Sys2Proof.Machine.execClearFaults args s
  | .postMark args => Sys2Proof.Machine.execPostMark args s
  | .openMark args => Sys2Proof.Machine.execOpenMark args s
  | .closeMark args => Sys2Proof.Machine.execCloseMark args s
  | .announceStop args => Sys2Proof.Machine.execAnnounceStop args s
  | .announceTrip args => Sys2Proof.Machine.execAnnounceTrip args s
  | .propose args => Sys2Proof.Machine.execPropose args s
  | .setHold args => Sys2Proof.Machine.execSetHold args s
  | .clearHold args => Sys2Proof.Machine.execClearHold args s
  | .ackTrip args => Sys2Proof.Machine.execAckTrip args s
  | .setParticipation args => Sys2Proof.Machine.execSetParticipation args s
  | .returnToEncoder args => Sys2Proof.Machine.execReturnToEncoder args s
  | .sensorMode args => Sys2Proof.Machine.execSensorMode args s
  | .sensorTransact args => Sys2Proof.Machine.execSensorTransact args s
  | .sensorRead args => Sys2Proof.Machine.execSensorRead args s
  | .counterSelect args => Sys2Proof.Machine.execCounterSelect args s
  | .counterRead args => Sys2Proof.Machine.execCounterRead args s
  | .freeze args => Sys2Proof.Machine.execFreeze args s
  | .thaw args => Sys2Proof.Machine.execThaw args s
  | .readNotices args => Sys2Proof.Machine.execReadNotices args s
  | .clearNotices args => Sys2Proof.Machine.execClearNotices args s
  | .setNoticeMask args => Sys2Proof.Machine.execSetNoticeMask args s
  | .unknownRequest kind args => Sys2Proof.Machine.execUnknownRequest kind args s
  | .quadratureChange encA encB => Sys2Proof.Machine.execQuadratureChange encA encB s
  | .stall => Sys2Proof.Machine.execStall s
  | .derivedAdvance => Sys2Proof.Machine.execDerivedAdvance s
  | .referenceAbsent => Sys2Proof.Machine.execReferenceAbsent s
  | .speedIntervalEnd => Sys2Proof.Machine.execSpeedIntervalEnd s
  | .receiveStatus sender p => Sys2Proof.Machine.execReceiveStatus sender p s
  | .receiveHandoff sender p => Sys2Proof.Machine.execReceiveHandoff sender p s
  | .receiveStop sender p => Sys2Proof.Machine.execReceiveStop sender p s
  | .receiveTrip sender p => Sys2Proof.Machine.execReceiveTrip sender p s
  | .receivePropose sender p => Sys2Proof.Machine.execReceivePropose sender p s
  | .receiveAssent sender id => Sys2Proof.Machine.execReceiveAssent sender id s
  | .receiveHold sender p => Sys2Proof.Machine.execReceiveHold sender p s
  | .receiveEnact sender p => Sys2Proof.Machine.execReceiveEnact sender p s
  | .receiveFault sender p => Sys2Proof.Machine.execReceiveFault sender p s
  | .frameDiscarded bytes badStop => Sys2Proof.Machine.execFrameDiscarded bytes badStop s
  | .entrySilent station => Sys2Proof.Machine.execEntrySilent station s
  | .transmitBegin => Sys2Proof.Machine.execTransmitBegin s
  | .transmitComplete => Sys2Proof.Machine.execTransmitComplete s
  | .collision => Sys2Proof.Machine.execCollision s
  | .lineJam => Sys2Proof.Machine.execLineJam s
  | .statusTimer => Sys2Proof.Machine.execStatusTimer s
  | .joinTimerExpiry => Sys2Proof.Machine.execJoinTimerExpiry s
  | .voteTimeout => Sys2Proof.Machine.execVoteTimeout s
  | .proposalViewTimeout => Sys2Proof.Machine.execProposalViewTimeout s
  | .standstillSecond => Sys2Proof.Machine.execStandstillSecond s
  | .pollTimerExpiry channel => Sys2Proof.Machine.execPollTimerExpiry channel s
  | .transactionComplete ssdi => Sys2Proof.Machine.execTransactionComplete ssdi s
  | .timeBaseMillisecond => Sys2Proof.Machine.execTimeBaseMillisecond s

end Sys2Proof.Machine
end

