-- ==== Sys2Proof/Machine/Pins.lean ====
section
/-! DEFINITION. The output pins as the state gives them (Table 11-5); true is high, none is not driven.
While RESET_N is asserted SDO, LDE and ACT0 to ACT3 are not driven (R180). -/

namespace Sys2Proof.Machine

/-- The bytes SDO gives in a frame of `k` bytes: driven while CS_N is asserted (R175, R180). -/
def Node.sdoPin (selected : Bool) (k : Nat) (n : Node) : Option (List Byte) :=
  if selected && !n.inReset then some (n.sdoBytes k) else none

/-- NOTICE_N, asserted low (R181). -/
def Node.noticePin (n : Node) : Bool := !n.noticeAsserted

/-- LDE, asserted high (R135, R180). -/
def Node.ldePin (n : Node) : Option Bool := if n.inReset then none else some n.bus.lde

/-- The bit presented on LTX in the next bit time (R135). -/
def Node.ltxPin (n : Node) : Option Bool := n.bus.presented

/-- The line's level at LRX in the next bit time: the part's own drive with the others' (R135). -/
def Node.lrxPin (n : Node) : Bool := !n.bus.level

/-- ACT0 to ACT3: driven from START (R115, R180). -/
def Node.actPin (i : Nat) (n : Node) : Option Bool :=
  if n.prot.driven && !n.inReset then some (n.pinHigh i) else none

/-- SEL0 to SEL3, asserted low (R159). -/
def Node.selPin (i : Nat) (n : Node) : Bool := !n.sensor.selected i

/-- SSCK in period `p` of a transaction, in the half of it in which a clock is high or in the other: low
in the periods before the first clock and after the last, and without a transaction (R157, R159), which
from START is the model's choice (log 45). -/
def Node.ssckPin (p : Nat) (highHalf : Bool) (n : Node) : Bool :=
  match n.sensor.transaction with
  | some t => highHalf && decide (1 ≤ p) && decide (p ≤ t.clocks)
  | none => false

/-- SSDO in period `p` of a transaction: the command bits, then low; low without a transaction (R157,
R159). The model's choice (log 45): from START too SSDO is low without a transaction; it is low in the
period before the first clock and takes the first bit as period 1 begins, where no falling edge precedes
it; and it is low after the last clock, reply or none. -/
def Node.ssdoPin (p : Nat) (n : Node) : Bool :=
  match n.sensor.transaction with
  | some t => decide (1 ≤ p) && (t.ssdo[p - 1]?).getD false
  | none => false

end Sys2Proof.Machine
end

