-- ==== Sys2Proof/Machine/Step.lean ====
section
/-! DEFINITION. One step: the command at the front of the queue; when none waits, an event that is due, or
time that passes. -/

namespace Sys2Proof.Machine

/-- A step when no command waits: nothing before START; then one of the events that are due, or time that
passes when none is (logs 2, 4). -/
def State.idleStep (s : State) : Host.Outcome State Fault Refusal :=
  if !s.node.configured then .next s
  else
    match s.node.dueEvents[s.node.choice s.node.dueEvents.length]? with
    | some c => exec c { s with node := s.node.takingDue s.node.dueEvents.length c }
    | none => .next { s with node := s.node.pass }

/-- One step of the machine (log 2). -/
def step (s : State) : Host.Outcome State Fault Refusal :=
  match s.pending with
  | [] => s.idleStep
  | c :: rest => exec c { s with pending := rest }

/-- The state with a command at the front of its queue. -/
def State.push (c : Instr) (s : State) : State := { s with pending := c :: s.pending }

/-- The state with the command that a table word spells at the front of its queue; no row of the table
gives bits, so no word spells one. -/
def State.withFetchWord (s : State) (nbits w : Nat) : State :=
  match decodeTableWord nbits w with
  | some c => s.push c
  | none => s

end Sys2Proof.Machine
end

