-- ==== Sys2Proof/Safety.lean ====
section
/-! DEFINITION. What a step never does and what every step keeps: no stop, the capacities of the
collections, the chain of the window's records, the action lines following their conditions, the
counters following theirs, the agreement of the encoder flags with their notices. -/

namespace Sys2Proof.Machine

/-- The step goes on: it neither faults nor refuses. -/
def Runs (s : State) : Prop := ∃ t, step s = .next t

/-- Every collection is within its capacity (R24, R48, R72, R82, R121, R139), one detected count stands
for each fault kind (R185), and no fault waits to be taken (log 21). -/
def Node.withinCapacity (n : Node) : Prop :=
  n.window.count ≤ Config.windowCapacity ∧ n.marks.table.length ≤ Config.markCapacity ∧
  n.handover.arrivals.length ≤ Config.arrivalCapacity ∧
  n.handover.log.length ≤ Config.logCapacity ∧
  n.bus.queue.length ≤ Config.outboundCapacity ∧
  n.roster.others.length ≤ Config.otherEntries ∧
  n.faults.counts.length = 25 ∧ n.faults.reported = []

/-- Closed records follow one another: each begins at the tail and at the successor number of the one
before; `head` and `first` are those of the record after the last (R24, R28, R80). -/
def chainTo (head first : Nat) : List ClosedRecord → Prop
  | [] => True
  | [r] => r.head ≤ r.tail ∧ r.tail = head ∧ first = segSucc r.body.last
  | r :: q :: rest =>
    r.head ≤ r.tail ∧ r.tail = q.head ∧ q.body.first = segSucc r.body.last ∧
      chainTo head first (q :: rest)

/-- The window's records form one chain that ends in the entering record, which began no later than
the tracking length; without an entering record the window is empty (R24). -/
def Node.windowChained (n : Node) : Prop :=
  match n.window.entering with
  | none => n.window.closed = []
  | some e => e.head ≤ n.len.tracking ∧ chainTo e.head e.body.first n.window.closed

/-- The lines are driven from START onward, and each is as its condition and latch make it (R114 to
R116). -/
def Node.linesFollow (n : Node) : Prop :=
  n.prot.driven = n.configured ∧ n.evalLines = n

/-- The encoder flags and the notice flags of the same names stand together (R15). -/
def Node.flagsAgree (n : Node) : Prop :=
  n.len.lostFlag = n.noticed Notice.encoderLost ∧ n.len.resumedFlag = n.noticed Notice.encoderResumed

/-- No fault that a rule of this station escalates is about: the escalation set is empty and no fault
waits (R183). -/
def Node.calm (n : Node) : Prop := n.faults.escalation = 0 ∧ n.faults.reported = []

/-- Every counter that selects a condition has recorded the value it stands at (R171). -/
def Node.countersFollow (n : Node) : Prop := n.followConditions = n

/-- From START onward the Roster's choices stand as its entries make them, and the Handover Engine has the
chosen neighbour in force (R68, R129, R131). -/
def Node.choicesStand (n : Node) : Prop :=
  n.configured = true →
    n.roster.upstream = n.chooseUpstream ∧ n.handover.neighbour = n.roster.upstream ∧
    n.roster.reference = n.chooseReference

/-- `m` comes of `n` when the blocks `ts` act one after another at an advance of `mm`, the faults of each
taken and its state followed before the next acts, whatever `turns` then reads (R5, log 4). -/
def Node.actsInTurn (mm : Nat) : List Taker → Node → Node → Prop
  | [], n, m => m = n
  | t :: ts, n, m =>
    ∃ turns, Node.actsInTurn mm ts ((({ n with turns := turns }).takerTurn t mm).finish) m

/-- Nothing is left to follow and nothing interferes: no fault waits or escalates, the lines and the
counters stand as their conditions make them, and no own proposal is open (R100, R114, R171, R183). -/
def Node.quiet (n : Node) : Prop :=
  n.calm ∧ n.linesFollow ∧ n.countersFollow ∧ n.line.own = none

/-- Every frame of the list is a FAULT frame as it joins the queue (R183). -/
def FaultFrames (l : List QueuedFrame) : Prop :=
  ∀ q ∈ l, ∃ p, q = QueuedFrame.fresh (.fault p) false

/-- The counter's selection is kept: value, overflow flag and last condition value alone may differ
(R170 to R172). -/
def Counter.sameSelection (a b : Counter) : Prop :=
  a = { b with value := a.value, overflow := a.overflow, lastCondition := a.lastCondition }

/-- `m` is `n` but for what the reports of an event may touch besides its own effect: counter values,
overflow flags and last condition values, notices that are set, the response, detected counts, FAULT
frames that join the queue, and the model's `turns` (R140, R170, R175, R181, R183). -/
def Node.upToReports (m n : Node) : Prop :=
  (∃ frames, FaultFrames frames ∧
    m = { n with
      counters.cells := m.counters.cells
      port.notices := m.port.notices
      port.response := m.port.response
      faults.counts := m.faults.counts
      bus.queue := n.bus.queue ++ frames
      turns := m.turns }) ∧
  (∀ i, (m.counters.cells.get i).sameSelection (n.counters.cells.get i)) ∧
  (∀ i, n.noticed i = true → m.noticed i = true)

/-- The Sensor Port as START and RESTART leave it: AUTO, each enabled channel due with its timer running
from 0, but for the lowest enabled one, whose transaction has begun (R157, R158, R166). -/
def Node.sensorsBegun (n : Node) : Prop :=
  let enabled (ch : Nat) : Prop := (n.config.channels.get ch).enable ≠ 0
  n.sensor.mode = .auto ∧ n.sensor.request = none ∧ n.sensor.outBuffer = [] ∧ n.sensor.reply = none ∧
  (∀ ch ≤ 3, ¬enabled ch → n.sensor.channels.get ch = Channel.initial false) ∧
  (∀ ch ≤ 3, enabled ch → (∃ j < ch, enabled j) → n.sensor.channels.get ch = Channel.initial true) ∧
  (∀ ch ≤ 3, enabled ch → (∀ j < ch, ¬enabled j) →
    n.sensor.channels.get ch = Channel.initial false ∧
    n.sensor.transaction = some
      { manual := false, select := ch
        command := (n.config.channels.get ch).command.take (n.config.channels.get ch).commandSize
        replyCount := (n.config.channels.get ch).replySize }) ∧
  ((∀ ch ≤ 3, ¬enabled ch) → n.sensor.transaction = none)

/-- The Handover Engine as START and RESTART leave it, the Roster's choice made: a FORCED neighbour is in
force at once, and none in AUTO (R63, R68, R122, R129). -/
def Node.handoverBegun (n : Node) : Prop :=
  n.handover =
    { neighbour :=
        if n.isOrigin = false ∧ n.config.neighbourMode = 1 then some n.config.forcedNeighbour else none
      gap := n.config.entryGap, allowance := 0, bridging := false, arrivals := [], log := [], beam := 1 }

/-- The Protection Unit as START and RESTART leave it: the timer stopped at 0, the pins driven, every latch
clear before its line is first evaluated (R109, R115, R119). -/
def Node.protectionBegun (n : Node) : Prop :=
  n.prot.timer = 0 ∧ n.prot.phase = 0 ∧ n.prot.running = false ∧ n.prot.driven = true ∧
  ∀ i ≤ 3, n.prot.lines.get i =
    n.evalLine (n.config.lines.get i) { latch := false, asserted := false }

/-- The sender and the frame of a receive event (R137). -/
def receivedFrame : Instr → Option (Nat × Frame)
  | .receiveStatus sender p => some (sender, .status p)
  | .receiveHandoff sender p => some (sender, .handoff p)
  | .receiveStop sender p => some (sender, .stop p)
  | .receiveTrip sender p => some (sender, .trip p)
  | .receivePropose sender p => some (sender, .propose p)
  | .receiveAssent sender i => some (sender, .assent i)
  | .receiveHold sender p => some (sender, .hold p)
  | .receiveEnact sender p => some (sender, .enact p)
  | .receiveFault sender p => some (sender, .fault p)
  | _ => none

/-- The number and view a frame brings, whether it clears a TRIP, and the announcement it would become
(R88 to R91). -/
def framePair (sender : Nat) : Frame → Option (Nat × View × Bool × Option Announcement)
  | .status p => some (p.number, p.view, false, none)
  | .stop p => some (p.number, .standstill, false, some (announcementOf false sender p))
  | .trip p => some (p.number, .trip, false, some (announcementOf true sender p))
  | .enact p => some (p.number, p.target, decide (p.target = .standstill), none)
  | _ => none

/-- The detected count of a kind after one more fault, holding at 255 (R183). -/
def Node.countedOnce (k : FaultKind) (m n : Node) : Prop :=
  m.faults.counts[k.index]? = (n.faults.counts[k.index]?).map fun c => min 255 (c + 1)

/-- The response held is this one (R154, R175). -/
def Node.answers (result field : Nat) (data : List Byte) (n : Node) : Prop :=
  n.port.response = some (responseBytes result field data)

end Sys2Proof.Machine
end

