-- ==== Sys2Proof/Certificates/Slice0/Obligations.lean ====
section
/-! DEFINITION. The statements for the provers, from the numbered rules of spec/. -/

open Sys2Proof Sys2Proof.Machine

/-- A step takes the command at the front of the queue and runs it with the rest; the queue is the
model's (log 1). -/
def Obligations.StepRunsFrontCommand : Prop :=
  ∀ (c : Instr) (rest : List Instr) (s : State),
    step { s with pending := c :: rest } = exec c { s with pending := rest }

/-- Every command, in every state, answers a next state whose queue is the queue it was given: the queue
is the model's, which POWER_ON_RESET keeps too (log 1), and an event whose conditions do not hold
changes nothing (log 8). -/
def Obligations.EveryCommandCompletes : Prop :=
  ∀ (c : Instr) (s : State), ∃ t, exec c s = .next t ∧ t.pending = s.pending

/-- With no command waiting the part idles before START. From START onward one of the events that are
due happens, and when none is due time passes, bit time by bit time, to the first event of the line or
to the end of the millisecond, at which every timer's field counts it; nothing else changes, and a
transaction of the Sensor Port does not complete of itself (the model's choice, logs 2, 4, 9, 46). Each
timer's event is due exactly while its timer is at its limit and its other conditions hold, and what
else is due is of the line (R6, R7, R10, R11, R99, R100, R107, R124, R145, R147, R158, R171). -/
def Obligations.EmptyQueueLetsTimePass : Prop :=
  ∀ s : State, s.pending = [] →
    let n := s.node
    let bits := [125, 250, 500].getD n.config.bitRate 500
    let passed := n.bus.bitTimes n.receiving n.waitingGap (bits - n.bus.tap.phase)
    (n.bus.participation = .unconfigured → step s = .next s) ∧
    (n.bus.participation ≠ .unconfigured → n.dueEvents ≠ [] →
      ∃ c ∈ n.dueEvents, ∃ turns, step s = exec c { s with
        node.turns := turns
        node.baseDue := n.baseDue && decide (c ≠ .timeBaseMillisecond) }) ∧
    (n.bus.participation ≠ .unconfigured → n.dueEvents = [] → passed.tap.phase < bits →
      step s = .next { s with node.bus := passed }) ∧
    (n.bus.participation ≠ .unconfigured → n.dueEvents = [] → bits ≤ passed.tap.phase →
      ∃ t, step s = .next t ∧ t.pending = [] ∧
        t.node = { n with
          baseDue := true
          len.stallTimer := min 65535 (n.len.stallTimer + 1)
          len.absenceTimer := if n.usableSpeed = none then min 2000 (n.len.absenceTimer + 1) else 0
          len.speedPhase := min 100 (n.len.speedPhase + 1)
          len.derivedPhase :=
            if n.len.source = .derived then min 10 (n.len.derivedPhase + 1) else n.len.derivedPhase
          bus := { passed with
            joinTimer := if n.bus.joinRunning then min 600 (n.bus.joinTimer + 1) else n.bus.joinTimer
            statusTimer :=
              if n.bus.statusRunning then min 250 (n.bus.statusTimer + 1) else n.bus.statusTimer
            tap := { passed.tap with phase := 0 } }
          line.own := n.line.own.map fun o => { o with
            phase := match o.phase with
              | .queued => .queued
              | .voting electorate assents timer => .voting electorate assents (min 300 (timer + 1)) }
          line.proposalView := n.line.proposalView.map fun v => { v with timer := min 500 (v.timer + 1) }
          prot.phase := if n.prot.running then min 1000 (n.prot.phase + 1) else n.prot.phase
          roster.others := n.roster.others.map fun e => { e with age := min 65535 (e.age + 1) }
          sensor.channels := t.node.sensor.channels } ∧
        ∀ ch, t.node.sensor.channels.get ch = { n.sensor.channels.get ch with
          timer :=
            if (n.config.channels.get ch).enable = 0 then (n.sensor.channels.get ch).timer
            else min (n.config.channels.get ch).interval ((n.sensor.channels.get ch).timer + 1) }) ∧
    ((.timeBaseMillisecond ∈ n.dueEvents ↔ n.baseDue = true) ∧
     (.speedIntervalEnd ∈ n.dueEvents ↔ 100 ≤ n.len.speedPhase) ∧
     (.derivedAdvance ∈ n.dueEvents ↔ n.len.source = .derived ∧ 10 ≤ n.len.derivedPhase) ∧
     (.stall ∈ n.dueEvents ↔ n.bus.participation ≠ .unconfigured ∧ n.line.view.moving = true ∧
       n.len.stalled = false ∧ n.config.stallTime ≤ n.len.stallTimer) ∧
     (.referenceAbsent ∈ n.dueEvents ↔
       n.usableSpeed = none ∧ n.len.reference ≠ none ∧ 2000 ≤ n.len.absenceTimer) ∧
     (.joinTimerExpiry ∈ n.dueEvents ↔ n.bus.participation = .joining ∧ 600 ≤ n.bus.joinTimer) ∧
     (.statusTimer ∈ n.dueEvents ↔
       n.bus.participation = .active ∧ n.bus.statusRunning = true ∧ 250 ≤ n.bus.statusTimer) ∧
     (.voteTimeout ∈ n.dueEvents ↔ ∃ o, n.line.own = some o ∧ ∃ electorate assents timer,
       o.phase = .voting electorate assents timer ∧ 300 ≤ timer) ∧
     (.proposalViewTimeout ∈ n.dueEvents ↔ ∃ v, n.line.proposalView = some v ∧ 500 ≤ v.timer) ∧
     (.standstillSecond ∈ n.dueEvents ↔ n.prot.running = true ∧ 1000 ≤ n.prot.phase) ∧
     (∀ ch, .pollTimerExpiry ch ∈ n.dueEvents ↔ ch ≤ 3 ∧ (n.config.channels.get ch).enable ≠ 0 ∧
       (n.config.channels.get ch).interval ≤ (n.sensor.channels.get ch).timer) ∧
     (∀ station, .entrySilent station ∈ n.dueEvents ↔
       ∃ e ∈ n.roster.others, e.station = station ∧ e.present = true ∧ 1000 ≤ e.age) ∧
     (∀ c ∈ n.dueEvents, c ∈ n.lineDue ∨ c ∈ [.timeBaseMillisecond, .speedIntervalEnd, .derivedAdvance,
       .stall, .referenceAbsent, .joinTimerExpiry, .statusTimer, .voteTimeout, .proposalViewTimeout,
       .standstillSecond] ∨ (∃ ch, c = .pollTimerExpiry ch) ∨ ∃ station, c = .entrySilent station) ∧
     ∀ c ∈ n.lineDue, c ∈ n.dueEvents)

/-- From START onward the configuration record is changed by nothing but power-on reset (R177). The
tracking length never decreases, except that power-on reset and RESTART set it to 0 (R5). -/
def Obligations.RecordKeptAndLengthNeverDecreases : Prop :=
  (∀ (c : Instr) (s t : State), s.node.bus.participation ≠ .unconfigured →
      (∀ e h, c ≠ .powerOnReset e h) → exec c s = .next t → t.node.config = s.node.config) ∧
  (∀ (c : Instr) (s t : State), (∀ e h, c ≠ .powerOnReset e h) → (∀ args, c ≠ .restart args) →
      exec c s = .next t → s.node.len.tracking ≤ t.node.len.tracking)

/-- Every step keeps every collection within its capacity (R24, R48, R72, R82, R121, R139). -/
def Obligations.StepsKeepCapacities : Prop :=
  ∀ s t : State, s.node.withinCapacity → step s = .next t → t.node.withinCapacity

/-- Every step keeps the window one chain of records, each beginning where the one before ended and
numbered from its successor (R24, R28). -/
def Obligations.StepsKeepWindowChained : Prop :=
  ∀ s t : State, s.node.windowChained → step s = .next t → t.node.windowChained

/-- Every step keeps the encoder flags and the notice flags of the same names together (R15), leaves the
action lines as their conditions and latches make them, driven from START onward (R114 to R116), and
each counter that selects a condition with the value its condition has (R171). -/
def Obligations.StepsKeepFollowersInStep : Prop :=
  (∀ s t : State, s.node.flagsAgree → step s = .next t → t.node.flagsAgree) ∧
  (∀ s t : State, s.node.linesFollow → step s = .next t → t.node.linesFollow) ∧
  (∀ s t : State, s.node.countersFollow → step s = .next t → t.node.countersFollow)

/-- Every step keeps the Roster's choices of upstream neighbour and speed reference as its entries, its
participation and the record make them, and the chosen neighbour in force at the Handover Engine, from
START onward (R68, R122, R129, R131). -/
def Obligations.StepsKeepTheChoices : Prop :=
  ∀ s t : State, s.node.choicesStand → step s = .next t → t.node.choicesStand

/-- The state after reset meets the invariants. -/
def Obligations.ResetMeetsInvariants : Prop :=
  State.reset.node.withinCapacity ∧ State.reset.node.windowChained ∧
  State.reset.node.flagsAgree ∧ State.reset.node.linesFollow ∧ State.reset.node.countersFollow ∧
  State.reset.node.choicesStand

/-- A frame is sent as its header, the sender, the kind's code and the payload's length, its payload as
Table 8-7 lays it out (a HANDOFF as R153, its content block in ImagesAreLaidOut), and a check over both
by x^16 + x^12 + x^5 + 1 from all ones, each byte most significant bit first, not inverted (R136, R152,
R153). A frame sent with its fields in their ranges is judged good and read back whole, whatever the
free bytes of an absent origin length (log 5); and bytes judged good are those of such a frame, no stop
bit dominant (R137; log 10). -/
def Obligations.SentFrameIsReadBack : Prop :=
  (∀ (station : Nat) (fill : List Byte) (f : Frame),
    let id (i : ProposalId) : List Byte := be 1 i.station ++ be 1 i.count
    let announced (p : AnnouncePayload) : List Byte :=
      be 2 p.number ++ be 1 p.source.code ++ be 1 p.detail
    let kind : Nat :=
      match f with
      | .status _ => 1 | .handoff _ => 2 | .stop _ => 3 | .trip _ => 4 | .propose _ => 5
      | .assent _ => 6 | .hold _ => 7 | .enact _ => 8 | .fault _ => 9
    let payload : List Byte :=
      match f with
      | .status p => be 1 p.view.code ++ be 2 p.number ++ be 2 p.speed ++ be 3 p.newest ++
          be 1 p.descriptor.role.code ++ be 1 p.descriptor.order ++ be 3 p.descriptor.reach ++
          be 2 p.descriptor.entryGap ++ be 1 (if p.descriptor.startRight then 1 else 0)
      | .handoff p => be 4 (p.nextNominal.getD 0) ++ contentBlock fill p.body
      | .stop p => announced p
      | .trip p => announced p
      | .propose p => id p.id ++ be 2 p.base ++ be 1 p.target.code
      | .assent i => id i
      | .hold p => id p.id ++ be 1 p.reason.code
      | .enact p => id p.id ++ be 2 p.base ++ be 2 p.number ++ be 1 p.target.code
      | .fault p => be 1 p.cls.code ++ be 1 p.kind.code
    let headed := be 1 station ++ be 1 kind ++ be 1 payload.length ++ payload
    frameBytes station fill f = headed ++ checkBytes headed) ∧
  (∀ bytes : List Byte,
    let bits := bytes.flatMap fun b => (List.range 8).map fun i => b.getMsbD i
    let check := bits.foldl
      (fun (c : BitVec 16) bit => (c <<< 1) ^^^ (if c.msb ^^ bit then 0x1021#16 else 0#16)) 0xFFFF#16
    checkBytes bytes = be 2 check.toNat) ∧
  (∀ (station : Nat) (fill : List Byte) (f : Frame), stationOk station = true → frameOk f = true →
    fill.length = 4 → judge (frameBytes station fill f) none = .good station f) ∧
  (∀ (bytes : List Byte) (badStop : Option Nat) (sender : Nat) (f : Frame),
    judge bytes badStop = .good sender f →
    badStop = none ∧ stationOk sender = true ∧ frameOk f = true ∧
    ∃ fill, fill.length = 4 ∧ bytes = frameBytes sender fill f)

/-- In UNCONFIGURED, with RESET_N negated, every request of the right length that Table 11-1 does not
take there is refused with REFUSED_STATE, whatever its arguments (log 12), frames are not received and
no timer runs: the events change nothing (log 8; R6, R7, R11, R137, R144, R168, R176). While RESET_N is
asserted each of the 31 requests changes nothing at all (R180, log 42). -/
def Obligations.UnconfiguredTakesSetupAlone : Prop :=
  (∀ (args : List Byte) (s : State), s.node.bus.participation = .unconfigured →
    s.node.port.held = false →
    let refused : Host.Outcome State Fault Refusal :=
      .next { s with node.port.response := some (responseBytes Result.refusedState 0 []) }
    (args.length = 5 → exec (.counterSelect args) s = refused) ∧
    (args.length = 3 → exec (.postMark args) s = refused) ∧
    (args.length = 2 →
      exec (.readWindow args) s = refused ∧ exec (.readRoster args) s = refused ∧
      exec (.openMark args) s = refused ∧ exec (.closeMark args) s = refused) ∧
    (args.length = 1 →
      exec (.announceStop args) s = refused ∧ exec (.announceTrip args) s = refused ∧
      exec (.propose args) s = refused ∧ exec (.setParticipation args) s = refused ∧
      exec (.sensorMode args) s = refused) ∧
    (3 ≤ args.length ∧ args.length ≤ 11 → exec (.sensorTransact args) s = refused) ∧
    (exec (.restart []) s = refused ∧ exec (.readLog []) s = refused ∧
      exec (.readFaults []) s = refused ∧ exec (.clearFaults []) s = refused ∧
      exec (.setHold []) s = refused ∧ exec (.clearHold []) s = refused ∧
      exec (.ackTrip []) s = refused ∧ exec (.returnToEncoder []) s = refused ∧
      exec (.sensorRead []) s = refused ∧ exec (.counterRead []) s = refused ∧
      exec (.freeze []) s = refused ∧ exec (.thaw []) s = refused)) ∧
  (∀ (s : State), s.node.bus.participation = .unconfigured →
    (∀ sender p, exec (.receiveStatus sender p) s = .next s) ∧
    (∀ sender p, exec (.receiveHandoff sender p) s = .next s) ∧
    (∀ sender p, exec (.receiveStop sender p) s = .next s) ∧
    (∀ sender p, exec (.receiveTrip sender p) s = .next s) ∧
    (∀ sender p, exec (.receivePropose sender p) s = .next s) ∧
    (∀ sender i, exec (.receiveAssent sender i) s = .next s) ∧
    (∀ sender p, exec (.receiveHold sender p) s = .next s) ∧
    (∀ sender p, exec (.receiveEnact sender p) s = .next s) ∧
    (∀ sender p, exec (.receiveFault sender p) s = .next s) ∧
    (∀ bytes badStop, exec (.frameDiscarded bytes badStop) s = .next s) ∧
    (∀ channel, exec (.pollTimerExpiry channel) s = .next s) ∧
    (∀ c ∈ [Instr.stall, .derivedAdvance, .referenceAbsent, .speedIntervalEnd, .transmitComplete,
      .collision, .lineJam, .statusTimer, .joinTimerExpiry, .timeBaseMillisecond],
      exec c s = .next s)) ∧
  (∀ (args : List Byte) (s : State), s.node.bus.participation = .unconfigured →
    s.node.port.held = true →
    (∀ c ∈ [Instr.configure args, .start args, .restart args, .readStatus args, .readWindow args,
      .readRoster args, .readLog args, .readFaults args, .clearFaults args, .postMark args, .openMark args,
      .closeMark args, .announceStop args, .announceTrip args, .propose args, .setHold args,
      .clearHold args, .ackTrip args, .setParticipation args, .returnToEncoder args, .sensorMode args,
      .sensorTransact args, .sensorRead args, .counterSelect args, .counterRead args, .freeze args,
      .thaw args, .readNotices args, .clearNotices args, .setNoticeMask args], exec c s = .next s) ∧
    ∀ kind, exec (.unknownRequest kind args) s = .next s)

/-- A request whose argument bytes are not as many as its kind takes is refused with REFUSED_ARGUMENT
and field index 0; one whose kind is not in Table 8-10 is answered UNKNOWN_REQUEST; nothing else changes
(R176). It is taken while RESET_N is negated (R180). -/
def Obligations.WrongLengthOrKindIsRefused : Prop :=
  (∀ (args : List Byte) (s : State), s.node.inReset = false →
    let refused : Host.Outcome State Fault Refusal :=
      .next { s with node.port.response := some (responseBytes Result.refusedArgument 0 []) }
    (args.length ≠ 168 → exec (.configure args) s = refused) ∧
    (args.length ≠ 5 → exec (.counterSelect args) s = refused) ∧
    (args.length ≠ 3 → exec (.postMark args) s = refused) ∧
    (args.length ≠ 2 →
      exec (.readWindow args) s = refused ∧ exec (.readRoster args) s = refused ∧
      exec (.openMark args) s = refused ∧ exec (.closeMark args) s = refused ∧
      exec (.clearNotices args) s = refused ∧ exec (.setNoticeMask args) s = refused) ∧
    (args.length ≠ 1 →
      exec (.announceStop args) s = refused ∧ exec (.announceTrip args) s = refused ∧
      exec (.propose args) s = refused ∧ exec (.setParticipation args) s = refused ∧
      exec (.sensorMode args) s = refused) ∧
    (args.length < 3 ∨ 11 < args.length → exec (.sensorTransact args) s = refused) ∧
    (args.length ≠ 0 →
      exec (.start args) s = refused ∧ exec (.restart args) s = refused ∧
      exec (.readStatus args) s = refused ∧ exec (.readLog args) s = refused ∧
      exec (.readFaults args) s = refused ∧ exec (.clearFaults args) s = refused ∧
      exec (.setHold args) s = refused ∧ exec (.clearHold args) s = refused ∧
      exec (.ackTrip args) s = refused ∧ exec (.returnToEncoder args) s = refused ∧
      exec (.sensorRead args) s = refused ∧ exec (.counterRead args) s = refused ∧
      exec (.freeze args) s = refused ∧ exec (.thaw args) s = refused ∧
      exec (.readNotices args) s = refused)) ∧
  (∀ (kind : Byte) (args : List Byte) (s : State), s.node.inReset = false → kind ≠ 0 →
    requestKinds.contains kind.toNat = false →
    exec (.unknownRequest kind args) s = .next
      { s with node.port.response := some (responseBytes Result.unknownRequest 0 []) })

/-- The state after reset, block by block, has the values after power-on reset of R16, R25, R48, R61,
R63, R85, R109, R115, R122, R151, R157, R168 and R180, with the encoder's levels and the wiring low
(logs 6, 7), the other stations silent (log 9) and the model's own fields empty (logs 1, 26). Power-on
reset sets every block to them, the quadrature state sampled from the pins, and the part is held when
RESET_N stays asserted behind it (log 42). The inputs from outside and the model's own fields stay (log
1). -/
def Obligations.PowerOnResetSetsEverything : Prop :=
  (State.reset =
    { pending := []
      node :=
        { config :=
            { station := 0, role := 0, order := 0, reach := 0, entryGap := 0, markPoint := 0, spanStart := 0
              spanEnd := 0, segmentLength := 0, lateMargin := 0, m := 0, p := 0, fallback := 0
              stallTime := 0, neighbourMode := 0, forcedNeighbour := 0, referenceMode := 0
              referenceStation := 0, startRight := 0, bitRate := 0, markTail := 0, dwell1 := 0, dwell2 := 0
              lines := Quad.same
                { condition := 0, parameter := 0, polarity := 0, latch := 0, holdsStart := 0 }
              channels := Quad.same
                { enable := 0, quantity := 0, position := 0, interval := 0, commandSize := 0
                  command := [0, 0, 0, 0, 0, 0, 0, 0], replySize := 0, valueOffset := 0, low := 0
                  high := 0, required := 0 }
              escalation := 0, enables := 0 }
          len :=
            { tracking := 0, fraction := 0, debt := 0, source := .encoder, stalled := false
              stallTimer := 0, speed := 0, speedSum := 0, reference := none, absenceTimer := 0
              remainder := 0, lostFlag := false, resumedFlag := false, quadA := false, quadB := false
              speedPhase := State.reset.node.len.speedPhase
              derivedPhase := State.reset.node.len.derivedPhase }
          window := { closed := [], entering := none }
          marks := { table := [], beamSet := 0 }
          handover :=
            { neighbour := none, gap := 0, allowance := 0, bridging := false, arrivals := [], log := []
              beam := 1 }
          line :=
            { view := .unknown, number := 0, own := none, enact := none, lastOutcome := none
              proposalView := none, proposalCount := 0, hold := false, tripUnack := false
              lastAnnouncement := none }
          prot :=
            { timer := 0, phase := 0, running := false
              lines := Quad.same { latch := false, asserted := false }
              driven := false, wired := Quad.same false }
          roster := { others := [], highest := none, upstream := none, reference := none }
          bus :=
            { participation := .unconfigured, queue := [], idleCount := 0, busyCount := 0, joinTimer := 0
              joinRunning := false, statusTimer := 0, statusRunning := false, lde := false, ltx := []
              tap :=
                { others := [], lrx := false, recessive := 0, heard := [], driven := 0, clash := false
                  phase := 0 } }
          sensor :=
            { mode := .auto, request := none, transaction := none
              channels := Quad.same
                { timer := 0, due := false, invalid := 0, failed := false, last := none, out := false
                  valid := 0 }
              outBuffer := [], reply := none }
          counters :=
            { cells := Quad.same
                { value := 0, code := 0, mask := 0, mode := .occurrences, overflow := false
                  lastCondition := false }
              frozen := false }
          port := { response := none, notices := 0, mask := 0, held := false }
          faults :=
            { counts := [0, 0, 0, 0, 0, 0, 0, 0, 0, 0, 0, 0, 0, 0, 0, 0, 0, 0, 0, 0, 0, 0, 0, 0, 0]
              firstFatal := none, escalation := 0, enables := 0, reported := [] }
          turns := [], freeUses := 0, baseDue := false } }) ∧
  (∀ (a b held : Bool) (s : State),
    ∃ t, exec (.powerOnReset { a := a, b := b } held) s = .next t ∧ t.pending = s.pending ∧
      t.node = { State.reset.node with
        len := { State.reset.node.len with quadA := a, quadB := b }
        prot := { State.reset.node.prot with wired := s.node.prot.wired }
        bus.tap.others := s.node.bus.tap.others
        port.held := held
        turns := s.node.turns, freeUses := s.node.freeUses })

/-- CONFIGURE writes the whole record from its 168 bytes without judging it in UNCONFIGURED, and changes
nothing else; START names the first field that breaks its rule, and changes nothing else; from START
onward both are refused with REFUSED_STATE (R177); with RESET_N asserted neither is taken (R180). At the
ORIGIN the neighbour mode and the forced neighbour are not judged (R129, log 40). -/
def Obligations.ConfigureWritesAndStartJudges : Prop :=
  (∀ (args : List Byte) (s : State), args.length = 168 → s.node.inReset = false →
    (s.node.bus.participation = .unconfigured →
      exec (.configure args) s = .next { s with
        node.config := parseConfig args
        node.port.response := some (responseBytes Result.done 0 []) }) ∧
    (s.node.bus.participation ≠ .unconfigured →
      exec (.configure args) s = .next
        { s with node.port.response := some (responseBytes Result.refusedState 0 []) })) ∧
  (∀ s : State, s.node.inReset = false →
    (∀ i, s.node.bus.participation = .unconfigured → firstInvalid s.node.config = some i →
      exec (.start []) s = .next
        { s with node.port.response := some (responseBytes Result.refusedArgument i []) }) ∧
    (s.node.bus.participation ≠ .unconfigured →
      exec (.start []) s = .next
        { s with node.port.response := some (responseBytes Result.refusedState 0 []) })) ∧
  (∀ c : ConfigRecord, c.role = 1 → ∀ mode station,
    firstInvalid { c with neighbourMode := mode, forcedNeighbour := station } = firstInvalid c)

/-- The 168 bytes of CONFIGURE, laid out field by field as Table 11-2 does, most significant byte first,
are read as the record they spell (R152, R177). START judges the fields in the order of Table 11-2 by
its accepted values: the holds-start combinations by R118, an enabled channel by Table 9-1 and R156, a
channel that is not enabled for its required setting alone (log 31), the parameter by its condition (log
30), fields 15 and 16 not at the ORIGIN (R129, log 40); the index answered is that of the first field
that breaks its rule. -/
def Obligations.RecordFollowsItsTable : Prop :=
  (∀ c : ConfigRecord,
    (∀ v ∈ [c.station, c.role, c.order, c.lateMargin, c.m, c.p, c.fallback, c.neighbourMode,
      c.forcedNeighbour, c.referenceMode, c.referenceStation, c.startRight, c.bitRate], v < 256) →
    (∀ v ∈ [c.stallTime, c.dwell1, c.dwell2], v < 65536) →
    (∀ v ∈ [c.reach, c.entryGap, c.markPoint, c.spanStart, c.spanEnd, c.segmentLength, c.markTail],
      v < 4294967296) →
    (∀ i ≤ 3, let a := c.lines.get i
      ∀ v ∈ [a.condition, a.parameter, a.polarity, a.latch, a.holdsStart], v < 256) →
    (∀ i ≤ 3, let h := c.channels.get i
      (∀ v ∈ [h.enable, h.quantity, h.commandSize, h.replySize, h.valueOffset, h.required], v < 256) ∧
      h.position < 4294967296 ∧ h.interval < 65536 ∧ h.low < 65536 ∧ h.high < 65536 ∧
      h.command.length = 8) →
    let lineBytes (i : Nat) : List Byte :=
      let a := c.lines.get i
      be 1 a.condition ++ be 1 a.parameter ++ be 1 a.polarity ++ be 1 a.latch ++ be 1 a.holdsStart
    let channelBytes (i : Nat) : List Byte :=
      let h := c.channels.get i
      be 1 h.enable ++ be 1 h.quantity ++ be 4 h.position ++ be 2 h.interval ++ be 1 h.commandSize ++
        h.command ++ be 1 h.replySize ++ be 1 h.valueOffset ++ be 2 h.low ++ be 2 h.high ++
        be 1 h.required
    let bytes : List Byte :=
      be 1 c.station ++ be 1 c.role ++ be 1 c.order ++ be 4 c.reach ++ be 4 c.entryGap ++
        be 4 c.markPoint ++ be 4 c.spanStart ++ be 4 c.spanEnd ++ be 4 c.segmentLength ++
        be 1 c.lateMargin ++ be 1 c.m ++ be 1 c.p ++ be 1 c.fallback ++ be 2 c.stallTime ++
        be 1 c.neighbourMode ++ be 1 c.forcedNeighbour ++ be 1 c.referenceMode ++
        be 1 c.referenceStation ++ be 1 c.startRight ++ be 1 c.bitRate ++ be 4 c.markTail ++
        be 2 c.dwell1 ++ be 2 c.dwell2 ++
        lineBytes 0 ++ lineBytes 1 ++ lineBytes 2 ++ lineBytes 3 ++
        channelBytes 0 ++ channelBytes 1 ++ channelBytes 2 ++ channelBytes 3 ++
        be 4 c.escalation.toNat ++ be 1 c.enables.toNat
    bytes.length = 168 ∧ parseConfig bytes = c) ∧
  (∀ v, be 1 v = [BitVec.ofNat 8 v] ∧ be 2 v = [BitVec.ofNat 8 (v / 256), BitVec.ofNat 8 v] ∧
    be 4 v = [BitVec.ofNat 8 (v / 16777216), BitVec.ofNat 8 (v / 65536), BitVec.ofNat 8 (v / 256),
      BitVec.ofNat 8 v]) ∧
  (∀ c : ConfigRecord,
    let within (lo v hi : Nat) : Bool := decide (lo ≤ v ∧ v ≤ hi)
    let head : List (Nat × Bool) :=
      [(1, within 1 c.station 31), (2, within 1 c.role 3), (3, within 1 c.order 63),
       (4, within 1000 c.reach 200000), (5, within 0 c.entryGap 50000), (6, within 0 c.markPoint c.reach),
       (7, within 0 c.spanStart c.reach), (8, within c.spanStart c.spanEnd c.reach),
       (9, decide (c.role = 1 → 500 ≤ c.segmentLength ∧ c.segmentLength ≤ 50000)),
       (10, within 1 c.lateMargin 50), (11, within 1 c.m 255), (12, within 1 c.p 255),
       (13, within 0 c.fallback 1),
       (14, decide (200 ≤ c.stallTime ∧ c.stallTime ≤ 5000 ∧ c.stallTime % 100 = 0)),
       (15, decide (c.role ≠ 1 → c.neighbourMode ≤ 1)),
       (16, decide (c.role ≠ 1 → c.neighbourMode ≠ 0 →
         1 ≤ c.forcedNeighbour ∧ c.forcedNeighbour ≤ 31 ∧ c.forcedNeighbour ≠ c.station)),
       (17, within 0 c.referenceMode 1),
       (18, decide (c.referenceMode ≠ 0 →
         1 ≤ c.referenceStation ∧ c.referenceStation ≤ 31 ∧ c.referenceStation ≠ c.station)),
       (19, within 0 c.startRight 1), (20, within 0 c.bitRate 2), (21, within 0 c.markTail 50000),
       (22, within 1 c.dwell1 3600), (23, within 1 c.dwell2 3600)]
    let lines (i : Nat) : List (Nat × Bool) :=
      let a := c.lines.get i
      [(24 + 5 * i, within 1 a.condition 8),
       (25 + 5 * i, decide ((a.condition = 1 → a.parameter ≤ 31) ∧ (a.condition = 4 → a.parameter ≤ 7) ∧
         ((a.condition = 5 ∨ a.condition = 6) → a.parameter ≤ 3) ∧
         (a.condition ≠ 1 → a.condition ≠ 4 → a.condition ≠ 5 → a.condition ≠ 6 → a.parameter = 0))),
       (26 + 5 * i, within 0 a.polarity 1), (27 + 5 * i, within 0 a.latch 1),
       (28 + 5 * i, decide (a.holdsStart ≠ 0 → a.holdsStart = 1 ∧ a.latch = 0 ∧ a.condition ≠ 2 ∧
         a.condition ≠ 3 ∧ (a.condition = 1 → a.parameter = 0) ∧
         (a.condition = 4 → a.parameter % 4 = 0)))]
    let channel (i : Nat) : List (Nat × Bool) :=
      let h := c.channels.get i
      if h.enable = 0 then [(54 + 11 * i, decide (h.required = 0))]
      else
        [(44 + 11 * i, decide (h.enable = 1)), (45 + 11 * i, within 0 h.quantity 2),
         (46 + 11 * i, within 0 h.position c.reach), (47 + 11 * i, within 100 h.interval 5000),
         (48 + 11 * i, within 1 h.commandSize 8), (50 + 11 * i, within 3 h.replySize 8),
         (51 + 11 * i, decide (1 ≤ h.valueOffset ∧ h.valueOffset + 2 ≤ h.replySize)),
         (52 + 11 * i, decide (h.low ≤ h.high)), (54 + 11 * i, within 0 h.required 1)]
    let rules := head ++ lines 0 ++ lines 1 ++ lines 2 ++ lines 3 ++
      channel 0 ++ channel 1 ++ channel 2 ++ channel 3 ++
      [(88, decide (c.escalation.toNat < 2 ^ 17)),
       (89, !c.enables.getLsbD 3 && !c.enables.getLsbD 6 && !c.enables.getLsbD 7)]
    (firstInvalid c = none ↔ ∀ r ∈ rules, r.2 = true) ∧
    ∀ older i newer, rules = older ++ (i, false) :: newer → (∀ r ∈ older, r.2 = true) →
      firstInvalid c = some i)

/-- START accepted: JOINING with the join timer running from 0, PARTICIPATION_CHANGED set, and every
block begun: the Segment Window, Mark Unit, Line State Unit and Roster empty, the Handover Engine with
the record's gap and a FORCED neighbour at once (log 13), the Protection Unit's pins driven from
conditions first evaluated, the Sensor Port polling, the counters following, the record's escalation set
and reporting enables in force; the line is followed from then on (log 9); the Length Unit, the record
and the notice mask (log 41) stand (R25, R63, R85, R109, R115, R122, R151, R157, R177, R178). -/
def Obligations.StartBeginsJoining : Prop :=
  ∀ s : State, s.node.bus.participation = .unconfigured → s.node.port.held = false →
    firstInvalid s.node.config = none →
    ∃ t, exec (.start []) s = .next t ∧ t.pending = s.pending ∧
      t.node.config = s.node.config ∧
      t.node.bus =
        { participation := .joining, queue := [], idleCount := 0, busyCount := 0, joinTimer := 0
          joinRunning := true, statusTimer := 0, statusRunning := false, lde := false, ltx := []
          tap :=
            { others := s.node.bus.tap.others, lrx := false, recessive := 0, heard := [], driven := 0
              clash := false, phase := 0 } } ∧
      t.node.len = s.node.len ∧
      t.node.window = Window.empty ∧ t.node.marks = MarkUnit.initial ∧
      t.node.line = LineState.initial ∧
      t.node.protectionBegun ∧ t.node.prot.wired = s.node.prot.wired ∧
      t.node.roster.others = [] ∧ t.node.roster.highest = none ∧
      t.node.roster.upstream = t.node.handover.neighbour ∧
      t.node.handoverBegun ∧ t.node.sensorsBegun ∧
      t.node.countersFollow ∧ t.node.counters.frozen = s.node.counters.frozen ∧
      (∀ i, (t.node.counters.cells.get i).value = (s.node.counters.cells.get i).value ∧
        (t.node.counters.cells.get i).sameSelection (s.node.counters.cells.get i)) ∧
      t.node.faults = { s.node.faults with
        escalation := s.node.config.escalation, enables := s.node.config.enables } ∧
      t.node.noticed Notice.participationChanged = true ∧
      (∀ i, s.node.noticed i = true → t.node.noticed i = true) ∧
      t.node.port.mask = s.node.port.mask ∧
      t.node.port.response = some (responseBytes Result.done 0 [])

/-- RESTART from START onward: JOINING again with every block begun as START begins it; the line
followed on, idle if it was idle and no start bit of an own frame is cut (R135, logs 9, 39); the Length
Unit at its starting values, all of R17's list, with the encoder's levels kept; the counters at 0 with
their selections kept and running; the detected counts 0 and no first-fatal record; the record, the
escalation set, the reporting enables and the notice mask kept; PARTICIPATION_CHANGED the one notice set
(R17, R25, R63, R85, R109, R122, R151, R157, R166, R168, R179; a FORCED neighbour is in force at once,
log 13). -/
def Obligations.RestartClearsThePart : Prop :=
  ∀ s : State, s.node.bus.participation ≠ .unconfigured →
    ∃ t, exec (.restart []) s = .next t ∧ t.pending = s.pending ∧
      t.node.config = s.node.config ∧
      t.node.bus =
        { participation := .joining, queue := [], idleCount := 0, busyCount := 0, joinTimer := 0
          joinRunning := true, statusTimer := 0, statusRunning := false, lde := false, ltx := []
          tap := { s.node.bus.tap with
            recessive :=
              if s.node.bus.lde = true ∧ s.node.bus.tap.driven = 0 then 0
              else s.node.bus.tap.recessive
            heard := if s.node.bus.lde then [] else s.node.bus.tap.heard
            driven := 0
            clash := false } } ∧
      (t.node.len.tracking = 0 ∧ t.node.len.fraction = 0 ∧ t.node.len.debt = 0 ∧
        t.node.len.source = .encoder ∧ t.node.len.stalled = false ∧ t.node.len.stallTimer = 0 ∧
        t.node.len.speed = 0 ∧ t.node.len.speedSum = 0 ∧ t.node.len.reference = none ∧
        t.node.len.absenceTimer = 0 ∧ t.node.len.remainder = 0 ∧ t.node.len.lostFlag = false ∧
        t.node.len.resumedFlag = false ∧
        t.node.len.quadA = s.node.len.quadA ∧ t.node.len.quadB = s.node.len.quadB) ∧
      t.node.window = Window.empty ∧ t.node.marks = MarkUnit.initial ∧
      t.node.line = LineState.initial ∧
      t.node.protectionBegun ∧ t.node.prot.wired = s.node.prot.wired ∧
      t.node.roster.others = [] ∧ t.node.roster.highest = none ∧
      t.node.roster.upstream = t.node.handover.neighbour ∧
      t.node.handoverBegun ∧ t.node.sensorsBegun ∧
      t.node.countersFollow ∧ t.node.counters.frozen = false ∧
      (∀ i, (t.node.counters.cells.get i).value = 0 ∧
        (t.node.counters.cells.get i).overflow = false ∧
        (t.node.counters.cells.get i).sameSelection (s.node.counters.cells.get i)) ∧
      t.node.faults = {
        counts := List.replicate 25 0, firstFatal := none,
        escalation := s.node.faults.escalation, enables := s.node.faults.enables, reported := [] } ∧
      t.node.port = {
        response := some (responseBytes Result.done 0 []),
        notices := 1#16 <<< Notice.participationChanged, mask := s.node.port.mask,
        held := s.node.port.held }

/-- READ_STATUS, READ_WINDOW and READ_ROSTER answer DONE with their images and change nothing else; a
start index above the last, or a count outside 1 to 8, is refused with the field's index, the first of
two (log 35; R19, R43, R134, R154). READ_LOG at a TERMINAL removes the oldest beam log entry and answers
its image and how many are left, is IGNORED with a count of 0 when the log is empty, and is refused
elsewhere (R83). The count of uses of the free bytes moves on (log 5). READ_STATUS is taken while
RESET_N is negated (R180). -/
def Obligations.ReadsAnswerTheirImages : Prop :=
  ∀ (args : List Byte) (s : State),
    let answer (data : List Byte) : Host.Outcome State Fault Refusal :=
      .next { s with
        node.port.response := some (responseBytes Result.done 0 data)
        node.freeUses := s.node.freeUses + 1 }
    let refused (i : Nat) : Host.Outcome State Fault Refusal :=
      .next { s with node.port.response := some (responseBytes Result.refusedArgument i []) }
    (s.node.inReset = false → exec (.readStatus []) s = answer s.node.statusData) ∧
    (s.node.bus.participation ≠ .unconfigured → args.length = 2 →
      (fieldAt args 0 1 ≤ 47 → 1 ≤ fieldAt args 1 1 → fieldAt args 1 1 ≤ 8 →
        exec (.readWindow args) s = answer (s.node.windowData (fieldAt args 0 1) (fieldAt args 1 1))) ∧
      (fieldAt args 0 1 ≤ 23 → 1 ≤ fieldAt args 1 1 → fieldAt args 1 1 ≤ 8 →
        exec (.readRoster args) s = answer (s.node.rosterData (fieldAt args 0 1) (fieldAt args 1 1))) ∧
      (47 < fieldAt args 0 1 → exec (.readWindow args) s = refused 1) ∧
      (23 < fieldAt args 0 1 → exec (.readRoster args) s = refused 1) ∧
      (fieldAt args 0 1 ≤ 47 → (fieldAt args 1 1 = 0 ∨ 8 < fieldAt args 1 1) →
        exec (.readWindow args) s = refused 2) ∧
      (fieldAt args 0 1 ≤ 23 → (fieldAt args 1 1 = 0 ∨ 8 < fieldAt args 1 1) →
        exec (.readRoster args) s = refused 2)) ∧
    (s.node.bus.participation ≠ .unconfigured →
      (s.node.isTerminal = false →
        exec (.readLog []) s = .next
          { s with node.port.response := some (responseBytes Result.refusedState 0 []) }) ∧
      (s.node.isTerminal = true → s.node.handover.log = [] →
        exec (.readLog []) s = .next
          { s with node.port.response := some (responseBytes Result.ignored 0 (be 1 0)) }) ∧
      (∀ e rest, s.node.isTerminal = true → s.node.handover.log = e :: rest →
        exec (.readLog []) s = .next { s with
          node.handover.log := rest
          node.port.response :=
            some (responseBytes Result.done 0 (s.node.logImage e ++ be 1 rest.length))
          node.freeUses := s.node.freeUses + 1 }))

/-- READ_STATUS gives the groups of Table 8-11 in its order, each behind its length, with the values of
the state at that moment (R19, R44, R62, R84, R106, R120, R134, R151, R154, R167; Table 9-4). Bits of a
byte of flags that the tables do not name are 0 (log 43); the bytes of an absent field that no layout
states are free (log 5); a neighbour or reference that is none is 0 (log 24); before START the record is
not in force (log 32). -/
def Obligations.StatusIsLaidOut : Prop :=
  ∀ n : Node,
    let flag (b : Bool) (i : Nat) : Nat := if b then 2 ^ i else 0
    let group (g : List Byte) : List Byte := be 1 g.length ++ g
    let id (i : ProposalId) : List Byte := be 1 i.station ++ be 1 i.count
    let stations (l : List Nat) : List Byte := be 4 (l.foldl (fun mask s => mask ||| 2 ^ s) 0)
    let queued (cls : Nat) : List Byte :=
      be 1 (n.bus.queue.filter fun q => decide (q.frame.cls = cls)).length
    let participation : List Byte :=
      be 1 (match n.bus.participation with
        | .unconfigured => 0 | .joining => 1 | .active => 2 | .listen => 3 | .withdrawing => 4
        | .offline => 5) ++
      be 2 n.bus.joinTimer ++ be 1 (flag n.bus.statusRunning 0) ++
      (queued 0 ++ queued 1 ++ queued 2 ++ queued 3)
    let length : List Byte :=
      be 4 n.len.tracking ++ be 1 (match n.len.source with | .encoder => 0 | .derived => 1) ++
      be 1 (flag n.len.stalled 0 + flag n.len.lostFlag 1 + flag n.len.resumedFlag 2 +
        flag n.len.reference.isSome 3) ++
      be 2 n.len.speed ++ be 4 n.len.debt ++
      (match n.len.reference with | some v => be 2 v | none => n.fill 0 2)
    let window : List Byte :=
      be 1 (n.window.closed.length + flag n.window.entering.isSome 0) ++
      be 3 (match n.window.entering with | some e => e.body.last | none => 0)
    let marks : List Byte :=
      be 2 n.marks.beamSet ++ be 1 n.marks.table.length ++
      n.marks.table.flatMap fun m => be 1 m.kind.code ++ be 2 m.id ++
        be 4 (match m.countdown with
          | .held => 4294967295 | .noCountdown => 4294967294 | .running mm => mm) ++
        be 4 m.opening ++ be 3 m.frontier
    let handover : List Byte :=
      be 1 (n.handover.neighbour.getD 0) ++ be 4 n.handover.gap ++ be 4 n.handover.allowance ++
      be 1 (flag n.handover.bridging 0) ++ be 1 n.handover.log.length ++ be 2 n.handover.beam ++
      be 1 n.handover.arrivals.length ++
      n.handover.arrivals.flatMap fun a =>
        be 3 a.body.first ++ be 3 a.body.last ++ be 4 a.due ++ be 1 (flag a.bridged 0)
    let announcement : List Byte :=
      match n.line.lastAnnouncement with
      | none => be 1 0 ++ n.fill 1 6
      | some a => be 1 1 ++ be 1 (if a.trip then 4 else 3) ++ be 1 a.sender ++ be 2 a.number ++
          be 1 a.source.code ++ be 1 a.detail
    let own : List Byte :=
      match n.line.own with
      | none => be 1 0 ++ n.fill 2 15
      | some { id := i, base := b, target := v, phase := .queued } =>
        be 1 1 ++ id i ++ be 2 b ++ be 1 v.code ++ n.fill 2 10
      | some { id := i, base := b, target := v, phase := .voting electorate assents timer } =>
        be 1 2 ++ id i ++ be 2 b ++ be 1 v.code ++ stations electorate ++ stations assents ++ be 2 timer
    let enact : List Byte :=
      match n.line.enact with
      | none => be 1 0 ++ n.fill 3 4
      | some e => be 1 1 ++ id e.id ++ be 2 e.number
    let outcome : List Byte :=
      match n.line.lastOutcome with
      | none => be 1 0 ++ n.fill 4 5
      | some { id := i, outcome := .enacted fate } => be 1 1 ++ id i ++ n.fill 4 2 ++
          be 1 (match fate with | .pending => 0 | .sent => 1 | .lost => 2)
      | some { id := i, outcome := .denied reason sender } =>
        be 1 2 ++ id i ++ be 1 reason.code ++ be 1 sender ++ n.fill 4 1
      | some { id := i, outcome := .timedOut } => be 1 3 ++ id i ++ n.fill 4 3
      | some { id := i, outcome := .abandoned } => be 1 4 ++ id i ++ n.fill 4 3
    let view : List Byte :=
      match n.line.proposalView with
      | none => be 1 0 ++ n.fill 5 7
      | some v => be 1 1 ++ id v.id ++ be 2 v.base ++ be 1 v.target.code ++ be 2 v.timer
    let line : List Byte :=
      be 1 n.line.view.code ++ be 2 n.line.number ++
      be 1 (flag n.line.hold 0 + flag n.line.tripUnack 1) ++
      announcement ++ own ++ enact ++ outcome ++ view
    let started := decide (n.bus.participation ≠ .unconfigured)
    let reached (limit : Nat) : Bool := started && decide (limit ≤ n.prot.timer)
    let holding (i : Nat) : Bool :=
      decide ((n.config.lines.get i).holdsStart ≠ 0) && (n.prot.lines.get i).asserted
    let lineByte (i : Nat) : List Byte :=
      be 1 (flag (n.prot.driven && n.lineCondition (n.config.lines.get i)) 0 +
        flag (n.prot.lines.get i).latch 1 + flag (n.prot.lines.get i).asserted 2 +
        flag (if n.prot.driven then
            (if (n.config.lines.get i).polarity = 0 then (n.prot.lines.get i).asserted
              else !(n.prot.lines.get i).asserted)
          else n.prot.wired.get i) 3)
    let protection : List Byte :=
      be 2 n.prot.timer ++
      be 1 (flag n.prot.running 0 + flag (reached n.config.dwell1) 1 +
        flag (reached n.config.dwell2) 2 +
        flag (holding 0 || holding 1 || holding 2 || holding 3) 3) ++
      (lineByte 0 ++ lineByte 1 ++ lineByte 2 ++ lineByte 3)
    let choices : List Byte := be 1 (n.roster.upstream.getD 0) ++ be 1 (n.roster.reference.getD 0)
    let failing (i : Nat) : Bool :=
      decide ((n.config.channels.get i).required ≠ 0) && (n.sensor.channels.get i).failed
    let channel (i : Nat) : List Byte :=
      let h := n.config.channels.get i
      let c := n.sensor.channels.get i
      be 1 (flag (started && decide (h.enable ≠ 0)) 0 + flag (started && decide (h.required ≠ 0)) 1 +
        flag c.due 2 + flag c.failed 3 + flag c.out 4 + flag c.last.isSome 5) ++
      be 1 c.invalid ++ (match c.last with | some v => be 2 v | none => n.fill (7 + i) 2) ++
      be 2 c.valid ++ be 2 c.timer
    let sensor : List Byte :=
      be 1 (match n.sensor.mode with | .auto => 0 | .manual => 1) ++
      be 1 (match n.sensor.request with | none => 0 | some .auto => 1 | some .manual => 2) ++
      (match n.sensor.transaction with
        | none => (n.fill 6 1).map fun b => b &&& 3#8
        | some t => be 1 (128 + flag t.manual 6 + t.select)) ++
      be 1 (flag (failing 0 || failing 1 || failing 2 || failing 3) 0 + flag n.sensor.reply.isSome 1) ++
      (channel 0 ++ channel 1 ++ channel 2 ++ channel 3)
    (∀ i k, (n.fill i k).length = k) ∧
    n.statusData =
      group participation ++ group length ++ group window ++ group marks ++ group handover ++
        group line ++ group protection ++ group choices ++ group sensor

/-- A content block is laid out as Table 8-8 gives, mark and trail entries as R153 gives; READ_WINDOW
gives its records, oldest first from the start index, behind the local block of Table 8-9; READ_ROSTER
its entries, the self entry first (R121, log 19), in 22 bytes each; READ_LOG the beam log entry behind
the block of Table 8-9 (R43, R83, R134, R152 to R154). The codes are those of Tables 8-6 and 11-4.
Unnamed bits of a byte of flags are 0 (log 43), bytes of an absent field are free (log 5), a choice that
is none is 0 (log 24). -/
def Obligations.ImagesAreLaidOut : Prop :=
  (∀ (free : List Byte) (b : Body), free.length = 4 →
    let flag (c : Bool) (i : Nat) : Nat := if c then 2 ^ i else 0
    let reading (r : Option Reading) : List Byte :=
      match r with
      | some x => be 2 x.value ++ be 2 x.count
      | none => [0, 0, 0, 0]
    contentBlock free b =
      be 3 b.first ++ be 3 b.last ++
      be 1 (match b.content with | .pending => 0 | .filled => 1 | .provisional => 2) ++
      be 1 (flag b.origin.isSome 0 + flag b.pickup.isSome 1 + flag b.moisture.isSome 2 +
        flag b.tension.isSome 3) ++
      be 2 b.flags.toNat ++ be 4 (b.nominal.getD 0) ++
      (match b.origin with | some v => be 4 v | none => free) ++
      be 2 b.beamSet ++ be 3 b.skip ++ be 2 b.dwell ++ be 1 b.summary.toNat ++
      be 1 (16 * b.marks.length + b.trail.length) ++
      reading b.pickup ++ reading b.moisture ++ reading b.tension ++
      (b.marks.flatMap fun m => be 1 m.kind.code ++ be 2 m.id ++ be 1 m.station ++ be 4 m.offset) ++
      (b.trail.flatMap fun t =>
        match t.stretch with
        | none => be 1 (t.station + 128) ++ [0, 0]
        | some v => be 1 t.station ++ be 2 (v % 65536).toNat)) ∧
  (∀ (n : Node) (start count : Nat),
    let record (e : (List Byte × Body) × Nat) : List Byte := e.1.1 ++ contentBlock (n.fill e.2 4) e.1.2
    let records :=
      n.window.closed.map (fun r =>
        (be 1 0 ++ be 4 r.head ++ be 4 r.tail ++ be 4 0 ++ be 4 0, r.body)) ++
      (n.window.entering.map fun e =>
        (be 1 1 ++ be 4 e.head ++ be 4 0 ++ be 4 (e.expected.getD 0) ++ be 4 e.expectFrom, e.body)).toList
    let shown := (records.drop start).take count
    n.windowData start count =
      be 4 n.len.tracking ++ be 1 records.length ++ be 1 shown.length ++ shown.zipIdx.flatMap record) ∧
  (∀ (n : Node) (start count : Nat),
    let flag (b : Bool) (i : Nat) : Nat := if b then 2 ^ i else 0
    let self : RosterEntry :=
      { station := n.config.station
        descriptor := some
          { role := n.config.roleOf, order := n.config.order, reach := n.config.reach
            entryGap := n.config.entryGap, startRight := decide (n.config.startRight ≠ 0) }
        present := true, age := 0
        lastView := if n.line.view = .unknown then none else some (n.line.view, n.line.number)
        speed := some n.len.speed
        newest := match n.window.entering with | some e => e.body.last | none => 0
        lastFault := none }
    let conflict (e : RosterEntry) : Bool :=
      e.present && (match e.descriptor with | some d => decide (d.order = n.config.order) | none => false)
    let entries := (self, false) :: n.roster.others.map fun e => (e, conflict e)
    let entry (x : (RosterEntry × Bool) × Nat) : List Byte :=
      let e := x.1.1
      be 1 e.station ++
      be 1 (flag e.present 0 + flag e.descriptor.isSome 1 + flag e.lastView.isSome 2 +
        flag e.speed.isSome 3 + flag e.lastFault.isSome 4 + flag x.1.2 5) ++
      (match e.descriptor with
        | some d => be 1 d.role.code ++ be 1 d.order ++ be 3 d.reach ++ be 2 d.entryGap ++
            be 1 (flag d.startRight 0)
        | none => n.fill (4 * x.2) 8) ++
      be 2 e.age ++
      (match e.lastView with
        | some v => be 1 v.1.code ++ be 2 v.2
        | none => n.fill (4 * x.2 + 1) 3) ++
      (match e.speed with | some v => be 2 v | none => n.fill (4 * x.2 + 2) 2) ++
      be 3 e.newest ++
      (match e.lastFault with
        | some f => be 1 f.cls.code ++ be 1 f.kind.code
        | none => n.fill (4 * x.2 + 3) 2)
    let shown := (entries.drop start).take count
    n.rosterData start count =
      be 1 entries.length ++ be 3 (n.roster.highest.getD 0) ++ be 1 (n.roster.upstream.getD 0) ++
        be 1 (n.roster.reference.getD 0) ++ be 1 (flag n.creel 0) ++ be 1 shown.length ++
        shown.zipIdx.flatMap entry) ∧
  (∀ (n : Node) (e : LogEntry),
    n.logImage e =
      be 4 e.localLength ++ be 4 e.exitLength ++ be 2 e.beam ++ contentBlock (n.fill 0 4) e.body) ∧
  ([View.unknown, .trip, .standstill, .creep, .run].map View.code = [0, 1, 2, 3, 4] ∧
    [Role.origin, .path, .terminal].map Role.code = [1, 2, 3] ∧
    [Source.localRequest, .fault, .relay].map Source.code = [1, 2, 3] ∧
    [HoldReason.busy, .stale, .tripUnacknowledged, .localHold, .length, .action].map HoldReason.code =
      [1, 2, 3, 4, 5, 6] ∧
    [MarkKind.stop, .trip, .operatorSpan, .knot, .lease, .cut, .operator].map MarkKind.code =
      [1, 2, 3, 4, 5, 6, 7] ∧
    [FaultClass.correctable, .degraded, .fatal].map FaultClass.code = [1, 2, 3] ∧
    [FaultKind.frameCheck, .frameMalformed, .collision, .handoffDuplicate, .handoffStale,
      .sensorInvalid].map FaultKind.code = [1, 2, 3, 4, 5, 6] ∧
    [FaultKind.boundaryLate, .numberSkip, .windowCoalesce, .arrivalOverrun, .handoffDropped,
      .frameDropped, .rosterFull, .orderConflict, .neighbourLost, .encoderLost, .reverseExcess,
      .markEvicted, .marksOverflow, .sensorFailed, .logOverrun, .transmitAbandoned,
      .creelConflict].map FaultKind.code =
      [16, 17, 18, 19, 20, 21, 22, 23, 24, 25, 26, 27, 28, 29, 30, 31, 32] ∧
    [FaultKind.duplicateStation, .lineJam].map FaultKind.code = [48, 49])

/-- READ_FAULTS gives the first-fatal record in 9 bytes, the escalation set, the reporting enables and
the 25 detected counts, and changes nothing but the count of uses of the free bytes (log 5);
CLEAR_FAULTS sets every detected count to 0, removes the first-fatal record, and changes no notice flag;
both are refused with REFUSED_STATE in UNCONFIGURED. A fault taken after it counts 1, and a FATAL one on
the line makes the new first-fatal record (R185). READ_NOTICES gives the notice flags and the mask and
changes nothing; CLEAR_NOTICES clears the flags it names and no other, with the encoder flags of the
same names; SET_NOTICE_MASK sets the mask; all in every participation state; the last two refuse a set
that names a flag above bit 11 with field index 1. They are taken while RESET_N is negated (R180).
RESTART keeps the mask and power-on reset clears it (R182). The Fault Unit takes each fault so: its
count is raised, holding at 255; its class is that of Table 11-4 with the escalation set; a CORRECTABLE
or DEGRADED one sets the notice of its class and, in ACTIVE, offers a FAULT frame, each when its enable
is set, but for the FRAME_DROPPED of a refused FAULT frame, which offers none; a FATAL one on the line
makes the first-fatal record where none is held, sets FAULT_FATAL when its enable is set, and withdraws
the station with its TRIP; elsewhere it is counted only (R183, R184). -/
def Obligations.FaultsAndNoticesReadAndCleared : Prop :=
  (∀ s : State,
      let refused : Host.Outcome State Fault Refusal :=
        .next { s with node.port.response := some (responseBytes Result.refusedState 0 []) }
      (s.node.bus.participation = .unconfigured → s.node.port.held = false →
        exec (.readFaults []) s = refused ∧ exec (.clearFaults []) s = refused) ∧
      (s.node.bus.participation ≠ .unconfigured →
        (∃ fatal, fatal.length = 9 ∧
          (s.node.faults.firstFatal = none → fatal.head? = some 0) ∧
          (∀ f, s.node.faults.firstFatal = some f → fatal = be 1 1 ++ be 1 f.kind.code ++
            be 4 f.tracking ++ be 1 f.view.code ++ be 1 f.participation.code ++ be 1 0) ∧
          exec (.readFaults []) s = .next { s with
            node.port.response := some (responseBytes Result.done 0
              (fatal ++ be 4 s.node.faults.escalation.toNat ++ be 1 s.node.faults.enables.toNat ++
                s.node.faults.counts.map (BitVec.ofNat 8)))
            node.freeUses := s.node.freeUses + 1 }) ∧
        ∃ t, exec (.clearFaults []) s = .next t ∧
          (∀ c ∈ t.node.faults.counts, c = 0) ∧
          t.node.faults.counts.length = s.node.faults.counts.length ∧
          t = { s with
            node.faults.counts := t.node.faults.counts
            node.faults.firstFatal := none
            node.port.response := some (responseBytes Result.done 0 []) } ∧
          (s.node.faults.counts.length = 25 → ∀ r : FaultReport,
            (t.node.takeFault r).faults.counts[r.kind.index]? = some 1 ∧
            (t.node.faultClass r.kind = .fatal → t.node.onLine = true →
              (t.node.takeFault r).faults.firstFatal = some
                { kind := r.kind, tracking := t.node.len.tracking, view := t.node.line.view,
                  participation := t.node.bus.participation })))) ∧
  (∀ (args : List Byte) (s : State), args.length = 2 → s.node.inReset = false →
      let v := fieldAt args 0 2
      let refused : Host.Outcome State Fault Refusal :=
        .next { s with node.port.response := some (responseBytes Result.refusedArgument 1 []) }
      exec (.readNotices []) s = .next
        { s with node.port.response := some (responseBytes Result.done 0
            (be 2 s.node.port.notices.toNat ++ be 2 s.node.port.mask.toNat)) } ∧
      (4095 < v →
        exec (.clearNotices args) s = refused ∧ exec (.setNoticeMask args) s = refused) ∧
      (v ≤ 4095 →
        (∃ t, exec (.clearNotices args) s = .next t ∧
          (∀ i, t.node.noticed i = (s.node.noticed i && !v.testBit i)) ∧
          t.node.len.lostFlag = (s.node.len.lostFlag && !v.testBit 0) ∧
          t.node.len.resumedFlag = (s.node.len.resumedFlag && !v.testBit 1) ∧
          t = { s with
            node.port.notices := t.node.port.notices
            node.port.response := some (responseBytes Result.done 0 [])
            node.len.lostFlag := t.node.len.lostFlag
            node.len.resumedFlag := t.node.len.resumedFlag }) ∧
        exec (.setNoticeMask args) s = .next { s with
          node.port.mask := BitVec.ofNat 16 v
          node.port.response := some (responseBytes Result.done 0 []) }) ∧
      (∃ t, exec (.restart []) s = .next t ∧ t.node.port.mask = s.node.port.mask) ∧
      (∀ e h, ∃ t, exec (.powerOnReset e h) s = .next t ∧ t.node.port.mask = 0)) ∧
  ((∀ (n : Node) (r : FaultReport),
      let correctable : List FaultKind :=
        [.frameCheck, .frameMalformed, .collision, .handoffDuplicate, .handoffStale, .sensorInvalid]
      let cls : FaultClass :=
        if r.kind ∈ correctable then .correctable
        else if r.kind = .duplicateStation ∨ r.kind = .lineJam ∨
            (r.kind = .encoderLost ∧ n.config.fallback = 0) ∨
            n.faults.escalation.getLsbD (r.kind.code - 16) = true then .fatal
        else .degraded
      let enable : Nat := match cls with | .correctable => 0 | .degraded => 1 | .fatal => 2
      let m := n.takeFault r
      let counted := { n with
        faults.counts := n.faults.counts.modify r.kind.index fun c => min 255 (c + 1) }
      let noticed :=
        if n.faults.enables.getLsbD enable then
          { counted with port.notices := n.port.notices ||| (1#16 <<< (4 + enable)) }
        else counted
      let framed := n.active = true ∧ r.silent = false ∧ n.faults.enables.getLsbD (4 + enable) = true
      n.faultClass r.kind = cls ∧
      (cls ≠ .fatal → ¬framed → m = noticed) ∧
      (cls ≠ .fatal → framed → m = noticed.offer (.fault { cls := cls, kind := r.kind })) ∧
      (cls = .fatal → n.onLine = false → m = counted) ∧
      (cls = .fatal → n.onLine = true →
        let trip : AnnouncePayload :=
          { number := evSucc n.line.number, source := .fault, detail := r.kind.code }
        m.faults.counts = counted.faults.counts ∧
        m.faults.firstFatal = some (n.faults.firstFatal.getD
          { kind := r.kind, tracking := n.len.tracking, view := n.line.view,
            participation := n.bus.participation }) ∧
        m.noticed Notice.faultFatal = (n.noticed Notice.faultFatal || n.faults.enables.getLsbD 2) ∧
        m.bus.participation = .withdrawing ∧ m.bus.queue = [QueuedFrame.fresh (.trip trip) true] ∧
        m.line.view = .trip ∧ m.line.number = trip.number ∧ m.line.tripUnack = true)) ∧
    [FaultKind.frameCheck, .frameMalformed, .collision, .handoffDuplicate, .handoffStale,
      .sensorInvalid, .boundaryLate, .numberSkip, .windowCoalesce, .arrivalOverrun, .handoffDropped,
      .frameDropped, .rosterFull, .orderConflict, .neighbourLost, .encoderLost, .reverseExcess,
      .markEvicted, .marksOverflow, .sensorFailed, .logOverrun, .transmitAbandoned, .creelConflict,
      .duplicateStation, .lineJam].map FaultKind.index = List.range 25)

/-- COUNTER_SELECT is refused with REFUSED_STATE in UNCONFIGURED. From START onward it gives a counter
its code, mask and mode, with value 0, the overflow flag clear, and the last condition value that of the
condition at that moment, and leaves the other counters and the freeze state; each argument out of its
range, a mask bit that Table 10-2 does not give for the code and a mode it does not allow are refused
with their index. A mask of 0 for a code that has qualifiers counts no event and makes no condition true
(R169). -/
def Obligations.CounterSelectSelects : Prop :=
  ∀ (args : List Byte) (s : State), args.length = 5 →
    let i := fieldAt args 0 1
    let code := fieldAt args 1 1
    let mask := BitVec.ofNat 16 (fieldAt args 2 2)
    let given : List (BitVec 16) := [0, 0x0F, 0x0F, 0, 0x07, 0x07, 0, 0x1F, 0, 0x7F, 0xF7, 0, 0x07, 0x0F]
    let allowed := given.getD code 0
    let modes : List CounterMode :=
      if code ∈ [1, 2, 3, 12] then [.occurrences, .amount]
      else if code ∈ [7, 8, 11] then [.occurrences, .time, .length]
      else [.occurrences]
    let mode : Option CounterMode :=
      [CounterMode.occurrences, .time, .length, .amount][fieldAt args 4 1]?
    let answer (result k : Nat) : Host.Outcome State Fault Refusal :=
      .next { s with node.port.response := some (responseBytes result k []) }
    (s.node.bus.participation = .unconfigured → s.node.port.held = false →
      exec (.counterSelect args) s = answer Result.refusedState 0) ∧
    (s.node.bus.participation ≠ .unconfigured →
      (3 < i → exec (.counterSelect args) s = answer Result.refusedArgument 1) ∧
      (i ≤ 3 → 13 < code → exec (.counterSelect args) s = answer Result.refusedArgument 2) ∧
      (i ≤ 3 → code ≤ 13 → mask &&& ~~~allowed ≠ 0#16 →
        exec (.counterSelect args) s = answer Result.refusedArgument 3) ∧
      (i ≤ 3 → code ≤ 13 → mask &&& ~~~allowed = 0#16 → (∀ m, mode = some m → m ∉ modes) →
        exec (.counterSelect args) s = answer Result.refusedArgument 4) ∧
      (∀ m, i ≤ 3 → code ≤ 13 → mask &&& ~~~allowed = 0#16 → mode = some m → m ∈ modes →
        ∃ t, exec (.counterSelect args) s = .next t ∧
          (let c := t.node.counters.cells.get i
           c.value = 0 ∧ c.code = code ∧ c.mask = mask ∧ c.mode = m ∧ c.overflow = false ∧
           (code = 7 → (c.lastCondition = true ↔ mask.getLsbD s.node.line.view.code = true)) ∧
           (code = 8 → (c.lastCondition = true ↔ s.node.len.source = .derived)) ∧
           (code = 11 → (c.lastCondition = true ↔ s.node.handover.arrivals ≠ [])) ∧
           (mask = 0#16 → allowed ≠ 0#16 →
             t.node.conditionOf c = false ∧
             ∀ e : CounterEvent, e.bits ≠ [] → (t.node.report e).counters.cells.get i = c)) ∧
          (∀ j ≤ 3, j ≠ i → t.node.counters.cells.get j = s.node.counters.cells.get j) ∧
          t = { s with
            node.counters.cells := t.node.counters.cells
            node.port.response := some (responseBytes Result.done 0 []) }))

/-- FREEZE and THAW stop and resume the four counters: DONE when the freeze changes, IGNORED when it
already stood so, refused with REFUSED_STATE in UNCONFIGURED. While frozen no report, edge, millisecond
or advance changes a value or sets an overflow, and last condition values go on following (R173).
COUNTER_READ gives the freeze state and each counter's selection, overflow flag and value, all of one
state, and changes nothing (R174). -/
def Obligations.FreezeThawAndCounterRead : Prop :=
  ∀ s : State,
    let answer (result : Nat) (data : List Byte) : Host.Outcome State Fault Refusal :=
      .next { s with node.port.response := some (responseBytes result 0 data) }
    let counter (i : Nat) : List Byte :=
      let c := s.node.counters.cells.get i
      be 1 c.code ++ be 2 c.mask.toNat ++
        be 1 (match c.mode with | .occurrences => 0 | .time => 1 | .length => 2 | .amount => 3) ++
        be 1 (if c.overflow then 1 else 0) ++ be 4 c.value
    (s.node.bus.participation = .unconfigured → s.node.port.held = false →
      exec (.freeze []) s = answer Result.refusedState [] ∧
      exec (.thaw []) s = answer Result.refusedState [] ∧
      exec (.counterRead []) s = answer Result.refusedState []) ∧
    (s.node.bus.participation ≠ .unconfigured →
      exec (.counterRead []) s = answer Result.done
        (be 1 (if s.node.counters.frozen then 1 else 0) ++
          (counter 0 ++ (counter 1 ++ (counter 2 ++ counter 3)))) ∧
      (s.node.counters.frozen = false →
        exec (.freeze []) s = .next { s with
          node.counters.frozen := true
          node.port.response := some (responseBytes Result.done 0 []) } ∧
        exec (.thaw []) s = answer Result.ignored []) ∧
      (s.node.counters.frozen = true →
        exec (.thaw []) s = .next { s with
          node.counters.frozen := false
          node.port.response := some (responseBytes Result.done 0 []) } ∧
        exec (.freeze []) s = answer Result.ignored [])) ∧
    (s.node.counters.frozen = true →
      exec .timeBaseMillisecond s = .next s ∧ (∀ e, s.node.report e = s.node) ∧
      (∀ mm, s.node.countLength mm = s.node) ∧
      (∀ i ≤ 3, s.node.followConditions.counters.cells.get i =
        let c := s.node.counters.cells.get i
        if conditionCode c.code then { c with lastCondition := s.node.conditionOf c } else c) ∧
      s.node.followConditions.port = s.node.port)

/-- A report adds 1 to a counter in OCCURRENCES and the amount to one in AMOUNT, when the counter names
the code and its mask sets every bit the report needs; a value that passes 4,294,967,295 wraps and sets
the overflow flag and COUNTER_OVERFLOW, and a wrap while that counter's overflow flag is set keeps the
flag set and shows nothing more (R170, R172). A millisecond adds 1 to each running counter in mode TIME
whose condition is true, wraps one that passes its limit, and changes nothing else; an advance adds its
millimetres to one in mode LENGTH; a condition that turns true adds 1 to one in OCCURRENCES, and every
change of it is recorded (R171). -/
def Obligations.CountersCount : Prop :=
  (∀ (e : CounterEvent) (n : Node) (i : Nat), i ≤ 3 → n.counters.frozen = false →
    (n.counters.cells.get i).value ≤ 4294967295 →
    let before := n.counters.cells.get i
    let after := (n.report e).counters.cells.get i
    let added (c : Counter) : Nat :=
      if c.code = e.code ∧ ∀ b ∈ e.bits, c.mask.getLsbD b = true then
        (if c.mode = .occurrences then 1 else if c.mode = .amount then e.amount else 0)
      else 0
    let wraps (c : Counter) : Prop := 4294967295 < c.value + added c
    (¬wraps before → after = { before with value := before.value + added before }) ∧
    (wraps before →
      after = { before with value := before.value + added before - 4294967296, overflow := true }) ∧
    (wraps before → before.overflow = false → (n.report e).port = { n.port with
      notices := n.port.notices ||| (1#16 <<< Notice.counterOverflow) }) ∧
    ((∀ j ≤ 3, wraps (n.counters.cells.get j) → (n.counters.cells.get j).overflow = true) →
      (n.report e).port = n.port)) ∧
  (∀ s : State, s.node.bus.participation ≠ .unconfigured → s.node.counters.frozen = false →
    (∀ i ≤ 3, (s.node.counters.cells.get i).value ≤ 4294967295) →
    let counted (c : Counter) : Prop :=
      conditionCode c.code = true ∧ c.mode = .time ∧ s.node.conditionOf c = true
    let wraps (c : Counter) : Prop := counted c ∧ c.value = 4294967295
    let shows (c : Counter) : Prop := wraps c ∧ c.overflow = false
    ∃ t, exec .timeBaseMillisecond s = .next t ∧
      (∀ i ≤ 3,
        let c := s.node.counters.cells.get i
        let after := t.node.counters.cells.get i
        (¬counted c → after = c) ∧
        (counted c → c.value < 4294967295 → after = { c with value := c.value + 1 }) ∧
        (wraps c → after = { c with value := 0, overflow := true })) ∧
      ((∀ i ≤ 3, ¬shows (s.node.counters.cells.get i)) → t.node.port = s.node.port) ∧
      ((∃ i ≤ 3, shows (s.node.counters.cells.get i)) → t.node.port = { s.node.port with
        notices := s.node.port.notices ||| (1#16 <<< Notice.counterOverflow) }) ∧
      t = { s with node.counters.cells := t.node.counters.cells, node.port := t.node.port }) ∧
  (∀ (mm : Nat) (n : Node) (i : Nat), n.counters.frozen = false →
    let before := n.counters.cells.get i
    let counted (c : Counter) : Prop :=
      conditionCode c.code = true ∧ c.mode = .length ∧ n.conditionOf c = true
    let wraps (c : Counter) : Prop := counted c ∧ 4294967295 < c.value + mm
    (¬counted before → (n.countLength mm).counters.cells.get i = before) ∧
    (counted before → before.value + mm ≤ 4294967295 →
      (n.countLength mm).counters.cells.get i = { before with value := before.value + mm }) ∧
    (wraps before → (n.countLength mm).counters.cells.get i =
      { before with value := before.value + mm - 4294967296, overflow := true }) ∧
    (wraps before → before.overflow = false → (n.countLength mm).port = { n.port with
      notices := n.port.notices ||| (1#16 <<< Notice.counterOverflow) }) ∧
    ((∀ j ≤ 3, wraps (n.counters.cells.get j) → (n.counters.cells.get j).overflow = true) →
      (n.countLength mm).port = n.port)) ∧
  (∀ (n : Node) (i : Nat), n.counters.frozen = false →
    let before := n.counters.cells.get i
    let now := n.conditionOf before
    let turns (c : Counter) : Prop := conditionCode c.code = true ∧ c.mode = .occurrences ∧
      n.conditionOf c = true ∧ c.lastCondition = false
    let after := n.followConditions.counters.cells.get i
    (conditionCode before.code = false → after = before) ∧
    (conditionCode before.code = true → ¬turns before →
      after = { before with lastCondition := now }) ∧
    (turns before → before.value < 4294967295 →
      after = { before with value := before.value + 1, lastCondition := now }) ∧
    (turns before → before.value = 4294967295 →
      after = { before with value := 0, overflow := true, lastCondition := now }) ∧
    (turns before → before.value = 4294967295 → before.overflow = false →
      n.followConditions.port = { n.port with
        notices := n.port.notices ||| (1#16 <<< Notice.counterOverflow) }) ∧
    ((∀ j ≤ 3, turns (n.counters.cells.get j) → 4294967295 ≤ (n.counters.cells.get j).value →
        (n.counters.cells.get j).overflow = true) → n.followConditions.port = n.port))

/-- A line's condition is that of Table 6-3; a line is asserted while it is true or its latch is set,
and the latch of a line with the latch option is set while it is true and the view is not RUN, and
cleared in RUN (R113, R114, R116). ACT0 to ACT3 are driven from START, high when asserted and
ACTIVE_HIGH or negated and ACTIVE_LOW (R114, R115). NOTICE_N is low while a flag is set whose mask bit
is clear (R181). SDO is driven while CS_N is asserted and gives the held response, then zeros, or zeros
alone while none is held (R154, R175). LDE shows the driver enable (R135). SELn is low while a
transaction on n is in progress; without a transaction SSCK and SSDO are low (from START the model's
choice, log 45), and in one SSCK has a clock in each period of its bytes, and SSDO has the command bits,
the first from the beginning of the first clock's period (the model's choice, log 45), and is low in the
reply, and after the last clock by that choice too (R157, R159). While RESET_N is asserted SDO, LDE and
ACT0 to ACT3 are not driven (R180, log 42). -/
def Obligations.PinsShowTheState : Prop :=
  ∀ n : Node,
    (∀ a : ActionConfig,
      let h := n.config.channels.get a.parameter
      let c := n.sensor.channels.get a.parameter
      let started := n.bus.participation ≠ .unconfigured
      (a.condition = 1 → (n.lineCondition a = true ↔ a.parameter.testBit n.line.view.code = true)) ∧
      (a.condition = 2 → (n.lineCondition a = true ↔ started ∧ n.config.dwell1 ≤ n.prot.timer)) ∧
      (a.condition = 3 → (n.lineCondition a = true ↔ started ∧ n.config.dwell2 ≤ n.prot.timer)) ∧
      (a.condition = 4 → (n.lineCondition a = true ↔
        ∃ m ∈ n.marks.table, a.parameter.testBit (m.kind.code - 1) = true)) ∧
      (a.condition = 5 → (n.lineCondition a = true ↔ h.enable ≠ 0 ∧ c.out = true)) ∧
      (a.condition = 6 → (n.lineCondition a = true ↔ h.enable ≠ 0 ∧ c.failed = true)) ∧
      (a.condition = 7 → (n.lineCondition a = true ↔ n.len.source = .derived)) ∧
      (a.condition = 8 → (n.lineCondition a = true ↔ n.bus.participation ≠ .active))) ∧
    (∀ i ≤ 3, n.prot.driven = true →
      let a := n.config.lines.get i
      let l := n.prot.lines.get i
      let after := n.evalLines.prot.lines.get i
      (after.latch = true ↔
        a.latch ≠ 0 ∧ n.line.view ≠ .run ∧ (l.latch = true ∨ n.lineCondition a = true)) ∧
      (after.asserted = true ↔ n.lineCondition a = true ∨ after.latch = true)) ∧
    (∀ i, n.actPin i =
      if n.prot.driven = true ∧ n.inReset = false then
        some (if (n.config.lines.get i).polarity = 0 then (n.prot.lines.get i).asserted
          else !(n.prot.lines.get i).asserted)
      else none) ∧
    (n.noticePin = false ↔ ∃ i, n.port.notices.getLsbD i = true ∧ n.port.mask.getLsbD i = false) ∧
    (∀ k, n.sdoPin false k = none ∧ (n.inReset = true → n.sdoPin true k = none) ∧
      (n.inReset = false → n.port.response = none → n.sdoPin true k = some (List.replicate k 0)) ∧
      (∀ r, n.inReset = false → n.port.response = some r →
        n.sdoPin true k = some ((r ++ List.replicate k 0).take k))) ∧
    (n.ldePin = if n.inReset = true then none else some n.bus.lde) ∧
    (n.sensor.transaction = none →
      (∀ i, n.selPin i = true) ∧ (∀ p h, n.ssckPin p h = false) ∧ (∀ p, n.ssdoPin p = false)) ∧
    (∀ t, n.sensor.transaction = some t →
      (∀ i, n.selPin i = false ↔ i = t.select) ∧
      (∀ p h, n.ssckPin p h = true ↔
        h = true ∧ 1 ≤ p ∧ p ≤ 8 * (t.command.length + t.replyCount)) ∧
      (∀ p, 8 * t.command.length < p → n.ssdoPin p = false) ∧
      (∀ i b j, t.command[i]? = some b → j < 8 → n.ssdoPin (1 + 8 * i + j) = b.getMsbD j))

/-- An entry offered to a record: its kind joins the summary in every case; an entry of the same kind,
id and station changes nothing more; with room it is added as the newest; on a full list it is dropped
and MARKS_OVERFLOW is set (R46, R47). A LEASE or OPERATOR mark is offered, with its offset, to the
record that covers the mark point, and the answer gives the outcome, the record's range and the offset;
what no record covers is answered so (R58). Nothing else changes but reports. POST_MARK refuses a kind
that is no point kind, a KNOT away from the ORIGIN and a CUT away from the TERMINAL with field index 1;
an id of 0, and a KNOT's id equal to the beam set, with field index 2, the kind before the id (log 35);
everything in OFFLINE with REFUSED_STATE, also with wrong arguments (log 12; R58 to R60). At tracking
length L a closed record covers the positions from L less its tail up to, not with, L less its head, and
the entering record those below L less its head; a claim on a position reaches the records that cover
it, one on a span those that cover a position of it, one on the window all, and each reached record,
oldest first, is written (R26, R27). -/
def Obligations.PointMarksAndTheirEntries : Prop :=
  (∀ (m : MarkEntry) (b : Body),
      let c := { b with summary := b.summary ||| (1#8 <<< (m.kind.code - 1)) }
      ((∃ e ∈ b.marks, e.kind = m.kind ∧ e.id = m.id ∧ e.station = m.station) → offerEntry m b = c) ∧
      ((∀ e ∈ b.marks, ¬(e.kind = m.kind ∧ e.id = m.id ∧ e.station = m.station)) →
        (b.marks.length < 4 → offerEntry m b = { c with marks := b.marks ++ [m] }) ∧
        (4 ≤ b.marks.length → offerEntry m b = { c with flags := b.flags ||| (1#16 <<< 12) }))) ∧
  ((∀ (args : List Byte) (s : State) (k : MarkKind), args.length = 3 →
      MarkKind.ofCode? (fieldAt args 0 1) = some k → (k = .lease ∨ k = .operator) →
      fieldAt args 1 2 ≠ 0 → s.node.bus.participation ≠ .unconfigured →
      s.node.bus.participation ≠ .offline → s.node.quiet →
      let l := s.node.len.tracking
      let p := s.node.config.markPoint
      let c := Claim.point l p
      let entry (h : Nat) : MarkEntry :=
        { kind := k, id := fieldAt args 1 2, station := s.node.config.station, offset := l - p - h }
      ∃ t, exec (.postMark args) s = .next t ∧ t.pending = s.pending ∧
        t.node.upToReports
          { s.node with window := s.node.window.write c fun h b => offerEntry (entry h) b } ∧
        (s.node.window.reached c = [] →
          t.node.answers Result.done 0 (be 1 3 ++ be 3 0 ++ be 3 0 ++ be 4 0 ++ be 2 0)) ∧
        (∀ h b rest, s.node.window.reached c = (h, b) :: rest →
          t.node.answers Result.done 0
            (be 1 (if holdsEntry (entry h) b.marks then 1 else if b.marks.length < 4 then 0 else 2) ++
              be 3 b.first ++ be 3 b.last ++ be 4 (l - p - h) ++ be 2 0))) ∧
    (∀ (args : List Byte) (s : State), args.length = 3 → s.node.bus.participation ≠ .unconfigured →
      let kind := fieldAt args 0 1
      let id := fieldAt args 1 2
      let refused (i : Nat) : Host.Outcome State Fault Refusal :=
        .next { s with node.port.response := some (responseBytes Result.refusedArgument i []) }
      (s.node.bus.participation = .offline → exec (.postMark args) s = .next
        { s with node.port.response := some (responseBytes Result.refusedState 0 []) }) ∧
      (s.node.bus.participation ≠ .offline →
        (kind < 4 ∨ 7 < kind → exec (.postMark args) s = refused 1) ∧
        (kind = 4 → s.node.isOrigin = false → exec (.postMark args) s = refused 1) ∧
        (kind = 6 → s.node.isTerminal = false → exec (.postMark args) s = refused 1) ∧
        (kind = 4 → s.node.isOrigin = true → (id = 0 ∨ id = s.node.marks.beamSet) →
          exec (.postMark args) s = refused 2) ∧
        ((kind = 5 ∨ kind = 7) → id = 0 → exec (.postMark args) s = refused 2)))) ∧
  (∀ (l p s e : Nat) (r : ClosedRecord) (x : EnteringRecord), s ≤ e →
    let covers (q : Nat) : Prop := (l : Int) - r.tail ≤ q ∧ (q : Int) < (l : Int) - r.head
    let enters (q : Nat) : Prop := (q : Int) < (l : Int) - x.head
    ((Claim.point l p).closed r = true ↔ covers p) ∧
    ((Claim.point l p).entering x = true ↔ enters p) ∧
    ((Claim.span l s e).closed r = true ↔ ∃ q, s ≤ q ∧ q ≤ e ∧ covers q) ∧
    ((Claim.span l s e).entering x = true ↔ ∃ q, s ≤ q ∧ q ≤ e ∧ enters q) ∧
    Claim.whole.closed r = true ∧ Claim.whole.entering x = true) ∧
  (∀ (c : Claim) (w : Window) (f : Nat → Body → Body),
    w.reached c = (w.closed.filter c.closed).map (fun r => (r.head, r.body)) ++
      (match w.entering with
        | some x => if c.entering x then [(x.head, x.body)] else []
        | none => []) ∧
    (w.write c f).closed =
      w.closed.map (fun r => if c.closed r then { r with body := f r.head r.body } else r) ∧
    (w.write c f).entering =
      match w.entering with
      | some x => some (if c.entering x then { x with body := f x.head x.body } else x)
      | none => none)

/-- A CUT at the TERMINAL advances the weaver's beam number, 65,535 to 1, and stamps a mark with that
number as its id on the record at the exit point (R60). A KNOT at the ORIGIN with room in the window
takes the new beam set, closes the entering record at the tracking length with its local length as
origin length, opens the next record with the new beam set, and stamps the KNOT on it at offset 0 (R34,
R59). In an empty window it makes no record and its stamp is dropped; at the head of the entering record
it makes no boundary, full window or not (log 16); in a full window it coalesces, with WINDOW_COALESCE,
and falls on the coalesced record at its offset (R34, R40, R59). -/
def Obligations.CutAndKnotMarkTheSheet : Prop :=
  (∀ (args : List Byte) (s : State), args.length = 3 → fieldAt args 0 1 = 6 →
      s.node.bus.participation ≠ .unconfigured → s.node.bus.participation ≠ .offline →
      s.node.isTerminal = true → s.node.quiet →
      let l := s.node.len.tracking
      let p := s.node.config.reach
      let beam := if s.node.handover.beam = 65535 then 1 else s.node.handover.beam + 1
      ∃ t, exec (.postMark args) s = .next t ∧ t.pending = s.pending ∧
        t.node.upToReports { s.node with
          handover.beam := beam
          window := s.node.window.write (Claim.point l p) fun h b =>
            offerEntry
              { kind := .cut, id := beam, station := s.node.config.station, offset := l - p - h } b }) ∧
  ((∀ (args : List Byte) (s : State) (e : EnteringRecord), args.length = 3 → fieldAt args 0 1 = 4 →
        fieldAt args 1 2 ≠ 0 → fieldAt args 1 2 ≠ s.node.marks.beamSet →
        s.node.bus.participation ≠ .unconfigured → s.node.bus.participation ≠ .offline →
        s.node.isOrigin = true → s.node.quiet → s.node.window.entering = some e →
        e.head < s.node.len.tracking → s.node.window.closed.length < 47 →
        let l := s.node.len.tracking
        let beam := fieldAt args 1 2
        let number := segSucc e.body.last
        ∃ t, exec (.postMark args) s = .next t ∧ t.pending = s.pending ∧
          t.node.upToReports { s.node with
            marks.beamSet := beam
            window :=
              { closed := s.node.window.closed ++
                  [{ body := { e.body with content := .filled, origin := some (l - e.head) }
                     head := e.head, tail := l }]
                entering := some
                  { body := offerEntry
                      { kind := .knot, id := beam, station := s.node.config.station, offset := 0 }
                      (freshBody number .filled (some s.node.config.segmentLength) beam
                        s.node.lengthDerived)
                    head := l, expectFrom := l, expected := some s.node.config.segmentLength } } } ∧
          t.node.answers Result.done 0
            (be 1 0 ++ be 3 number ++ be 3 number ++ be 4 0 ++ be 2 beam)) ∧
    (∀ (args : List Byte) (s : State), args.length = 3 → fieldAt args 0 1 = 4 →
      fieldAt args 1 2 ≠ 0 → fieldAt args 1 2 ≠ s.node.marks.beamSet →
      s.node.bus.participation ≠ .unconfigured → s.node.bus.participation ≠ .offline →
      s.node.isOrigin = true → s.node.quiet →
      let l := s.node.len.tracking
      let beam := fieldAt args 1 2
      let knot (head : Nat) : MarkEntry :=
        { kind := .knot, id := beam, station := s.node.config.station, offset := l - head }
      (s.node.window.entering = none →
        ∃ t, exec (.postMark args) s = .next t ∧ t.pending = s.pending ∧
          t.node.upToReports { s.node with marks.beamSet := beam } ∧
          t.node.answers Result.done 0 (be 1 3 ++ be 3 0 ++ be 3 0 ++ be 4 0 ++ be 2 beam)) ∧
      (∀ e, s.node.window.entering = some e → e.head = l →
        ∃ t, exec (.postMark args) s = .next t ∧ t.pending = s.pending ∧
          t.node.upToReports { s.node with
            marks.beamSet := beam
            window.entering := some
              { e with body := offerEntry (knot l) { e.body with beamSet := beam } } }) ∧
      (∀ e, s.node.window.entering = some e → e.head < l → 47 ≤ s.node.window.closed.length →
        ∃ t, exec (.postMark args) s = .next t ∧ t.pending = s.pending ∧
          t.node.upToReports { s.node with
            marks.beamSet := beam
            window.entering := some
              { head := e.head, expectFrom := l, expected := some s.node.config.segmentLength
                body := offerEntry (knot e.head) { e.body with
                  last := segSucc e.body.last
                  nominal := some
                    (min 4294967295 (e.body.nominal.getD 0 + s.node.config.segmentLength))
                  beamSet := if e.body.beamSet = beam then e.body.beamSet else 0
                  flags := e.body.flags ||| (1#16 <<< 2) } } } ∧
          t.node.countedOnce .windowCoalesce s.node)))

/-- OPEN_MARK opens an OPERATOR_SPAN mark without a countdown, stamps it on the records in the station's
span and, with eight marks open, evicts the oldest, with MARK_EVICTED; its frontier is the first number
of the newest record offered; the answer counts the records and names the mark evicted. An id of 0, or
one already open, is refused with field index 1 (R49, R55, R57; a record with a full list is counted
too, log 15). CLOSE_MARK closes the open OPERATOR_SPAN mark of its id and answers its opening position
and frontier; when none is open it is IGNORED; an id of 0 is refused with field index 1 (R51, R56). -/
def Obligations.SpanMarksOpenAndClose : Prop :=
  (∀ (args : List Byte) (s : State), args.length = 2 →
      s.node.bus.participation ≠ .unconfigured → s.node.bus.participation ≠ .offline →
      let id := fieldAt args 0 2
      ((id = 0 ∨ ∃ m ∈ s.node.marks.table, m.kind = .operatorSpan ∧ m.id = id) →
        exec (.openMark args) s = .next
          { s with node.port.response := some (responseBytes Result.refusedArgument 1 []) }) ∧
      (id ≠ 0 → (∀ m ∈ s.node.marks.table, ¬(m.kind = .operatorSpan ∧ m.id = id)) → s.node.quiet →
        let claim := Claim.span s.node.len.tracking s.node.config.spanStart s.node.config.spanEnd
        let entry : MarkEntry :=
          { kind := .operatorSpan, id := id, station := s.node.config.station, offset := 0 }
        let full := 8 ≤ s.node.marks.table.length
        let mark : SpanMark :=
          { kind := .operatorSpan, id := id, countdown := .noCountdown, opening := s.node.len.tracking
            frontier :=
              match (s.node.window.reached claim).getLast? with
              | some (_, b) => b.first
              | none => 0 }
        ∃ t, exec (.openMark args) s = .next t ∧ t.pending = s.pending ∧
          t.node.upToReports { s.node with
            marks.table := (if full then s.node.marks.table.tail else s.node.marks.table) ++ [mark]
            window := s.node.window.write claim fun _ b => offerEntry entry b
            prot.lines := t.node.prot.lines } ∧
          t.node.linesFollow ∧
          (full → t.node.countedOnce .markEvicted s.node) ∧
          (¬full → t.node.faults.counts[FaultKind.markEvicted.index]? =
            s.node.faults.counts[FaultKind.markEvicted.index]?) ∧
          t.node.answers Result.done 0
            (be 1 (s.node.window.reached claim).length ++
              (match (if full then s.node.marks.table.head? else none) with
               | some m => be 1 m.kind.code ++ be 2 m.id
               | none => be 1 0 ++ be 2 0)))) ∧
  (∀ (args : List Byte) (s : State), args.length = 2 →
      s.node.bus.participation ≠ .unconfigured → s.node.bus.participation ≠ .offline →
      let id := fieldAt args 0 2
      (id = 0 → exec (.closeMark args) s = .next
        { s with node.port.response := some (responseBytes Result.refusedArgument 1 []) }) ∧
      (id ≠ 0 → (∀ m ∈ s.node.marks.table, ¬(m.kind = .operatorSpan ∧ m.id = id)) →
        exec (.closeMark args) s = .next
          { s with node.port.response := some (responseBytes Result.ignored 0 []) }) ∧
      (∀ older newer m, id ≠ 0 → s.node.marks.table = older ++ m :: newer →
        (∀ o ∈ older, ¬(o.kind = .operatorSpan ∧ o.id = id)) → m.kind = .operatorSpan → m.id = id →
        s.node.quiet →
        ∃ t, exec (.closeMark args) s = .next t ∧ t.pending = s.pending ∧
          t.node.upToReports { s.node with
            marks.table := older ++ newer
            prot.lines := t.node.prot.lines } ∧
          t.node.linesFollow ∧
          t.node.answers Result.done 0 (be 4 m.opening ++ be 3 m.frontier)))

/-- At an advance each open span mark, oldest first, offers its entry to the records in the span that
are newer than its frontier, its frontier moves to the newest of them, and a running countdown falls by
the advance; at 0 the mark closes (R50, R51). A change of view from a standing view or UNKNOWN to CREEP
or RUN starts the countdown of a held STOP or TRIP mark at the span's length and the mark tail (R53). -/
def Obligations.SpanMarksSweepAndCountDown : Prop :=
  (∀ (n : Node) (mm : Nat),
    let span := Claim.span n.len.tracking n.config.spanStart n.config.spanEnd
    let claim (s : SpanMark) : Claim :=
      { closed := fun r => span.closed r && (decide (s.frontier = 0) || segNewer r.body.first s.frontier)
        entering := fun e =>
          span.entering e && (decide (s.frontier = 0) || segNewer e.body.first s.frontier) }
    let entry (s : SpanMark) : MarkEntry :=
      { kind := s.kind, id := s.id, station := n.config.station, offset := 0 }
    let left (s : SpanMark) : Option Countdown :=
      match s.countdown with
      | .held => some .held
      | .noCountdown => some .noCountdown
      | .running c => if c ≤ mm then none else some (.running (c - mm))
    let frontier (s : SpanMark) : Nat :=
      match (n.window.reached (claim s)).getLast? with
      | some (_, b) => b.first
      | none => s.frontier
    let swept := n.sweepMarks mm
    swept.marks.table = n.marks.table.filterMap (fun s =>
      (left s).map fun d => { s with countdown := d, frontier := frontier s }) ∧
    swept.window =
      n.marks.table.foldl (fun w s => w.write (claim s) fun _ b => offerEntry (entry s) b) n.window ∧
    (∃ k, swept.faults.reported =
      n.faults.reported ++ List.replicate k { kind := .marksOverflow, silent := false }) ∧
    swept = { n with
      marks.table := swept.marks.table
      window := swept.window
      faults.reported := swept.faults.reported }) ∧
  (∀ (n : Node) (before after : View) (number : Nat), after.moving = true → before.moving = false →
    (n.marksOnView before after number).marks.table = n.marks.table.map fun s =>
      if (s.kind = .stop ∨ s.kind = .trip) ∧ s.countdown = .held then
        { s with countdown := .running (n.config.spanEnd - n.config.spanStart + n.config.markTail) }
      else s)

/-- At the ORIGIN an advance that brings the entering record to its expected length cuts it: with room
it closes FILLED at the tracking length with its local length as origin length, and the next record
opens with the segment length and the beam set; in a window of 48 records it widens instead by one
number, with the segment length added to its nominal length, its beam set 0 when the Mark Unit's
differs, COALESCED set and WINDOW_COALESCE recorded. A shorter record is left (R28, R33, R38, R40).
Elsewhere the late test holds when the entering record, its expected length known, has passed that
length raised by the late margin and the bridge allowance with no arrival of its numbers waiting; the
late declaration records BOUNDARY_LATE and closes it PROVISIONAL, without an origin length, with room in
the window, and the next record opens with the same expectation; in a window of 48 records it widens by
one number, PROVISIONAL_LATE and COALESCED set, with WINDOW_COALESCE too (R35, R36, R39).
BOUNDARY_APPLIED (origin-cut, coalesced) and LATE_DECLARED are reported with their amounts (R45). -/
def Obligations.EnteringRecordIsCutOrDeclaredLate : Prop :=
  (∀ (n : Node) (e : EnteringRecord) (expected : Nat), n.isOrigin = true →
      n.window.entering = some e → e.expected = some expected →
      let l := n.len.tracking
      let number := segSucc e.body.last
      (l - e.expectFrom < expected → n.testEntering = n) ∧
      (expected ≤ l - e.expectFrom → n.window.closed.length < 47 →
        n.testEntering = Node.report { code := 1, bits := [3], amount := l - e.head } { n with
          window :=
            { closed := n.window.closed ++
                [{ body := { e.body with content := .filled, origin := some (l - e.head) }
                   head := e.head, tail := l }]
              entering := some
                { body := freshBody number .filled (some n.config.segmentLength) n.marks.beamSet
                    n.lengthDerived
                  head := l, expectFrom := l, expected := some n.config.segmentLength } } }) ∧
      (expected ≤ l - e.expectFrom → 47 ≤ n.window.closed.length →
        n.testEntering = Node.report { code := 1, bits := [1], amount := l - e.expectFrom } { n with
          faults.reported := n.faults.reported ++ [{ kind := .windowCoalesce, silent := false }]
          window.entering := some
            { head := e.head, expectFrom := l, expected := some n.config.segmentLength
              body := { e.body with
                last := number
                nominal := some (min 4294967295 (e.body.nominal.getD 0 + n.config.segmentLength))
                beamSet := if e.body.beamSet = n.marks.beamSet then e.body.beamSet else 0
                flags := e.body.flags ||| (1#16 <<< 2) } } })) ∧
  (∀ (n : Node) (e : EnteringRecord) (expected : Nat), n.isOrigin = false →
      n.window.entering = some e → e.expected = some expected →
      let l := n.len.tracking
      let beyond := l - e.expectFrom - expected
      (n.lateMet l e = true ↔
        expected * (100 + n.config.lateMargin) / 100 + n.handover.allowance < l - e.expectFrom ∧
        ∀ a ∈ n.handover.arrivals,
          rangesOverlap a.body.first a.body.last e.body.first e.body.last = false) ∧
      (n.lateMet l e = true → n.window.closed.length < 47 →
        n.testEntering = Node.report { code := 3, bits := [], amount := beyond } { n with
          faults.reported := n.faults.reported ++ [{ kind := .boundaryLate, silent := false }]
          window :=
            { closed := n.window.closed ++
                [{ body := { e.body with
                     content := .provisional, origin := none, flags := e.body.flags ||| (1#16 <<< 0) }
                   head := e.head, tail := l }]
              entering := some
                { body := freshBody (segSucc e.body.last) .pending (some expected) 0 n.lengthDerived
                  head := l, expectFrom := l, expected := some expected } } }) ∧
      (n.lateMet l e = true → 47 ≤ n.window.closed.length →
        n.testEntering = Node.report { code := 3, bits := [], amount := beyond }
          (Node.report { code := 1, bits := [1], amount := l - e.expectFrom } { n with
          faults.reported := n.faults.reported ++
            [{ kind := .windowCoalesce, silent := false }, { kind := .boundaryLate, silent := false }]
          window.entering := some
            { head := e.head, expectFrom := l, expected := some expected
              body := { e.body with
                last := segSucc e.body.last
                flags := (e.body.flags ||| (1#16 <<< 0)) ||| (1#16 <<< 2) } } })))

/-- A closed record exits at the advance that brings its tail to the end of the reach, and not before.
At a PATH or TERMINAL station it takes a trail entry of its stretch against its origin length, in 0.01
%, rounded toward zero and held, absent without an origin length; a seventh entry drops the oldest. At
the TERMINAL the record is retired into the beam log with its local length, the tracking length and the
weaver's beam number, LOG_NOT_EMPTY set, and a full log loses its oldest entry with LOG_OVERRUN.
Elsewhere in ACTIVE it is offered as a HANDOFF with the following nominal length, lost with
HANDOFF_DROPPED to a full queue; outside ACTIVE it is discarded. STRETCH is reported with its sign and
magnitude, HANDOFF_SENT as dropped or discarded (R42, R64 to R67, R82). -/
def Obligations.RecordsExitAndRetire : Prop :=
  ∀ (n : Node) (r : ClosedRecord) (rest : List ClosedRecord) (k : Nat), n.window.closed = r :: rest →
    let left := { n with window.closed := rest }
    let following : Option Nat :=
      if n.isOrigin then some n.config.segmentLength else n.window.entering.bind fun e => e.expected
    let len := r.tail - r.head
    let stretch : Option Int :=
      match r.body.origin with
      | none => none
      | some 0 => none
      | some o => some (max (-32768) (min 32767 ((((len : Int) - (o : Int)) * 10000).tdiv (o : Int))))
    let older := if 6 ≤ r.body.trail.length then r.body.trail.tail else r.body.trail
    let body :=
      if n.isOrigin then r.body
      else { r.body with trail := older ++ [{ station := n.config.station, stretch := stretch }] }
    let out := left.exitRecord r following
    let measured :=
      if n.isOrigin then left
      else match stretch with
        | none => left.report { code := 12, bits := [2], amount := 0 }
        | some v => left.report { code := 12, bits := [if v < 0 then 1 else 0], amount := v.natAbs }
    (n.len.tracking < r.tail + n.config.reach → n.takeExits (k + 1) = n) ∧
    (r.tail + n.config.reach ≤ n.len.tracking → n.takeExits (k + 1) = out.takeFaults.takeExits k) ∧
    (n.isTerminal = true →
      out = { measured with
        port.notices := measured.port.notices ||| (1#16 <<< Notice.logNotEmpty)
        handover.log := (if 32 ≤ n.handover.log.length then n.handover.log.tail else n.handover.log) ++
          [{ body := body, localLength := len, exitLength := n.len.tracking, beam := n.handover.beam }]
        faults.reported := n.faults.reported ++
          (if 32 ≤ n.handover.log.length then [{ kind := .logOverrun, silent := false }] else []) }) ∧
    (n.isTerminal = false → n.active = true → n.bus.queue.length < 16 →
      out = { measured with
        bus.queue := n.bus.queue ++
          [QueuedFrame.fresh (.handoff { nextNominal := following, body := body }) false] }) ∧
    (n.isTerminal = false → n.active = true → 16 ≤ n.bus.queue.length →
      out = Node.report { code := 4, bits := [1], amount := 0 } { measured with
        faults.reported := n.faults.reported ++ [{ kind := .handoffDropped, silent := false }] }) ∧
    (n.isTerminal = false → n.active = false →
      out = measured.report { code := 4, bits := [2], amount := 0 })

/-- A HANDOFF of the neighbour in force, whose entry is PRESENT, joins the arrivals of a PATH or
TERMINAL station, due after the gap in force; with a gap of 0 and none waiting it is applied at once,
which in an empty window, the case stated here, makes the first closed record, of no length, and opens
the next at the tracking length. A HANDOFF of another station is not taken (R70, R71, R80; the other
cases are in ArrivalsAreApplied). -/
def Obligations.HandoffBecomesAnArrival : Prop :=
  ∀ (sender : Nat) (p : HandoffPayload) (s : State) (e : RosterEntry), stationOk sender = true →
    frameOk (.handoff p) = true → s.node.receiving = true → sender ≠ s.node.config.station →
    s.node.roster.entry? sender = some e → e.present = true →
    s.node.roster.upstream = s.node.chooseUpstream → s.node.quiet →
    let h := s.node.handover
    let l := s.node.len.tracking
    ∃ t, exec (.receiveHandoff sender p) s = .next t ∧ t.pending = s.pending ∧
      t.node.line = s.node.line ∧ t.node.len.tracking = l ∧
      (s.node.isOrigin = true ∨ h.neighbour ≠ some sender →
        t.node.handover = h ∧ t.node.window = s.node.window) ∧
      (s.node.isOrigin = false → h.neighbour = some sender → (h.gap ≠ 0 ∨ h.arrivals ≠ []) →
        h.arrivals.length < 8 →
        t.node.window = s.node.window ∧
        t.node.handover = { h with
          arrivals := h.arrivals ++
            [{ body := p.body, nextNominal := p.nextNominal, bridged := h.bridging,
               due := min 4294967295 (l + h.gap) }] }) ∧
      (s.node.isOrigin = false → h.neighbour = some sender → h.gap = 0 → h.arrivals = [] →
        s.node.window = Window.empty →
        ∃ r next, t.node.window = { closed := [r], entering := some next } ∧
          r.head = l ∧ r.tail = l ∧ r.body.first = p.body.first ∧ r.body.last = p.body.last ∧
          hasFlag RecordFlag.isPartial r.body = true ∧ next.head = l ∧
          next.body.first = segSucc p.body.last ∧ next.expected = p.nextNominal ∧
          t.node.handover = h)

/-- The head arrival is applied at the advance that brings its due position (R73); one that meets eight
waiting first has the oldest applied EARLY, with ARRIVAL_OVERRUN (R74). Applied to a window with an
entering record it is a boundary when its last number is not older than that record's first: the record
takes the content, the BRIDGED and EARLY marks and the count of numbers skipped, with NUMBER_SKIP,
closes at the tracking length with the newer last number, and the next opens PENDING with the next
nominal; in a window of 48 records it widens instead, with WINDOW_COALESCE (R76, R77, R81). An older one
fills the oldest PROVISIONAL record it overlaps, which takes LATE, or is a duplicate or stale and leaves
the window (R78, R79). Applied to an empty window it makes the first record, PARTIAL and of no length,
and opens the next (R80). BOUNDARY_APPLIED and HANDOFF_MATCH are reported with their qualifiers and
amounts (R45, R77 to R79). Segment numbers are compared by forward distance, 1 to 8,388,607, and two
ranges overlap when a number lies in both (R20). -/
def Obligations.ArrivalsAreApplied : Prop :=
  (∀ (n : Node) (a : Arrival) (rest : List Arrival), n.handover.arrivals = a :: rest →
    let left := { n with handover.arrivals := rest }
    (a.due ≤ n.len.tracking → n.handoverTurn = left.applyArrival false a) ∧
    (n.len.tracking < a.due → n.handoverTurn = n) ∧
    (∀ b, n.handover.arrivals.length = 8 →
      let applied := left.applyArrival true a
      n.joinArrivals b = { applied with
        handover.arrivals := rest ++ [b]
        faults.reported := applied.faults.reported ++ [{ kind := .arrivalOverrun, silent := false }] })) ∧
  (∀ (n : Node) (a : Arrival) (early : Bool) (e : EnteringRecord), n.isOrigin = false →
    n.window.entering = some e → segNotOlder a.body.last e.body.first = true →
    let l := n.len.tracking
    let skip :=
      if segNewer a.body.first (segSucc e.body.last) then segDist e.body.last a.body.first - 1 else 0
    let content := absorb e.body a.body
    let last := segNewest e.body.last a.body.last
    let body := { content with
      skip := min 16777214 (content.skip + skip)
      flags := (content.flags ||| (if a.bridged then 1#16 <<< 4 else 0#16)) |||
        (if early then 1#16 <<< 5 else 0#16) }
    let lost : List FaultReport :=
      List.replicate (absorbDrops e.body a.body) { kind := .marksOverflow, silent := false } ++
        (if skip = 0 then [] else [{ kind := .numberSkip, silent := false }])
    let after := n.applyArrival early a
    let skipped (m : Node) : Node :=
      if skip = 0 then m else m.report { code := 2, bits := [3], amount := skip }
    (n.window.closed.length < 47 →
      after = skipped (Node.report { code := 1, bits := [0], amount := l - e.head } { n with
        faults.reported := n.faults.reported ++ lost
        window :=
          { closed := n.window.closed ++
              [{ body := { body with last := last }, head := e.head, tail := l }]
            entering := some
              { body := freshBody (segSucc last) .pending a.nextNominal 0 n.lengthDerived
                head := l, expectFrom := l, expected := a.nextNominal } } })) ∧
    (47 ≤ n.window.closed.length →
      after = skipped (Node.report { code := 1, bits := [1], amount := l - e.expectFrom } { n with
        faults.reported := n.faults.reported ++
          ({ kind := .windowCoalesce, silent := false } :: lost)
        window.entering := some
          { body := { body with last := segSucc last, flags := body.flags ||| (1#16 <<< 2) }
            head := e.head, expectFrom := l, expected := a.nextNominal } }))) ∧
  (∀ (n : Node) (a : Arrival) (early : Bool) (e : EnteringRecord),
    n.window.entering = some e → segNotOlder a.body.last e.body.first = false →
    let overlaps (b : Body) : Bool := rangesOverlap a.body.first a.body.last b.first b.last
    let fills (b : Body) : Bool := decide (b.content = .provisional) && overlaps b
    let after := n.applyArrival early a
    let filled (b : Body) : Body :=
      let c := fillBody b a.body
      { c with flags := ((c.flags ||| (1#16 <<< 1)) ||| (if a.bridged then 1#16 <<< 4 else 0#16)) |||
          (if early then 1#16 <<< 5 else 0#16) }
    (∀ older r newer, n.window.closed = older ++ r :: newer → (∀ x ∈ older, fills x.body = false) →
      fills r.body = true →
      after = Node.report { code := 2, bits := [0], amount := 0 } { n with
        faults.reported := n.faults.reported ++ List.replicate (countDrops a.body.marks r.body)
          { kind := .marksOverflow, silent := false }
        window.closed := older ++ { r with body := filled r.body } :: newer }) ∧
    ((∀ b ∈ n.window.bodies, fills b = false) → (∃ b ∈ n.window.bodies, overlaps b = true) →
      after = Node.report { code := 2, bits := [1], amount := 0 } { n with
        faults.reported := n.faults.reported ++ [{ kind := .handoffDuplicate, silent := false }] }) ∧
    ((∀ b ∈ n.window.bodies, overlaps b = false) →
      after = Node.report { code := 2, bits := [2], amount := 0 } { n with
        faults.reported := n.faults.reported ++ [{ kind := .handoffStale, silent := false }] })) ∧
  (∀ (n : Node) (a : Arrival) (early : Bool), n.isOrigin = false → n.window.entering = none →
    let l := n.len.tracking
    let filled := fillBody
      { freshBody a.body.first .pending none 0 n.lengthDerived with last := a.body.last } a.body
    n.applyArrival early a = Node.report { code := 1, bits := [2], amount := 0 } { n with
      window :=
        { closed :=
            [{ body := { filled with
                 origin := none
                 flags := (((filled.flags ||| (if a.bridged then 1#16 <<< 4 else 0#16)) |||
                   (if early then 1#16 <<< 5 else 0#16)) ||| (1#16 <<< 3)) }
               head := l, tail := l }]
          entering := some
            { body := freshBody (segSucc a.body.last) .pending a.nextNominal 0 n.lengthDerived
              head := l, expectFrom := l, expected := a.nextNominal } } }) ∧
  (∀ a b : Nat, segmentOk a = true → segmentOk b = true →
    let forward (y x : Nat) : Nat := if y ≤ x then x - y else x + 16777215 - y
    (segSucc a = if a = 16777215 then 1 else a + 1) ∧ segDist b a = forward b a ∧
    (segNewer a b = true ↔ 1 ≤ forward b a ∧ forward b a ≤ 8388607) ∧
    (segNotOlder a b = true ↔ segNewer a b = true ∨ a = b) ∧
    segNewest a b = (if segNewer b a = true then b else a) ∧
    ∀ c d : Nat, segmentOk c = true → segmentOk d = true →
      (rangesOverlap a b c d = true ↔
        ∃ x, segmentOk x = true ∧ forward a x ≤ forward a b ∧ forward c x ≤ forward c d)) ∧
  (∀ a, segmentOk a = true ↔ 1 ≤ a ∧ a ≤ 16777215)

/-- Content that reaches a PENDING or PROVISIONAL record by filling gives it state, nominal length,
origin length and beam set; merged into one that holds content it sums lengths, drops an origin length
when either is absent, keeps an equal beam set alone and makes the state PROVISIONAL when either is.
Both join flags and summaries, add skip count and dwell, take a carried trail that has entries, offer
the carried marks in order, and sum reading counts, filling keeping the record's own value and merging
taking the carried. A PROVISIONAL or PARTIAL record holds no origin length. The range stays (R21, R28 to
R30, R46). -/
def Obligations.ContentFillsAndMerges : Prop :=
  ∀ own carried : Body,
    let fill := fillBody own carried
    let merge := mergeBody own carried
    let dropped (b : Body) (origin : Option Nat) : Option Nat :=
      if b.content = .provisional ∨ hasFlag RecordFlag.isPartial b = true then none else origin
    let sum (a b : Nat) : Nat := min 65535 (a + b)
    (∀ b ∈ [fill, merge],
      b.first = own.first ∧ b.last = own.last ∧
      b.skip = min 16777214 (own.skip + carried.skip) ∧ b.dwell = sum own.dwell carried.dwell ∧
      b.trail = (if carried.trail = [] then own.trail else carried.trail) ∧
      b.marks = (offerAll carried.marks own).marks ∧
      b.flags = own.flags ||| carried.flags ||| (offerAll carried.marks own).flags ∧
      b.summary = (offerAll carried.marks own).summary ||| carried.summary) ∧
    (fill.content = carried.content ∧ fill.nominal = carried.nominal ∧
      fill.origin = dropped fill carried.origin ∧ fill.beamSet = carried.beamSet) ∧
    (merge.content =
        (if own.content = .provisional ∨ carried.content = .provisional then .provisional else .filled) ∧
      (∀ a b, own.nominal = some a → carried.nominal = some b →
        merge.nominal = some (min 4294967295 (a + b))) ∧
      (own.nominal = none → merge.nominal = carried.nominal) ∧
      (carried.nominal = none → merge.nominal = own.nominal) ∧
      (∀ a b, own.origin = some a → carried.origin = some b →
        merge.origin = dropped merge (some (min 4294967295 (a + b)))) ∧
      ((own.origin = none ∨ carried.origin = none) → merge.origin = none) ∧
      merge.beamSet = (if own.beamSet = carried.beamSet then own.beamSet else 0)) ∧
    (∀ (field : Body → Option Reading),
      (field = (fun b => b.pickup) ∨ field = (fun b => b.moisture) ∨ field = fun b => b.tension) →
      (field own = none → field fill = field carried ∧ field merge = field carried) ∧
      (field carried = none → field fill = field own ∧ field merge = field own) ∧
      (∀ o c, field own = some o → field carried = some c →
        field fill = some { value := o.value, count := sum o.count c.count } ∧
        field merge = some { value := c.value, count := sum o.count c.count })) ∧
    absorb own carried = (if own.content = .pending then fill else merge)

/-- A forward pulse from START onward in ENCODER adds M to the fraction, takes out whole millimetres of
P, and lets them shrink the reverse debt first; what is left advances the tracking length, held at
4,294,967,295, and adds to the speed sum (R6). It clears a stall and restarts the stall timer (R1, R2,
R5, R7). A reverse pulse in ENCODER subtracts M from the fraction, borrows whole millimetres of P into
the reverse debt, held at 4,294,967,295, and leaves the tracking length; a debt that passes 2,000 mm
records REVERSE_EXCESS, once, and nothing else changes but reports (R1, R3, R4, R7). -/
def Obligations.PulsesCountForwardAndReverse : Prop :=
  (∀ (s : State), s.node.bus.participation ≠ .unconfigured → s.node.len.source = .encoder →
      0 < s.node.config.p → s.node.len.tracking ≤ 4294967295 → s.node.len.speedSum ≤ 4294967295 →
      ∃ t k, exec (.quadratureChange (!s.node.len.quadB) s.node.len.quadA) s = .next t ∧
        t.pending = s.pending ∧
        s.node.len.fraction + s.node.config.m = k * s.node.config.p + t.node.len.fraction ∧
        t.node.len.fraction < s.node.config.p ∧
        t.node.len.debt = s.node.len.debt - k ∧
        t.node.len.tracking = min 4294967295 (s.node.len.tracking + (k - s.node.len.debt)) ∧
        t.node.len.speedSum =
          min 4294967295 (s.node.len.speedSum + (t.node.len.tracking - s.node.len.tracking)) ∧
        t.node.len.source = .encoder ∧ t.node.len.stalled = false ∧ t.node.len.stallTimer = 0 ∧
        t.node.len.quadA = !s.node.len.quadB ∧ t.node.len.quadB = s.node.len.quadA) ∧
  (∀ (s : State), s.node.bus.participation ≠ .unconfigured → s.node.len.source = .encoder →
      0 < s.node.config.p → s.node.len.fraction < s.node.config.p → s.node.quiet →
      ∃ t k, exec (.quadratureChange s.node.len.quadB (!s.node.len.quadA)) s = .next t ∧
        t.pending = s.pending ∧
        t.node.len.fraction + s.node.config.m = s.node.len.fraction + k * s.node.config.p ∧
        t.node.len.fraction < s.node.config.p ∧
        t.node.upToReports { s.node with
          len.fraction := t.node.len.fraction
          len.debt := min 4294967295 (s.node.len.debt + k)
          len.stalled := false
          len.stallTimer := 0
          len.quadA := s.node.len.quadB
          len.quadB := !s.node.len.quadA } ∧
        (let passes := s.node.len.debt ≤ 2000 ∧ 2000 < t.node.len.debt
         (passes → t.node.countedOnce .reverseExcess s.node) ∧
         (¬passes → t.node.faults.counts = s.node.faults.counts)))

/-- Levels that change in both places or in none are no count, and before START no pulse is counted: the
quadrature state alone follows (R1). While the source is DERIVED a pulse of either direction restarts
the stall timer and is counted into nothing; the first after a stall clears it and sets ENCODER_RESUMED
with its notice (R13, R15). -/
def Obligations.PulsesNotCounted : Prop :=
  (∀ (a b : Bool) (s : State),
    (s.node.bus.participation = .unconfigured ∨ (a = s.node.len.quadA ∧ b = s.node.len.quadB) ∨
      (a = !s.node.len.quadA ∧ b = !s.node.len.quadB)) →
    exec (.quadratureChange a b) s = .next { s with node.len.quadA := a, node.len.quadB := b }) ∧
  (∀ (a b : Bool) (s : State), s.node.bus.participation ≠ .unconfigured →
    s.node.len.source = .derived → s.node.quiet →
    ((a = !s.node.len.quadB ∧ b = s.node.len.quadA) ∨
      (a = s.node.len.quadB ∧ b = !s.node.len.quadA)) →
    (s.node.len.stalled = false →
      exec (.quadratureChange a b) s = .next { s with
        node.len.quadA := a, node.len.quadB := b, node.len.stallTimer := 0 }) ∧
    (s.node.len.stalled = true → s.node.len.resumedFlag = false →
      exec (.quadratureChange a b) s = .next { s with
        node.len.quadA := a
        node.len.quadB := b
        node.len.stallTimer := 0
        node.len.stalled := false
        node.len.resumedFlag := true
        node.port.notices := s.node.port.notices ||| (1#16 <<< Notice.encoderResumed) }) ∧
    (s.node.len.stalled = true → s.node.len.resumedFlag = true →
      exec (.quadratureChange a b) s = .next { s with
        node.len.quadA := a
        node.len.quadB := b
        node.len.stallTimer := 0
        node.len.stalled := false }))

/-- An advance of the tracking length, held at 4,294,967,295, also grows the speed sum (R5, R6), and the
blocks take it one after another in some order: the window (exits, then the test of the entering
record), the Mark Unit, the Monitor Counters once each, and the Handover Engine at least once and until
no arrival is due (R27, R31, R50, R73, R171; the order is that of `turns`, log 4). An advance of 0 mm is
none (log 34). A forward pulse makes the advance that is left of its whole millimetres (R2), a derived
advance that of its whole hundreds (R11). -/
def Obligations.AdvanceReachesEveryBlock : Prop :=
  (∀ (n : Node) (mm : Nat), n.len.tracking ≤ 4294967295 →
    let d := min mm (4294967295 - n.len.tracking)
    (d = 0 → n.advance mm = n) ∧
    (d ≠ 0 →
      (∃ ts : List Taker, ts.count .window = 1 ∧ ts.count .marks = 1 ∧ ts.count .counters = 1 ∧
        1 ≤ ts.count .handover ∧
        Node.actsInTurn d ts
          { n with
            len.tracking := n.len.tracking + d
            len.speedSum := min 4294967295 (n.len.speedSum + d) } (n.advance mm)) ∧
      (n.advance mm).len.tracking = n.len.tracking + d ∧
      (n.advance mm).len.speedSum = min 4294967295 (n.len.speedSum + d) ∧
      ∀ a rest, (n.advance mm).handover.arrivals = a :: rest → n.len.tracking + d < a.due)) ∧
  (∀ (n : Node) (mm : Nat),
    n.takerTurn .window mm = (n.takeExits n.window.closed.length).testEntering ∧
    n.takerTurn .marks mm = n.sweepMarks mm ∧ n.takerTurn .counters mm = n.countLength mm ∧
    n.takerTurn .handover mm = n.handoverTurn) ∧
  (∀ s : State, s.node.bus.participation ≠ .unconfigured →
    (s.node.len.source = .encoder →
      let out := (s.node.len.fraction + s.node.config.m) / s.node.config.p
      exec (.quadratureChange (!s.node.len.quadB) s.node.len.quadA) s = .next { s with
        node := (Node.advance (out - s.node.len.debt) { s.node with
          len.quadA := !s.node.len.quadB
          len.quadB := s.node.len.quadA
          len.stalled := false
          len.stallTimer := 0
          len.fraction := (s.node.len.fraction + s.node.config.m) % s.node.config.p
          len.debt := s.node.len.debt - out }).finish }) ∧
    (∀ v, s.node.len.source = .derived → s.node.len.reference = some v →
      ∃ phase, exec .derivedAdvance s = .next { s with
        node := (Node.advance ((s.node.len.remainder + v) / 100) { s.node with
          len.derivedPhase := phase
          len.remainder := (s.node.len.remainder + v) % 100 }).finish }))

/-- A stall while the view is CREEP or RUN: with fallback the source becomes DERIVED, every record takes
DERIVED_LENGTH, and ENCODER_LOST of class DEGRADED is recorded; without fallback the source and length
stay, and the FATAL fault withdraws a station on the line. Each sets the ENCODER_LOST flag, with the
notice of its name, which stands already where the flag was set (R8, R15); so does a stall while DERIVED
(R13; log 33). The event happens on its word (log 3); otherwise nothing happens (log 8; R7 to R9, R12).
-/
def Obligations.StallIsDeclared : Prop :=
  ∀ s : State,
    (s.node.bus.participation = .unconfigured ∨ s.node.line.view.moving = false ∨
      s.node.len.stalled = true → exec .stall s = .next s) ∧
    (s.node.bus.participation ≠ .unconfigured → s.node.line.view.moving = true →
      s.node.len.stalled = false → s.node.config.fallback ≠ 0 → s.node.quiet →
      s.node.len.source = .encoder →
      ∃ t, exec .stall s = .next t ∧ t.pending = s.pending ∧
        t.node.upToReports { s.node with
          len.stalled := true
          len.stallTimer := t.node.len.stallTimer
          len.source := .derived
          len.remainder := 0
          len.derivedPhase := t.node.len.derivedPhase
          len.lostFlag := true
          window := s.node.window.write Claim.whole fun _ b =>
            { b with flags := b.flags ||| (1#16 <<< 6) }
          prot.lines := t.node.prot.lines } ∧
        t.node.countedOnce .encoderLost s.node ∧
        (s.node.flagsAgree ∨ s.node.len.lostFlag = false → t.node.noticed Notice.encoderLost = true)) ∧
    (s.node.bus.participation ≠ .unconfigured → s.node.line.view.moving = true →
      s.node.len.stalled = false → s.node.config.fallback ≠ 0 → s.node.quiet →
      s.node.len.source = .derived →
      ∃ t, exec .stall s = .next t ∧ t.pending = s.pending ∧
        t.node.upToReports { s.node with
          len.stalled := true
          len.stallTimer := t.node.len.stallTimer
          len.lostFlag := true } ∧
        t.node.countedOnce .encoderLost s.node ∧
        (s.node.flagsAgree ∨ s.node.len.lostFlag = false → t.node.noticed Notice.encoderLost = true)) ∧
    (s.node.onLine = true → s.node.line.view.moving = true →
      s.node.len.stalled = false → s.node.config.fallback = 0 → s.node.quiet →
      ∃ t, exec .stall s = .next t ∧ t.pending = s.pending ∧
        t.node.len.stalled = true ∧ t.node.len.lostFlag = true ∧
        t.node.len.source = s.node.len.source ∧ t.node.len.tracking = s.node.len.tracking ∧
        t.node.bus.participation = .withdrawing ∧ t.node.line.view = .trip ∧
        t.node.line.number = evSucc s.node.line.number ∧
        t.node.countedOnce .encoderLost s.node ∧
        (s.node.flagsAgree ∨ s.node.len.lostFlag = false → t.node.noticed Notice.encoderLost = true))

/-- A derived advance adds the reference speed to the remainder and advances by the whole hundreds; with
the reference absent it makes none (R11); in ENCODER there is no such event (log 8). A speed interval
ends: speed is ten times its sum, held at 65,535, and the sum begins again at 0 (R6). REFERENCE_ABSENT
makes the reference speed in force absent when none is usable, whatever its timer reads (R10, log 3),
and does nothing while one is (log 8). RETURN_TO_ENCODER is refused while stalled, IGNORED in ENCODER,
and in DERIVED makes the source ENCODER and the remainder 0 (R14). -/
def Obligations.DerivedLengthSpeedAndReturn : Prop :=
  (∀ s : State,
      (s.node.len.source = .encoder → exec .derivedAdvance s = .next s) ∧
      (s.node.bus.participation ≠ .unconfigured → s.node.len.source = .derived →
        s.node.len.reference = none → s.node.quiet →
        ∃ t, exec .derivedAdvance s = .next t ∧
          t = { s with node.len.derivedPhase := t.node.len.derivedPhase }) ∧
      (∀ v, s.node.bus.participation ≠ .unconfigured → s.node.len.source = .derived →
        s.node.len.reference = some v → s.node.len.tracking ≤ 4294967295 →
        s.node.len.speedSum ≤ 4294967295 →
        ∃ t, exec .derivedAdvance s = .next t ∧ t.pending = s.pending ∧
          t.node.len.remainder = (s.node.len.remainder + v) % 100 ∧
          t.node.len.tracking =
            min 4294967295 (s.node.len.tracking + (s.node.len.remainder + v) / 100) ∧
          t.node.len.speedSum =
            min 4294967295 (s.node.len.speedSum + (t.node.len.tracking - s.node.len.tracking)) ∧
          t.node.len.fraction = s.node.len.fraction ∧ t.node.len.debt = s.node.len.debt)) ∧
  ((∀ s : State, s.node.bus.participation ≠ .unconfigured →
      (∃ t, exec .speedIntervalEnd s = .next t ∧ t = { s with
        node.len.speed := min 65535 (10 * s.node.len.speedSum)
        node.len.speedSum := 0
        node.len.speedPhase := t.node.len.speedPhase }) ∧
      (s.node.usableSpeed = none → exec .referenceAbsent s = .next { s with
        node.len.reference := none
        node.len.absenceTimer := 2000 }) ∧
      (s.node.usableSpeed ≠ none → exec .referenceAbsent s = .next s)) ∧
    (∀ s : State, s.node.bus.participation ≠ .unconfigured →
      (s.node.len.stalled = true → exec (.returnToEncoder []) s = .next
        { s with node.port.response := some (responseBytes Result.refusedState 0 []) }) ∧
      (s.node.len.stalled = false → s.node.len.source = .encoder →
        exec (.returnToEncoder []) s = .next
          { s with node.port.response := some (responseBytes Result.ignored 0 []) }) ∧
      (s.node.len.stalled = false → s.node.len.source = .derived → s.node.quiet →
        ∃ t, exec (.returnToEncoder []) s = .next t ∧ t.pending = s.pending ∧
          t.node.upToReports { s.node with
            len.source := .encoder
            len.remainder := 0
            prot.lines := t.node.prot.lines } ∧
          t.node.linesFollow ∧ t.node.answers Result.done 0 [])))

/-- ANNOUNCE_STOP in ACTIVE while the view is CREEP or RUN: the number's successor and STANDSTILL are
adopted, the announcement kept, a STOP frame queued, a STOP mark opened and the standstill timer
started; otherwise it is refused with REFUSED_STATE (R49, R52, R87, R91, R92, R107). ANNOUNCE_TRIP in
ACTIVE while the view is not TRIP: the number's successor and TRIP are adopted, the TRIP-unacknowledged
flag set, the announcement kept, a TRIP frame queued and a TRIP mark opened; otherwise it is refused
with REFUSED_STATE (R52, R87, R91, R93). The mark opened takes the place of an open STOP or TRIP mark,
stands behind the others as the newest, and evicts the oldest of eight, with MARK_EVICTED (R49, R57). -/
def Obligations.AnnouncementsAreAdopted : Prop :=
  (∀ (args : List Byte) (s : State), args.length = 1 →
      s.node.bus.participation ≠ .unconfigured →
      (s.node.active = false ∨ s.node.line.view.moving = false →
        exec (.announceStop args) s = .next
          { s with node.port.response := some (responseBytes Result.refusedState 0 []) }) ∧
      (s.node.active = true → s.node.line.view.moving = true → s.node.quiet →
        s.node.bus.queue.length < 16 →
        let number := evSucc s.node.line.number
        let older := s.node.marks.table.filter fun m => decide (m.kind ≠ .stop ∧ m.kind ≠ .trip)
        let payload : AnnouncePayload :=
          { number := number, source := .localRequest, detail := fieldAt args 0 1 }
        let claim := Claim.span s.node.len.tracking s.node.config.spanStart s.node.config.spanEnd
        let entry : MarkEntry :=
          { kind := .stop, id := number, station := s.node.config.station, offset := 0 }
        let mark : SpanMark :=
          { kind := .stop, id := number, countdown := .held, opening := s.node.len.tracking
            frontier :=
              match (s.node.window.reached claim).getLast? with
              | some (_, b) => b.first
              | none => 0 }
        ∃ t, exec (.announceStop args) s = .next t ∧ t.pending = s.pending ∧
          t.node.upToReports { s.node with
            line.view := .standstill
            line.number := number
            line.proposalView := none
            line.lastAnnouncement := some
              { trip := false, sender := s.node.config.station, number := number,
                source := .localRequest, detail := fieldAt args 0 1 }
            marks.table := (if 8 ≤ older.length then older.tail else older) ++ [mark]
            window := s.node.window.write claim fun _ b => offerEntry entry b
            bus.queue := s.node.bus.queue ++ [QueuedFrame.fresh (.stop payload) false]
            prot.timer := 0
            prot.phase := 0
            prot.running := true
            prot.lines := t.node.prot.lines } ∧
          (8 ≤ older.length → t.node.countedOnce .markEvicted s.node) ∧
          t.node.noticed Notice.viewChanged = true ∧
          t.node.answers Result.done 0 (be 2 number))) ∧
  (∀ (args : List Byte) (s : State), args.length = 1 →
      s.node.bus.participation ≠ .unconfigured →
      (s.node.active = false ∨ s.node.line.view = .trip →
        exec (.announceTrip args) s = .next
          { s with node.port.response := some (responseBytes Result.refusedState 0 []) }) ∧
      (s.node.active = true → s.node.line.view ≠ .trip → s.node.quiet →
        s.node.bus.queue.length < 16 →
        let number := evSucc s.node.line.number
        let older := s.node.marks.table.filter fun m => decide (m.kind ≠ .stop ∧ m.kind ≠ .trip)
        let payload : AnnouncePayload :=
          { number := number, source := .localRequest, detail := fieldAt args 0 1 }
        let claim := Claim.span s.node.len.tracking s.node.config.spanStart s.node.config.spanEnd
        let entry : MarkEntry :=
          { kind := .trip, id := number, station := s.node.config.station, offset := 0 }
        let mark : SpanMark :=
          { kind := .trip, id := number, countdown := .held, opening := s.node.len.tracking
            frontier :=
              match (s.node.window.reached claim).getLast? with
              | some (_, b) => b.first
              | none => 0 }
        ∃ t, exec (.announceTrip args) s = .next t ∧ t.pending = s.pending ∧
          t.node.upToReports { s.node with
            line.view := .trip
            line.number := number
            line.proposalView := none
            line.tripUnack := true
            line.lastAnnouncement := some
              { trip := true, sender := s.node.config.station, number := number,
                source := .localRequest, detail := fieldAt args 0 1 }
            marks.table := (if 8 ≤ older.length then older.tail else older) ++ [mark]
            window := s.node.window.write claim fun _ b => offerEntry entry b
            bus.queue := s.node.bus.queue ++ [QueuedFrame.fresh (.trip payload) false]
            prot := t.node.prot } ∧
          (s.node.line.view ≠ .standstill → t.node.prot.timer = 0 ∧ t.node.prot.running = true) ∧
          (s.node.line.view = .standstill → t.node.prot.timer = s.node.prot.timer ∧
            t.node.prot.running = s.node.prot.running) ∧
          (8 ≤ older.length → t.node.countedOnce .markEvicted s.node) ∧
          t.node.noticed Notice.viewChanged = true ∧
          t.node.answers Result.done 0 (be 2 number)))

/-- SET_HOLD, CLEAR_HOLD and ACK_TRIP set and clear their flags with DONE, are IGNORED when the flag
already stands so, and change nothing else (R104, R105); a SET_HOLD while a proposal of the station is
open ends it DENIED for LOCAL_HOLD (R100). -/
def Obligations.HoldAndAcknowledge : Prop :=
  ∀ s : State, s.node.bus.participation ≠ .unconfigured →
    let ignored : Host.Outcome State Fault Refusal :=
      .next { s with node.port.response := some (responseBytes Result.ignored 0 []) }
    (s.node.line.hold = true → exec (.setHold []) s = ignored) ∧
    (s.node.line.hold = false → s.node.quiet → exec (.setHold []) s = .next { s with
      node.line.hold := true
      node.port.response := some (responseBytes Result.done 0 []) }) ∧
    (∀ o, s.node.line.hold = false → s.node.calm → s.node.linesFollow → s.node.line.own = some o →
      s.node.holdReasons o.target = [] →
      ∃ t, exec (.setHold []) s = .next t ∧ t.node.line.hold = true ∧ t.node.line.own = none ∧
        t.node.line.lastOutcome = some
          { id := o.id, outcome := .denied .localHold s.node.config.station }) ∧
    (s.node.line.hold = true → exec (.clearHold []) s = .next { s with
      node.line.hold := false
      node.port.response := some (responseBytes Result.done 0 []) }) ∧
    (s.node.line.hold = false → exec (.clearHold []) s = ignored) ∧
    (s.node.line.tripUnack = true → exec (.ackTrip []) s = .next { s with
      node.line.tripUnack := false
      node.port.response := some (responseBytes Result.done 0 []) }) ∧
    (s.node.line.tripUnack = false → exec (.ackTrip []) s = ignored)

/-- PROPOSE refuses in the order of R96: without the start right or outside ACTIVE REFUSED_STATE; while
an own proposal, an own ENACT or a proposal view is open REFUSED_BUSY; a target that is no legal move
REFUSED_ARGUMENT; an own hold reason REFUSED_STATE with the first reason. Accepted, it makes the own
proposal QUEUED with the station and the proposal count as its id, advances the count, queues its
PROPOSE and answers id and base; nothing else changes. The legal moves are those of Table 5-3. The hold
reasons, in the order of Table 5-4: TRIP_UNACKNOWLEDGED for STANDSTILL alone; LOCAL; LENGTH while the
encoder is stalled without fallback, or the source is DERIVED without a usable reference (R12); ACTION
while a line with the holds-start option is asserted (R117). -/
def Obligations.ProposeRefusesOrQueues : Prop :=
  (∀ (args : List Byte) (s : State), args.length = 1 →
    s.node.bus.participation ≠ .unconfigured →
    let n := s.node
    let answer (result field : Nat) (data : List Byte) : Host.Outcome State Fault Refusal :=
      .next { s with node.port.response := some (responseBytes result field data) }
    (n.config.startRight = 0 ∨ n.active = false →
      exec (.propose args) s = answer Result.refusedState 0 []) ∧
    (n.config.startRight ≠ 0 → n.active = true →
      ((n.line.own ≠ none ∨ n.line.enact ≠ none ∨ n.line.proposalView ≠ none) →
        exec (.propose args) s = answer Result.refusedBusy 0 []) ∧
      (n.line.own = none → n.line.enact = none → n.line.proposalView = none →
        ((∀ v, View.ofCode? (fieldAt args 0 1) = some v → legalMove n.line.view v = false) →
          exec (.propose args) s = answer Result.refusedArgument 1 []) ∧
        (∀ v r more, View.ofCode? (fieldAt args 0 1) = some v → legalMove n.line.view v = true →
          n.holdReasons v = r :: more →
          exec (.propose args) s = answer Result.refusedState 0 (be 1 1 ++ be 1 r.code))))) ∧
  (∀ (args : List Byte) (s : State) (v : View), args.length = 1 →
    s.node.config.startRight ≠ 0 → s.node.active = true → s.node.quiet →
    s.node.line.enact = none → s.node.line.proposalView = none →
    View.ofCode? (fieldAt args 0 1) = some v → legalMove s.node.line.view v = true →
    s.node.holdReasons v = [] → s.node.bus.queue.length < 16 →
    let id : ProposalId :=
      { station := s.node.config.station, count := s.node.line.proposalCount }
    exec (.propose args) s = .next { s with
      node.line.own := some { id := id, base := s.node.line.number, target := v, phase := .queued }
      node.line.proposalCount := (s.node.line.proposalCount + 1) % 256
      node.bus.queue := s.node.bus.queue ++ [QueuedFrame.fresh
        (.propose { id := id, base := s.node.line.number, target := v }) false]
      node.port.response :=
        some (responseBytes Result.done 0 (be 1 id.station ++ be 1 id.count ++ be 2 s.node.line.number)) }) ∧
  (∀ (n : Node) (v : View),
    let unusable := ∀ st, n.roster.reference = some st → st = n.config.station ∨
      ∀ e, n.roster.entry? st = some e → e.present = false ∨ e.speed = none
    (.tripUnacknowledged ∈ n.holdReasons v ↔ v = .standstill ∧ n.line.tripUnack = true) ∧
    (.localHold ∈ n.holdReasons v ↔ n.line.hold = true) ∧
    (.length ∈ n.holdReasons v ↔ (n.len.stalled = true ∧ n.config.fallback = 0) ∨
      (n.len.source = .derived ∧ unusable)) ∧
    (.action ∈ n.holdReasons v ↔ ∃ i ≤ 3,
      (n.config.lines.get i).holdsStart ≠ 0 ∧ (n.prot.lines.get i).asserted = true) ∧
    (n.holdReasons v).Sublist [.tripUnacknowledged, .localHold, .length, .action]) ∧
  (∀ view target : View, legalMove view target = true ↔
    (view, target) ∈ [(View.standstill, View.creep), (.standstill, .run), (.creep, .run), (.run, .creep),
      (.trip, .standstill)])

/-- A STATUS, STOP, TRIP or ENACT of another station brings a pair, judged by Table 5-2: adopted in
UNKNOWN; in TRIP when newer and itself TRIP or an ENACT to STANDSTILL; in other views when newer, or of
equal number and lower rank. A STOP or TRIP adopted becomes the last announcement. In TRIP a newer pair
not adopted makes an ACTIVE station announce a RELAY TRIP one newer. Otherwise view, number and last
announcement stay (R86 to R91). A change of number closes the proposal view, as an ENACT of its id does,
and ends an own proposal, whose own hold reasons do not hold, ABANDONED, its PROPOSE withdrawn; else
both stay, the view by the model's choice also at an adoption that keeps the number (log 47; R99, R101).
Event numbers are compared by forward distance, 1 to 32,767 (R86). A frame that makes a lower-numbered
ORIGIN PRESENT takes an ORIGIN out of service first (R128), from JOINING with the view of R89; that case
is in ConflictsAreRecorded. -/
def Obligations.FramesAdoptPairs : Prop :=
  (∀ (c : Instr) (sender number : Nat) (view : View) (clears : Bool) (ann : Option Announcement)
      (f : Frame) (s : State), receivedFrame c = some (sender, f) →
      framePair sender f = some (number, view, clears, ann) →
      stationOk sender = true → frameOk f = true → s.node.receiving = true →
      sender ≠ s.node.config.station → s.node.calm →
      let calmCreel := s.node.isOrigin = false ∨ s.node.config.station < sender ∨ s.node.creel = true ∨
        ((∀ p, f = .status p → p.descriptor.role ≠ .origin) ∧
          ∀ e d, s.node.roster.entry? sender = some e → e.descriptor = some d → d.role ≠ .origin)
      (s.node.bus.participation ≠ .joining ∨ calmCreel) →
      let own := s.node.line
      let newer := evNewer number own.number = true
      let clearing := view = .trip ∨ clears = true
      let adopted := own.view = .unknown ∨ (own.view = .trip ∧ newer ∧ clearing) ∨
        (own.view ≠ .unknown ∧ own.view ≠ .trip ∧
          (newer ∨ (number = own.number ∧ view.rank < own.view.rank)))
      let relayed := own.view = .trip ∧ newer ∧ ¬clearing ∧ s.node.active = true
      ∃ t, exec c s = .next t ∧ t.pending = s.pending ∧
        (adopted → t.node.line.view = view ∧ t.node.line.number = number ∧
          t.node.line.lastAnnouncement =
            match ann with
            | some a => some a
            | none => own.lastAnnouncement) ∧
        (relayed → calmCreel →
          t.node.line.view = .trip ∧ t.node.line.number = evSucc number ∧
          t.node.line.lastAnnouncement = some
            { trip := true, sender := s.node.config.station, number := evSucc number,
              source := .relay, detail := sender }) ∧
        (¬adopted → ¬relayed → t.node.line.view = own.view ∧ t.node.line.number = own.number ∧
          t.node.line.lastAnnouncement = own.lastAnnouncement) ∧
        (let renumbered := (adopted ∧ number ≠ own.number) ∨ (relayed ∧ calmCreel)
         let closed := ∃ p v, f = .enact p ∧ own.proposalView = some v ∧ v.id = p.id
         (renumbered ∨ closed → t.node.line.proposalView = none) ∧
         (¬renumbered → ¬relayed → ¬closed → t.node.line.proposalView = own.proposalView) ∧
         (∀ o, own.own = some o → s.node.len.source = .encoder → calmCreel → s.node.linesFollow →
           s.node.holdReasons o.target = [] →
           (renumbered →
             t.node.line.own = none ∧
             t.node.line.lastOutcome = some { id := o.id, outcome := .abandoned } ∧
             t.node.noticed Notice.proposalResult = true ∧
             ∀ q ∈ t.node.bus.queue, q.isPropose = true → q.inTransmission = true ∧ q.withdrawn = true) ∧
           (¬adopted → ¬relayed →
             t.node.line.own = some o ∧ t.node.line.lastOutcome = own.lastOutcome)))) ∧
  (∀ a b : Nat, a ≤ 65535 → b ≤ 65535 →
    let forward := if b ≤ a then a - b else a + 65536 - b
    (evSucc a = if a = 65535 then 0 else a + 1) ∧
    (evNewer a b = true ↔ 1 ≤ forward ∧ forward ≤ 32767))

/-- A PROPOSE of another station in ACTIVE opens the proposal view and is answered: HOLD with STALE when
its base is not the number or its target no legal move, HOLD with the first own hold reason, else
ASSENT; while a proposal view is open it is answered HOLD with BUSY and the view stays (R98). With an
own proposal VOTING it is answered HOLD with BUSY; an own one that is QUEUED ends ABANDONED, its PROPOSE
withdrawn, and the frame is then taken as without it (R97, R141). Outside ACTIVE it opens the view and
is not answered. The frame may bring its sender back to PRESENT, with the order of the two open (log 4):
the sender is not a SILENT lower-numbered entry of an ORIGIN, and while DERIVED it is PRESENT already.
-/
def Obligations.ProposeFrameIsAnswered : Prop :=
  (∀ (sender : Nat) (p : ProposePayload) (s : State), stationOk sender = true →
      frameOk (.propose p) = true → sender ≠ s.node.config.station → s.node.active = true →
      (∀ e, s.node.roster.entry? sender = some e → e.present = false →
        s.node.isOrigin = false ∨ s.node.config.station < sender) →
      (s.node.len.source = .encoder ∨ (s.node.roster.reference = s.node.chooseReference ∧
        ∃ e, s.node.roster.entry? sender = some e ∧ e.present = true)) →
      s.node.quiet →
      s.node.bus.queue.length ≤ 14 →
      ∃ t, exec (.receivePropose sender p) s = .next t ∧ t.pending = s.pending ∧
        t.node.line.view = s.node.line.view ∧ t.node.line.number = s.node.line.number ∧
        (∀ v, s.node.line.proposalView = some v → t.node.line.proposalView = some v ∧
          QueuedFrame.fresh (.hold { id := p.id, reason := .busy }) false ∈ t.node.bus.queue) ∧
        (s.node.line.proposalView = none →
          t.node.line.proposalView =
            some { id := p.id, base := p.base, target := p.target, timer := 0 } ∧
          ((p.base ≠ s.node.line.number ∨ legalMove s.node.line.view p.target = false) →
            QueuedFrame.fresh (.hold { id := p.id, reason := .stale }) false ∈ t.node.bus.queue) ∧
          (p.base = s.node.line.number → legalMove s.node.line.view p.target = true →
            (∀ r more, s.node.holdReasons p.target = r :: more →
              QueuedFrame.fresh (.hold { id := p.id, reason := r }) false ∈ t.node.bus.queue) ∧
            (s.node.holdReasons p.target = [] →
              QueuedFrame.fresh (.assent p.id) false ∈ t.node.bus.queue)))) ∧
  (∀ (sender : Nat) (p : ProposePayload) (s : State) (o : OwnProposal), stationOk sender = true →
      frameOk (.propose p) = true → sender ≠ s.node.config.station → s.node.active = true →
      (∀ e, s.node.roster.entry? sender = some e → e.present = false →
        s.node.isOrigin = false ∨ s.node.config.station < sender) →
      (s.node.len.source = .encoder ∨ (s.node.roster.reference = s.node.chooseReference ∧
        ∃ e, s.node.roster.entry? sender = some e ∧ e.present = true)) →
      s.node.calm → s.node.linesFollow → s.node.line.own = some o → s.node.holdReasons o.target = [] →
      s.node.bus.queue.length ≤ 14 →
      ∃ t, exec (.receivePropose sender p) s = .next t ∧ t.pending = s.pending ∧
        t.node.line.view = s.node.line.view ∧ t.node.line.number = s.node.line.number ∧
        (o.phase ≠ .queued → t.node.line.own = some o ∧
          t.node.line.proposalView = s.node.line.proposalView ∧
          QueuedFrame.fresh (.hold { id := p.id, reason := .busy }) false ∈ t.node.bus.queue) ∧
        (o.phase = .queued →
          t.node.line.own = none ∧
          t.node.line.lastOutcome = some { id := o.id, outcome := .abandoned } ∧
          (∀ q ∈ t.node.bus.queue, q.isPropose = true → q.inTransmission = true ∧ q.withdrawn = true) ∧
          (s.node.line.proposalView = none →
            t.node.line.proposalView =
              some { id := p.id, base := p.base, target := p.target, timer := 0 } ∧
            ((p.base ≠ s.node.line.number ∨ legalMove s.node.line.view p.target = false) →
              QueuedFrame.fresh (.hold { id := p.id, reason := .stale }) false ∈ t.node.bus.queue) ∧
            (p.base = s.node.line.number → legalMove s.node.line.view p.target = true →
              (∀ r more, s.node.holdReasons p.target = r :: more →
                QueuedFrame.fresh (.hold { id := p.id, reason := r }) false ∈ t.node.bus.queue) ∧
              (s.node.holdReasons p.target = [] →
                QueuedFrame.fresh (.assent p.id) false ∈ t.node.bus.queue))))) ∧
  (∀ (sender : Nat) (p : ProposePayload) (s : State), stationOk sender = true →
      frameOk (.propose p) = true → sender ≠ s.node.config.station → s.node.receiving = true → s.node.active = false →
      (∀ e, s.node.roster.entry? sender = some e → e.present = false →
        s.node.isOrigin = false ∨ s.node.config.station < sender) →
      (s.node.len.source = .encoder ∨ (s.node.roster.reference = s.node.chooseReference ∧
        ∃ e, s.node.roster.entry? sender = some e ∧ e.present = true)) →
      s.node.quiet →
      ∃ t, exec (.receivePropose sender p) s = .next t ∧ t.pending = s.pending ∧
        t.node.line.view = s.node.line.view ∧ t.node.line.number = s.node.line.number ∧
        t.node.bus.queue = s.node.bus.queue ∧
        (s.node.line.proposalView ≠ none → t.node.line.proposalView = s.node.line.proposalView) ∧
        (s.node.line.proposalView = none → t.node.line.proposalView =
          some { id := p.id, base := p.base, target := p.target, timer := 0 }))

/-- While the own proposal is VOTING and no own hold reason holds: an elector's ASSENT is noted, and
with the last one the proposal ends ENACTED, its ENACT queued one newer than its base, whatever the vote
timer reads while VOTE_TIMEOUT has not been taken; a HOLD bearing its id ends it DENIED with the reason
and the sender (R100, R102, R103). The sender is as in ProposeFrameIsAnswered. VOTE_TIMEOUT, on its word
(log 3), ends an own proposal that is VOTING as TIMED_OUT and sets PROPOSAL_RESULT; it does nothing to
others (log 8). PROPOSAL_VIEW_TIMEOUT, on its word, closes the proposal view and changes nothing else
(R99, R100, R103). -/
def Obligations.VotesAndTimersDecideProposals : Prop :=
  (∀ (sender : Nat) (s : State) (id : ProposalId) (base : Nat) (target : View)
      (electorate assents : List Nat) (timer : Nat),
      s.node.line.own = some
        { id := id, base := base, target := target, phase := .voting electorate assents timer } →
      stationOk sender = true → proposalIdOk id = true → sender ≠ s.node.config.station →
      s.node.active = true →
      (∀ e, s.node.roster.entry? sender = some e → e.present = false →
        s.node.isOrigin = false ∨ s.node.config.station < sender) →
      (s.node.len.source = .encoder ∨ (s.node.roster.reference = s.node.chooseReference ∧
        ∃ e, s.node.roster.entry? sender = some e ∧ e.present = true)) →
      s.node.calm → s.node.linesFollow → s.node.holdReasons target = [] →
      s.node.bus.queue.length ≤ 14 →
      (sender ∈ electorate → sender ∉ assents →
        (∃ x ∈ electorate, x ≠ sender ∧ x ∉ assents) →
        ∃ t, exec (.receiveAssent sender id) s = .next t ∧ t.pending = s.pending ∧
          t.node.line.own = some
            { id := id, base := base, target := target,
              phase := .voting electorate (assents ++ [sender]) timer }) ∧
      (sender ∈ electorate → sender ∉ assents → (∀ x ∈ electorate, x = sender ∨ x ∈ assents) →
        ∃ t, exec (.receiveAssent sender id) s = .next t ∧ t.pending = s.pending ∧
          t.node.line.own = none ∧ t.node.line.enact = some { id := id, number := evSucc base } ∧
          t.node.line.lastOutcome = some { id := id, outcome := .enacted .pending } ∧
          QueuedFrame.fresh
            (.enact { id := id, base := base, number := evSucc base, target := target }) false ∈
            t.node.bus.queue) ∧
      (∀ reason, ∃ t, exec (.receiveHold sender { id := id, reason := reason }) s = .next t ∧
        t.pending = s.pending ∧ t.node.line.own = none ∧
        t.node.line.lastOutcome = some { id := id, outcome := .denied reason sender })) ∧
  (∀ s : State,
      (s.node.voting = false → exec .voteTimeout s = .next s) ∧
      (∀ o, s.node.line.own = some o → s.node.voting = true → s.node.faults.reported = [] →
        ∃ t, exec .voteTimeout s = .next t ∧ t.pending = s.pending ∧
          t.node.line =
            { s.node.line with own := none, lastOutcome := some { id := o.id, outcome := .timedOut } } ∧
          t.node.noticed Notice.proposalResult = true ∧ t.node.bus = s.node.bus ∧
          t.node.window = s.node.window ∧ t.node.len = s.node.len) ∧
      exec .proposalViewTimeout s = .next { s with node.line.proposalView := none })

/-- STANDSTILL_SECOND adds a second to the running standstill timer, held at 65,535; the second that
brings it to dwell limit 2 sets OVERDRY on the records in the station's span; a stopped timer has no
such event (log 8), and a running one has it on the word of the command (log 3; R107, R111). A change of
view from STANDSTILL or TRIP to CREEP or RUN adds the standstill timer's seconds to the dwell of every
record, held at 65,535, and stops the timer at 0; a change to a standing view from another starts it
from 0; one between standing views leaves it; one to UNKNOWN stops it without dwell (R107, R108). An
ENACT received in ACTIVE that moves a standing line does so, and starts the countdowns of the held marks
(R53). -/
def Obligations.StandstillCountsAndEndsInDwell : Prop :=
  (∀ s : State,
      (s.node.prot.running = false → exec .standstillSecond s = .next s) ∧
      (s.node.prot.running = true → s.node.quiet →
        let timer := min 65535 (s.node.prot.timer + 1)
        let span := Claim.span s.node.len.tracking s.node.config.spanStart s.node.config.spanEnd
        ∃ t, exec .standstillSecond s = .next t ∧ t.pending = s.pending ∧
          t.node.upToReports { s.node with
            prot.timer := timer
            prot.phase := 0
            prot.lines := t.node.prot.lines
            window := t.node.window } ∧
          (s.node.prot.timer < s.node.config.dwell2 ∧ s.node.config.dwell2 ≤ timer →
            t.node.window = s.node.window.write span fun _ b =>
              { b with flags := b.flags ||| (1#16 <<< 7) }) ∧
          (¬(s.node.prot.timer < s.node.config.dwell2 ∧ s.node.config.dwell2 ≤ timer) →
            t.node.window = s.node.window) ∧
          t.node.linesFollow)) ∧
  ((∀ (n : Node) (before after : View),
      let m := n.timerOnView before after
      let stopped := { n.prot with timer := 0, phase := 0, running := false }
      (after = .unknown → m = { n with prot := stopped }) ∧
      (before.standing = true → after.standing = true → m = n) ∧
      (before.standing = false → after.standing = true →
        m = { n with prot := { n.prot with timer := 0, phase := 0, running := true } }) ∧
      (before.standing = false → after.moving = true → m = n) ∧
      (before.standing = true → after.moving = true → n.prot.timer ≠ 0 →
        m = { n with
          prot := stopped
          window := n.window.write Claim.whole fun _ b =>
            { b with dwell := min 65535 (b.dwell + n.prot.timer) } }) ∧
      (before.standing = true → after.moving = true → n.prot.timer = 0 → m = { n with prot := stopped })) ∧
    (∀ (sender : Nat) (p : EnactPayload) (s : State), stationOk sender = true →
      frameOk (.enact p) = true → sender ≠ s.node.config.station → s.node.active = true → s.node.quiet →
      s.node.line.view = .standstill → p.target.moving = true →
      evNewer p.number s.node.line.number = true → s.node.prot.timer ≠ 0 →
      ∃ t, exec (.receiveEnact sender p) s = .next t ∧ t.pending = s.pending ∧
        t.node.line.view = p.target ∧ t.node.line.number = p.number ∧
        t.node.prot.timer = 0 ∧ t.node.prot.running = false ∧
        t.node.window = s.node.window.write Claim.whole (fun _ b =>
          { b with dwell := min 65535 (b.dwell + s.node.prot.timer) }) ∧
        t.node.marks.table = s.node.marks.table.map (fun m =>
          if (m.kind = .stop ∨ m.kind = .trip) ∧ m.countdown = .held then
            { m with countdown :=
                .running (s.node.config.spanEnd - s.node.config.spanStart + s.node.config.markTail) }
          else m)))

/-- A good frame of another station updates its sender's entry, made if the Roster has room: heard now,
PRESENT unless the frame is a TRIP of source FAULT; a STATUS brings descriptor, view, number, speed and
newest number, a FAULT the last fault; other stations' entries stay, and the highest number learned
follows the frame's newest number (R123, R125, R133). A PRESENT entry that falls silent stays with its
presence SILENT and its count at 1,000 on the word of the event (log 3), the others as they were; when
it was the choice of upstream neighbour of a PATH or TERMINAL station, NEIGHBOUR_LOST is recorded. A
station without a PRESENT entry has no such event (log 8; R124, R130). -/
def Obligations.RosterEntriesFollowTheirStations : Prop :=
  (∀ (c : Instr) (sender : Nat) (f : Frame) (s : State), receivedFrame c = some (sender, f) →
      stationOk sender = true → frameOk f = true → s.node.receiving = true →
      sender ≠ s.node.config.station →
      (s.node.roster.entry? sender ≠ none ∨ s.node.roster.others.length < 23) →
      ∃ t e, exec c s = .next t ∧ t.pending = s.pending ∧
        t.node.roster.entry? sender = some e ∧ e.station = sender ∧ e.age = 0 ∧
        (e.present = false ↔ ∃ p, f = .trip p ∧ p.source = .fault) ∧
        (∀ p, f = .status p → e.descriptor = some p.descriptor ∧
          e.lastView = some (p.view, p.number) ∧ e.speed = some p.speed ∧ e.newest = p.newest) ∧
        (∀ p, f = .fault p → e.lastFault = some p) ∧
        (∀ old, s.node.roster.entry? sender = some old → (∀ p, f ≠ .status p) →
          e.descriptor = old.descriptor ∧ e.lastView = old.lastView ∧ e.speed = old.speed ∧
          e.newest = old.newest ∧ ((∀ p, f ≠ .fault p) → e.lastFault = old.lastFault)) ∧
        (∀ other, other ≠ sender → t.node.roster.entry? other = s.node.roster.entry? other) ∧
        t.node.roster.highest = learn s.node.roster.highest (Frame.newestNumber f) ∧
        t.node.config = s.node.config) ∧
  (∀ (station : Nat) (s : State), s.node.quiet →
      ((∀ e, s.node.roster.entry? station = some e → e.present = false) →
        exec (.entrySilent station) s = .next s) ∧
      (∀ e, s.node.roster.entry? station = some e → e.present = true →
        ∃ t, exec (.entrySilent station) s = .next t ∧ t.pending = s.pending ∧
          t.node.roster.entry? station = some { e with present := false, age := 1000 } ∧
          (∀ other, other ≠ station →
            t.node.roster.entry? other = s.node.roster.entry? other) ∧
          t.node.window = s.node.window ∧ t.node.line = s.node.line ∧
          t.node.len.tracking = s.node.len.tracking ∧
          (s.node.isOrigin = false → s.node.roster.upstream = some station →
            t.node.countedOnce .neighbourLost s.node)))

/-- The choice of upstream neighbour is none at the ORIGIN and in OFFLINE, the configured station in
FORCED, and in AUTO a PRESENT placed entry upstream of the station that no other such entry lies nearer
than, or none when there is none (R129). The choice of speed reference is the configured station in
FORCED, and in AUTO the lowest-numbered PRESENT TERMINAL, the station itself among them, or none (R131).
A change of neighbour puts it in force, with the gap lengthened by the reach and entry gap of each
station between, a tenth of that as bridge allowance, and NEIGHBOUR_CHANGED; the same choice changes
nothing (R68, R129). -/
def Obligations.RosterChoosesItsStations : Prop :=
  (∀ n : Node,
    let upstream (e : RosterEntry) : Prop :=
      e.present = true ∧ e.upstreamOf n.config.order n.config.station = true
    let free := n.bus.participation ≠ .offline ∧ n.isOrigin = false
    (¬free → n.chooseUpstream = none) ∧
    (free → n.config.neighbourMode = 1 → n.chooseUpstream = some n.config.forcedNeighbour) ∧
    (free → n.config.neighbourMode ≠ 1 →
      (n.chooseUpstream = none → ∀ e ∈ n.roster.others, ¬upstream e) ∧
      (∀ s, n.chooseUpstream = some s → ∃ e ∈ n.roster.others, e.station = s ∧ upstream e ∧
        ∀ x ∈ n.roster.others, upstream x →
          ∀ d, x.descriptor = some d → e.upstreamOf d.order x.station = false))) ∧
  (∀ n : Node,
    let terminal (s : Nat) : Prop :=
      (s = n.config.station ∧ n.isTerminal = true) ∨
      ∃ e ∈ n.roster.others, e.station = s ∧ e.present = true ∧
        ∃ d, e.descriptor = some d ∧ d.role = .terminal
    (n.config.referenceMode = 1 → n.chooseReference = some n.config.referenceStation) ∧
    (n.config.referenceMode ≠ 1 →
      (∀ s, n.chooseReference = some s → terminal s ∧ ∀ x, terminal x → s ≤ x) ∧
      (n.chooseReference = none → ∀ x, ¬terminal x))) ∧
  (∀ n : Node,
    let chosen := n.chooseUpstream
    let between : List RosterEntry :=
      match chosen.bind fun s => (n.roster.entry? s).bind fun e => e.descriptor.map fun d => (s, d) with
      | some (s, d) =>
        if n.config.neighbourMode = 1 then []
        else n.roster.others.filter fun e =>
          e.downstreamOf d.order s && e.upstreamOf n.config.order n.config.station
      | none => []
    let added := (between.map fun e =>
      match e.descriptor with
      | some d => d.reach + d.entryGap
      | none => 0).sum
    (chosen = n.roster.upstream → n.remakeUpstream = n) ∧
    (chosen ≠ n.roster.upstream → n.remakeUpstream = { n with
      roster.upstream := chosen
      handover.neighbour := chosen
      handover.gap := n.config.entryGap + added
      handover.allowance := added / 10
      handover.bridging := decide (between ≠ [])
      port.notices := n.port.notices ||| (1#16 <<< 10) }))

/-- A STATUS that gives another station the own order records ORDER_CONFLICT, and one that repeats it
records nothing (R127). At the ORIGIN a STATUS that makes a lower-numbered ORIGIN PRESENT records
CREEL_CONFLICT and takes the station from ACTIVE or JOINING to LISTEN; a station that enters JOINING
while the condition holds goes to LISTEN at once (R128; the fault first, log 25; the answer names
LISTEN, log 38). -/
def Obligations.ConflictsAreRecorded : Prop :=
  (∀ (sender : Nat) (p : StatusPayload) (s : State), stationOk sender = true →
    frameOk (.status p) = true → s.node.receiving = true → sender ≠ s.node.config.station →
    s.node.quiet → (s.node.roster.entry? sender ≠ none ∨ s.node.roster.others.length < 23) →
    p.descriptor.order = s.node.config.order →
    let before := s.node.roster.entry? sender
    let stood := ∃ e d, before = some e ∧ e.present = true ∧ e.descriptor = some d ∧
      d.order = s.node.config.order
    ∃ t, exec (.receiveStatus sender p) s = .next t ∧ t.pending = s.pending ∧
      (¬stood → t.node.countedOnce .orderConflict s.node) ∧
      (stood → t.node.faults.counts[FaultKind.orderConflict.index]? =
        s.node.faults.counts[FaultKind.orderConflict.index]?)) ∧
  (∀ (sender : Nat) (p : StatusPayload) (s : State), stationOk sender = true →
    frameOk (.status p) = true → s.node.inService = true → s.node.isOrigin = true →
    sender < s.node.config.station → s.node.quiet → s.node.creel = false →
    (s.node.roster.entry? sender ≠ none ∨ s.node.roster.others.length < 23) →
    p.descriptor.role = .origin →
    ∃ t, exec (.receiveStatus sender p) s = .next t ∧ t.pending = s.pending ∧
      t.node.bus.participation = .listen ∧ t.node.bus.queue = [] ∧
      t.node.countedOnce .creelConflict s.node ∧ t.node.len.tracking = s.node.len.tracking) ∧
  (∀ s : State, (s.node.bus.participation = .listen ∨ s.node.bus.participation = .offline) →
    s.node.quiet → s.node.creel = true →
    ∃ t, exec (.setParticipation [2#8]) s = .next t ∧ t.pending = s.pending ∧
      t.node.bus.participation = .listen ∧ t.node.countedOnce .creelConflict s.node ∧
      t.node.answers Result.done 0 (be 1 3))

/-- SENSOR_MODE: a target that stands already, or is already requested, is IGNORED; during a transaction
a change is requested; a request is withdrawn by the other target; otherwise the mode changes, and in
AUTO the lowest due channel is polled; the answer gives mode and request. A target above 1 is refused
with field index 1 (R163). A poll timer's expiry restarts it and makes the channel due; in AUTO with no
transaction in progress and no change pending, the lowest due channel's transaction begins and it is due
no more. A channel that is not enabled has no such event (R158, log 8). -/
def Obligations.SensorModeAndPolling : Prop :=
  (∀ (args : List Byte) (s : State), args.length = 1 → s.node.bus.participation ≠ .unconfigured →
      let code := fieldAt args 0 1
      let sensor := s.node.sensor
      (1 < code → exec (.sensorMode args) s = .next
        { s with node.port.response := some (responseBytes Result.refusedArgument 1 []) }) ∧
      (∀ target : SensorMode, target.code = code →
        ((sensor.request = none ∧ sensor.mode = target ∨ sensor.request = some target) →
          exec (.sensorMode args) s = .next { s with
            node.port.response := some
              (responseBytes Result.ignored 0 (be 1 sensor.mode.code ++ be 1 (requestCode sensor.request))) }) ∧
        (sensor.request = none → sensor.mode ≠ target → sensor.transaction ≠ none →
          exec (.sensorMode args) s = .next { s with
            node.sensor.request := some target
            node.port.response := some
              (responseBytes Result.done 0 (be 1 sensor.mode.code ++ be 1 (code + 1))) }) ∧
        (sensor.request ≠ none → sensor.request ≠ some target → sensor.transaction ≠ none →
          exec (.sensorMode args) s = .next { s with
            node.sensor.request := none
            node.port.response := some (responseBytes Result.done 0 (be 1 sensor.mode.code ++ be 1 0)) }) ∧
        (sensor.request = none → sensor.mode ≠ target → sensor.transaction = none →
          ∃ t, exec (.sensorMode args) s = .next t ∧ t.node.sensor.mode = target ∧
            (target = .manual → t.node.sensor = { sensor with mode := .manual }) ∧
            (target = .auto → (∀ j ≤ 3, (sensor.channels.get j).due = false) →
              t.node.sensor = { sensor with mode := .auto }) ∧
            (∀ i ≤ 3, target = .auto → (sensor.channels.get i).due = true →
              (∀ j < i, (sensor.channels.get j).due = false) →
              let cfg := s.node.config.channels.get i
              t.node.sensor = { sensor with
                mode := .auto
                channels := sensor.channels.set i { sensor.channels.get i with due := false }
                transaction := some
                  { manual := false, select := i, command := cfg.command.take cfg.commandSize
                    replyCount := cfg.replySize } }) ∧
            t.node.answers Result.done 0 (be 1 code ++ be 1 0) ∧
            t = { s with node.sensor := t.node.sensor, node.port.response := t.node.port.response }))) ∧
  (∀ (ch : Nat) (s : State), s.node.bus.participation ≠ .unconfigured → ch ≤ 3 →
      let sensor := s.node.sensor
      let cfg := s.node.config.channels.get ch
      (cfg.enable = 0 → exec (.pollTimerExpiry ch) s = .next s) ∧
      (cfg.enable ≠ 0 →
        (sensor.mode = .manual ∨ sensor.request ≠ none ∨ sensor.transaction ≠ none) →
        exec (.pollTimerExpiry ch) s = .next { s with
          node.sensor.channels :=
            sensor.channels.set ch { sensor.channels.get ch with timer := 0, due := true } }) ∧
      (cfg.enable ≠ 0 → sensor.mode = .auto → sensor.request = none → sensor.transaction = none →
        (∀ j < ch, (sensor.channels.get j).due = false) →
        exec (.pollTimerExpiry ch) s = .next { s with
          node.sensor.channels :=
            sensor.channels.set ch { sensor.channels.get ch with timer := 0, due := false }
          node.sensor.transaction := some
            { manual := false, select := ch, command := cfg.command.take cfg.commandSize
              replyCount := cfg.replySize } }))

/-- SENSOR_TRANSACT refuses in the order of R164; otherwise it begins a manual transaction with its
select, command and reply count, empties the reply buffer, and answers DONE. SENSOR_READ during a manual
transaction is refused with REFUSED_BUSY, is IGNORED with an empty reply buffer, and otherwise answers
select, count and bytes, which the buffer keeps (R165). -/
def Obligations.ManualTransactions : Prop :=
  (∀ (args : List Byte) (s : State), 3 ≤ args.length → args.length ≤ 11 →
    s.node.bus.participation ≠ .unconfigured →
    let select := fieldAt args 0 1
    let commands := fieldAt args 1 1
    let replies := fieldAt args 2 1
    let sensor := s.node.sensor
    let answer (result field : Nat) : Host.Outcome State Fault Refusal :=
      .next { s with node.port.response := some (responseBytes result field []) }
    (sensor.mode = .auto ∨ sensor.request ≠ none →
      exec (.sensorTransact args) s = answer Result.refusedState 0) ∧
    (sensor.mode = .manual → sensor.request = none →
      (∀ t, sensor.transaction = some t → t.manual = true →
        exec (.sensorTransact args) s = answer Result.refusedBusy 0) ∧
      (sensor.transaction = none →
        (3 < select → exec (.sensorTransact args) s = answer Result.refusedArgument 1) ∧
        (select ≤ 3 → (commands = 0 ∨ 8 < commands) →
          exec (.sensorTransact args) s = answer Result.refusedArgument 2) ∧
        (select ≤ 3 → 1 ≤ commands → commands ≤ 8 → 8 < replies →
          exec (.sensorTransact args) s = answer Result.refusedArgument 3) ∧
        (select ≤ 3 → 1 ≤ commands → commands ≤ 8 → replies ≤ 8 → args.length ≠ 3 + commands →
          exec (.sensorTransact args) s = answer Result.refusedArgument 2) ∧
        (select ≤ 3 → 1 ≤ commands → commands ≤ 8 → replies ≤ 8 → args.length = 3 + commands →
          exec (.sensorTransact args) s = .next { s with
            node.sensor.outBuffer := args.drop 3
            node.sensor.reply := none
            node.sensor.transaction := some
              { manual := true, select := select, command := args.drop 3, replyCount := replies }
            node.port.response := some (responseBytes Result.done 0 []) })))) ∧
  (∀ s : State, s.node.bus.participation ≠ .unconfigured →
    (∀ t, s.node.sensor.transaction = some t → t.manual = true →
      exec (.sensorRead []) s = .next
        { s with node.port.response := some (responseBytes Result.refusedBusy 0 []) }) ∧
    ((∀ t, s.node.sensor.transaction = some t → t.manual = false) →
      (s.node.sensor.reply = none → exec (.sensorRead []) s = .next
        { s with node.port.response := some (responseBytes Result.ignored 0 (be 1 0)) }) ∧
      (∀ r, s.node.sensor.reply = some r → exec (.sensorRead []) s = .next
        { s with
          node.port.response := some
            (responseBytes Result.done 0 (be 1 r.select ++ be 1 r.bytes.length ++ r.bytes)) })))

/-- A manual transaction that completes stores its reply under its select and sets SENSOR_DONE (R165). A
reading with the status bit clear gives its channel the value, its limits judged, and is bound to the
records that cover the position, value and count in the reading of its quantity and the limit flag of
Table 9-3; one with the bit set touches no record, raises the count of SENSOR_INVALID, and of
SENSOR_FAILED at the third in a row (R160, R161). A mode change that was pending takes effect then, and
in AUTO the lowest due channel's transaction begins (R158, R163). -/
def Obligations.TransactionsComplete : Prop :=
  (∀ (ssdi : BitVec 64) (s : State) (select count : Nat) (command : List Byte),
    s.node.sensor.transaction =
      some { manual := true, select := select, command := command, replyCount := count } →
    s.node.quiet →
    let sensor := s.node.sensor
    let mode := sensor.request.getD sensor.mode
    let done := { sensor with
      transaction := none
      reply := some { select := select, bytes := replyBytes ssdi count }
      mode := mode
      request := none }
    let after (p : SensorPort) : Host.Outcome State Fault Refusal := .next { s with
      node.sensor := p
      node.port.notices := s.node.port.notices ||| (1#16 <<< Notice.sensorDone) }
    ((mode = .manual ∨ ∀ j ≤ 3, (sensor.channels.get j).due = false) →
      exec (.transactionComplete ssdi) s = after done) ∧
    (∀ i ≤ 3, mode = .auto → (sensor.channels.get i).due = true →
      (∀ j < i, (sensor.channels.get j).due = false) →
      let cfg := s.node.config.channels.get i
      exec (.transactionComplete ssdi) s = after { done with
        channels := sensor.channels.set i { sensor.channels.get i with due := false }
        transaction := some
          { manual := false, select := i, command := cfg.command.take cfg.commandSize
            replyCount := cfg.replySize } })) ∧
  (∀ (ssdi : BitVec 64) (s : State) (ch count : Nat) (command : List Byte), ch ≤ 3 →
    s.node.sensor.transaction =
      some { manual := false, select := ch, command := command, replyCount := count } →
    s.node.quiet →
    let sensor := s.node.sensor
    let mode := sensor.request.getD sensor.mode
    let reply := replyBytes ssdi count
    let cfg := s.node.config.channels.get ch
    let channel := sensor.channels.get ch
    let v := fieldAt reply cfg.valueOffset 2
    let bad := (reply.headD 0).msb
    let judged : Channel :=
      if bad then
        { channel with
          invalid := min 3 (channel.invalid + 1)
          failed := channel.failed || decide (channel.invalid = 2) }
      else
        { channel with
          invalid := 0
          failed := false
          last := some v
          out := decide (v < cfg.low) || decide (cfg.high < v)
          valid := min 65535 (channel.valid + 1) }
    let channels := sensor.channels.set ch judged
    let read (r : Option Reading) : Option Reading :=
      some { value := v, count := match r with | none => 1 | some o => min 65535 (o.count + 1) }
    let bound (b : Body) : Body :=
      match cfg.quantity with
      | 0 => { b with pickup := read b.pickup }
      | 1 => { b with moisture := read b.moisture }
      | _ => { b with tension := read b.tension }
    let limit : BitVec 16 :=
      if v < cfg.low then
        (match cfg.quantity with | 0 => 1#16 <<< 8 | 1 => 1#16 <<< 11 | _ => 0#16)
      else if cfg.high < v then
        (match cfg.quantity with | 0 => 1#16 <<< 9 | 1 => 1#16 <<< 10 | _ => 0#16)
      else 0#16
    ∃ t, exec (.transactionComplete ssdi) s = .next t ∧ t.pending = s.pending ∧
      t.node.upToReports { s.node with
        sensor := t.node.sensor
        window := if bad then s.node.window
          else s.node.window.write (Claim.point s.node.len.tracking cfg.position) fun _ b =>
            { bound b with flags := b.flags ||| limit }
        prot.lines := t.node.prot.lines } ∧
      t.node.linesFollow ∧
      ((mode = .manual ∨ ∀ j ≤ 3, (channels.get j).due = false) →
        t.node.sensor = { sensor with
          transaction := none, mode := mode, request := none, channels := channels }) ∧
      (∀ i ≤ 3, mode = .auto → (channels.get i).due = true → (∀ j < i, (channels.get j).due = false) →
        let next := s.node.config.channels.get i
        t.node.sensor = { sensor with
          mode := mode
          request := none
          channels := channels.set i { channels.get i with due := false }
          transaction := some
            { manual := false, select := i, command := next.command.take next.commandSize
              replyCount := next.replySize } }) ∧
      (bad = false → t.node.faults.counts = s.node.faults.counts) ∧
      (bad = true → t.node.countedOnce .sensorInvalid s.node ∧
        (channel.invalid = 2 → t.node.countedOnce .sensorFailed s.node)))

/-- JOIN_TIMER_EXPIRY in JOINING, on its word (log 3), makes the station ACTIVE: the STATUS period
begins, a STATUS of the view and window then standing is queued (log 18), an UNKNOWN view becomes
STANDSTILL with number 0, and the ORIGIN of an empty window opens its first record at the tracking
length, numbered after the highest number learned. In any other participation nothing happens (log 8;
R32, R89, R145, R147). STATUS_TIMER in ACTIVE restarts the period and queues a STATUS of the present
state as the newest frame, or in the place of one that waits, with a collision count of 0 (log 17);
otherwise it does nothing (log 8; R145). -/
def Obligations.ActiveReportsItsStatus : Prop :=
  (∀ s : State,
      (s.node.bus.participation ≠ .joining → exec .joinTimerExpiry s = .next s) ∧
      (s.node.bus.participation = .joining → s.node.quiet → s.node.bus.queue = [] →
        ∃ t, exec .joinTimerExpiry s = .next t ∧ t.pending = s.pending ∧
          t.node.bus.participation = .active ∧ t.node.bus.joinRunning = false ∧
          t.node.bus.statusRunning = true ∧ t.node.bus.statusTimer = 0 ∧
          t.node.noticed Notice.participationChanged = true ∧
          (∃ faults, FaultFrames faults ∧
            t.node.bus.queue = QueuedFrame.fresh t.node.statusFrame false :: faults) ∧
          (s.node.line.view = .unknown → t.node.line.view = .standstill ∧ t.node.line.number = 0) ∧
          (s.node.line.view ≠ .unknown → t.node.line = s.node.line) ∧
          (s.node.isOrigin = true → s.node.window = Window.empty →
            ∃ e, t.node.window = { closed := [], entering := some e } ∧
              e.head = s.node.len.tracking ∧ e.body.content = .filled ∧
              e.body.first =
                match s.node.roster.highest with
                | some h => segSucc h
                | none => 1) ∧
          t.node.config = s.node.config ∧ t.node.len.tracking = s.node.len.tracking ∧
          t.node.handover = s.node.handover ∧ t.node.roster = s.node.roster ∧
          t.node.sensor = s.node.sensor)) ∧
  (∀ s : State,
      (s.node.active = false → exec .statusTimer s = .next s) ∧
      (s.node.active = true → s.node.quiet →
        (∀ q ∈ s.node.bus.queue, q.isStatus = true → q.inTransmission = true) →
        s.node.bus.queue.length < 16 →
        exec .statusTimer s = .next { s with
          node.bus.statusTimer := 0
          node.bus.queue := s.node.bus.queue ++ [QueuedFrame.fresh (.status
            { view := s.node.line.view, number := s.node.line.number, speed := s.node.len.speed,
              newest := s.node.window.newest, descriptor := s.node.descriptor }) false] }) ∧
      (∀ before q after, s.node.active = true → s.node.quiet →
        s.node.bus.queue = before ++ q :: after → q.isStatus = true → q.inTransmission = false →
        (∀ x ∈ before ++ after, x.isStatus = true → x.inTransmission = true) →
        exec .statusTimer s = .next { s with
          node.bus.statusTimer := 0
          node.bus.queue := before ++ QueuedFrame.fresh s.node.statusFrame false :: after }))

/-- SET_PARTICIPATION: ACTIVE from LISTEN or OFFLINE enters JOINING with its timer running from 0;
LISTEN from ACTIVE or JOINING purges the queue and stops the timers; OFFLINE purges the queue, empties
the window, the open marks, the arrivals and the roster, and forgets the view. A move already made, or
one asked of WITHDRAWING, is IGNORED; another target is refused with field index 1, in WITHDRAWING too
(log 44). A change sets PARTICIPATION_CHANGED, and a line with the latch option that was asserted stays
asserted through OFFLINE (R119; R25, R48, R85, R101, R122, R141, R146 to R150); that its latch is set
for it, at LINE_JAM too, is the model's choice (log 36). LINE_JAM, on its word (log 3), in JOINING,
ACTIVE, LISTEN and WITHDRAWING takes the station OFFLINE, and the FATAL fault is then counted and makes
no record; in OFFLINE and UNCONFIGURED nothing happens (log 8; R144, R150, R184). -/
def Obligations.ParticipationFollowsItsTarget : Prop :=
  (∀ (args : List Byte) (s : State), args.length = 1 → s.node.bus.participation ≠ .unconfigured →
      let code := fieldAt args 0 1
      let p := s.node.bus.participation
      let ignored : Host.Outcome State Fault Refusal :=
        .next { s with node.port.response := some (responseBytes Result.ignored 0 []) }
      (code ≠ 2 → code ≠ 3 → code ≠ 5 → exec (.setParticipation args) s = .next
        { s with node.port.response := some (responseBytes Result.refusedArgument 1 []) }) ∧
      (code = 2 → (p = .joining ∨ p = .active ∨ p = .withdrawing) →
        exec (.setParticipation args) s = ignored) ∧
      (code = 3 → (p = .listen ∨ p = .offline ∨ p = .withdrawing) →
        exec (.setParticipation args) s = ignored) ∧
      (code = 5 → (p = .offline ∨ p = .withdrawing) → exec (.setParticipation args) s = ignored) ∧
      (code = 2 → (p = .listen ∨ p = .offline) → s.node.calm → s.node.creel = false →
        ∃ t, exec (.setParticipation args) s = .next t ∧ t.pending = s.pending ∧
          t.node.bus.participation = .joining ∧ t.node.bus.joinTimer = 0 ∧
          t.node.bus.joinRunning = true ∧ t.node.roster.highest = none ∧
          t.node.window = s.node.window ∧ t.node.marks = s.node.marks ∧
          t.node.len.tracking = s.node.len.tracking ∧ t.node.line.view = s.node.line.view ∧
          t.node.noticed Notice.participationChanged = true ∧
          t.node.answers Result.done 0 (be 1 1)) ∧
      (code = 3 → (p = .active ∨ p = .joining) → s.node.calm →
        ∃ t, exec (.setParticipation args) s = .next t ∧ t.pending = s.pending ∧
          t.node.bus.participation = .listen ∧ t.node.bus.queue = [] ∧ t.node.bus.lde = false ∧
          t.node.bus.joinRunning = false ∧ t.node.bus.statusRunning = false ∧
          t.node.line.own = none ∧ t.node.len.tracking = s.node.len.tracking ∧
          (p = .active → t.node.line.view = s.node.line.view ∧ t.node.window = s.node.window) ∧
          (p = .joining → s.node.line.view = .unknown →
            t.node.line.view = .standstill ∧ t.node.line.number = 0) ∧
          t.node.noticed Notice.participationChanged = true ∧
          t.node.answers Result.done 0 (be 1 3)) ∧
      (code = 5 → (p = .active ∨ p = .joining ∨ p = .listen) → s.node.calm →
        ∃ t, exec (.setParticipation args) s = .next t ∧ t.pending = s.pending ∧
          t.node.bus.participation = .offline ∧ t.node.bus.queue = [] ∧ t.node.bus.lde = false ∧
          t.node.bus.joinRunning = false ∧ t.node.bus.statusRunning = false ∧
          t.node.window = Window.empty ∧ t.node.marks.table = [] ∧
          t.node.handover.arrivals = [] ∧ t.node.roster.others = [] ∧
          t.node.line.view = .unknown ∧ t.node.line.number = 0 ∧ t.node.line.own = none ∧
          t.node.len.tracking = s.node.len.tracking ∧
          t.node.noticed Notice.participationChanged = true ∧
          (∀ i ≤ 3, (s.node.config.lines.get i).latch ≠ 0 → (s.node.prot.lines.get i).asserted = true →
            (t.node.prot.lines.get i).asserted = true ∧ (t.node.prot.lines.get i).latch = true) ∧
          t.node.answers Result.done 0 (be 1 5))) ∧
  (∀ s : State,
      (s.node.receiving = false → exec .lineJam s = .next s) ∧
      (s.node.receiving = true → s.node.faults.reported = [] →
        ∃ t, exec .lineJam s = .next t ∧ t.pending = s.pending ∧
          t.node.bus.participation = .offline ∧ t.node.bus.queue = [] ∧ t.node.bus.lde = false ∧
          t.node.window = Window.empty ∧ t.node.marks.table = [] ∧
          t.node.handover.arrivals = [] ∧ t.node.roster.others = [] ∧
          t.node.line.view = .unknown ∧ t.node.line.number = 0 ∧ t.node.line.own = none ∧
          t.node.len.tracking = s.node.len.tracking ∧
          t.node.faults.firstFatal = s.node.faults.firstFatal ∧
          t.node.noticed Notice.participationChanged = true ∧
          (∀ i ≤ 3, (s.node.config.lines.get i).latch ≠ 0 → (s.node.prot.lines.get i).asserted = true →
            (t.node.prot.lines.get i).asserted = true ∧ (t.node.prot.lines.get i).latch = true) ∧
          t.node.countedOnce .lineJam s.node))

/-- A frame that fails the receive checks is counted by its fault and otherwise touches no block but the
line's counts, which stand at 0 as the line has just become idle (R135, R137, R144; log 9); in OFFLINE
the counts alone are set. FRAME_CHECK is judged when the header is not whole or has a dominant stop bit
(log 37), or, with a length of at most 96, when a later stop bit is dominant, the bytes are not as many
as the length says, or the check differs; FRAME_MALFORMED when the length is above 96, or the check is
good and the bytes are those of no frame of 8.7 with its fields in their ranges (R137;
SentFrameIsReadBack). A good frame bearing the own number on a station that is on the line is FATAL: the
station withdraws, adopts the TRIP it announces, and keeps that frame alone in its queue (R94, R126,
R149, R184). -/
def Obligations.BadAndDuplicateFrames : Prop :=
  (∀ (bytes : List Byte) (badStop : Option Nat) (s : State),
    let idle := { s.node with
      bus.idleCount := 0
      bus.busyCount := 0
      bus.tap := { s.node.bus.tap with lrx := false, recessive := 10, heard := [] } }
    (s.node.bus.participation = .offline →
      exec (.frameDiscarded bytes badStop) s = .next { s with node := idle }) ∧
    (s.node.receiving = true → s.node.quiet →
      (judge bytes badStop = .checkFail →
        ∃ t, exec (.frameDiscarded bytes badStop) s = .next t ∧ t.pending = s.pending ∧
          t.node.upToReports idle ∧ t.node.countedOnce .frameCheck s.node) ∧
      (judge bytes badStop = .malformed →
        ∃ t, exec (.frameDiscarded bytes badStop) s = .next t ∧ t.pending = s.pending ∧
          t.node.upToReports idle ∧ t.node.countedOnce .frameMalformed s.node))) ∧
  (∀ (c : Instr) (sender : Nat) (f : Frame) (s : State), receivedFrame c = some (sender, f) →
    stationOk sender = true → frameOk f = true → s.node.onLine = true →
    sender = s.node.config.station → s.node.calm →
    let number := evSucc s.node.line.number
    ∃ t, exec c s = .next t ∧ t.pending = s.pending ∧
      t.node.bus.participation = .withdrawing ∧
      t.node.bus.queue = [QueuedFrame.fresh
        (.trip { number := number, source := .fault, detail := FaultKind.duplicateStation.code }) true] ∧
      t.node.line.view = .trip ∧ t.node.line.number = number ∧ t.node.line.own = none ∧
      t.node.line.tripUnack = true ∧ t.node.countedOnce .duplicateStation s.node ∧
      t.node.faults.firstFatal = some (s.node.faults.firstFatal.getD
        { kind := .duplicateStation, tracking := s.node.len.tracking, view := s.node.line.view,
          participation := s.node.bus.participation }) ∧
      t.node.roster.others = s.node.roster.others ∧ t.node.len.tracking = s.node.len.tracking) ∧
  (∀ (bytes : List Byte) (badStop : Option Nat),
    let length := fieldAt bytes 2 1
    let headed := 3 ≤ bytes.length ∧ ∀ i, badStop = some i → 3 ≤ i
    let whole := badStop = none ∧ bytes.length = length + 5
    let checked := checkBytes (bytes.take (length + 3)) = bytes.drop (length + 3)
    (judge bytes badStop = .checkFail ↔ ¬headed ∨ (length ≤ 96 ∧ ¬(whole ∧ checked))) ∧
    (judge bytes badStop = .malformed ↔ headed ∧
      (96 < length ∨ (whole ∧ checked ∧ ∀ sender fill f, stationOk sender = true → frameOk f = true →
        fill.length = 4 → bytes ≠ frameBytes sender fill f))))

/-- In each bit time the line is dominant when the station drives a 0 on LTX or another station drives
it so (the other stations' levels are the model's input, log 9). A dominant level sets the idle count to
0; the line is idle after 10 recessive bit times, and the idle count then counts on; the busy count
counts bit times until the line is idle; a bit driven recessive and read back dominant is a collision
(R135, R142 to R144). The levels of a frame are read back as its bytes, and are due as its RECEIVE
command or as FRAME_DISCARDED once the line is idle (R135, R137). Time runs bit time by bit time to the
first event of the line (log 2). With no frame in transmission TRANSMIT_BEGIN is due exactly when the
idle count has reached the chosen frame's gap, 8, 40, 72 or 104 with the station number by class, and
LINE_JAM when the busy count exceeds 2,020; COLLISION when an own bit was read back different,
TRANSMIT_COMPLETE when the last was driven and read back (R142 to R144). -/
def Obligations.LineIsFollowedBitByBit : Prop :=
  (∀ (receiving : Bool) (b : LineBus),
    let c := b.bitTime receiving
    (b.level = true ↔
      (b.lde = true ∧ ltxBit b.ltx b.tap.driven = some false) ∨ b.tap.others.head? = some true) ∧
    (b.level = true → c.idleCount = 0 ∧ c.tap.recessive = 0) ∧
    (b.level = false → c.tap.recessive = min 10 (b.tap.recessive + 1) ∧
      c.idleCount = if b.tap.recessive = 10 then min 65535 (b.idleCount + 1) else 0) ∧
    (c.busyCount =
      if receiving = true ∧ c.tap.recessive ≠ 10 then min 65535 (b.busyCount + 1) else 0) ∧
    (c.tap.clash = true ↔ b.tap.clash = true ∨
      (b.lde = true ∧ ltxBit b.ltx b.tap.driven = some true ∧ b.tap.others.head? = some true)) ∧
    c.tap.lrx = b.level ∧ c.tap.others = b.tap.others.tail ∧ c.tap.phase = b.tap.phase + 1 ∧
    c.tap.driven = b.tap.driven +
      (if b.lde = true ∧ ltxBit b.ltx b.tap.driven ≠ none then 1 else 0) ∧
    c.tap.heard =
      (if receiving = true ∧ (b.tap.heard ≠ [] ∨ (b.tap.recessive = 10 ∧ b.level = true)) then
        b.level :: b.tap.heard
      else []) ∧
    c = { b with idleCount := c.idleCount, busyCount := c.busyCount, tap := c.tap }) ∧
  (∀ (bytes : List Byte) (k : Nat),
    let levels := (bytes.flatMap lineBits).map (fun bit => !bit) ++ List.replicate k false
    levelsBytes levels.length levels = (bytes.map fun b => (b, false)) ∧
    (∀ sender f, judge bytes none = .good sender f →
      receivedFrame (heardCommand levels.reverse) = some (sender, f)) ∧
    ((∀ sender f, judge bytes none ≠ .good sender f) →
      heardCommand levels.reverse = .frameDiscarded bytes none)) ∧
  (∀ (receiving : Bool) (gap : Option Nat) (k : Nat) (b : LineBus),
    let next := b.bitTime receiving
    let eventful :=
      (next.lde = true ∧ (next.tap.clash = true ∨ next.tap.driven = 10 * next.ltx.length)) ∨
      (∃ g, gap = some g ∧ g ≤ next.idleCount) ∨
      (receiving = true ∧
        ((next.tap.recessive = 10 ∧ next.tap.heard ≠ []) ∨ 2020 < next.busyCount))
    b.bitTimes receiving gap 0 = b ∧
    (eventful → b.bitTimes receiving gap (k + 1) = next) ∧
    (¬eventful → b.bitTimes receiving gap (k + 1) = next.bitTimes receiving gap k)) ∧
  (∀ n : Node, n.bus.participation ≠ .unconfigured →
    let sending := ∃ q ∈ n.bus.queue, q.inTransmission = true
    let taken := n.receiving = true ∧ n.bus.tap.recessive = 10 ∧ n.bus.tap.heard ≠ []
    (sending → n.waitingGap = none) ∧
    (¬sending → n.waitingGap =
      n.chosenFrame.map fun q => [8, 40, 72, 104].getD q.frame.cls 0 + n.config.station) ∧
    (.transmitBegin ∈ n.lineDue ↔ ∃ g, n.waitingGap = some g ∧ g ≤ n.bus.idleCount) ∧
    (.lineJam ∈ n.lineDue ↔ n.receiving = true ∧ 2020 < n.bus.busyCount) ∧
    (.collision ∈ n.lineDue ↔ sending ∧ n.bus.lde = true ∧ n.bus.tap.clash = true) ∧
    (.transmitComplete ∈ n.lineDue ↔ sending ∧ n.bus.lde = true ∧ n.bus.tap.clash = false ∧
      n.bus.tap.driven = 10 * n.bus.ltx.length) ∧
    (taken → heardCommand n.bus.tap.heard ∈ n.lineDue) ∧
    (∀ c ∈ n.lineDue, c ∈ [.transmitBegin, .lineJam, .collision, .transmitComplete] ∨
      (taken ∧ c = heardCommand n.bus.tap.heard)))

/-- A frame offered in ACTIVE joins a queue with room as its newest. At a full queue a frame of class 0
or 1 evicts the oldest frame of class 2 or 3 that is not in transmission, and is refused with
FRAME_DROPPED when there is none; a HANDOFF is refused with HANDOFF_DROPPED, a FAULT with a
FRAME_DROPPED that makes no FAULT frame, a STATUS with nothing recorded; an evicted frame records the
same. A frame not accepted is lost to its block: an own ENACT is no longer pending and its fate is lost,
an own PROPOSE that waited ends ABANDONED. Outside ACTIVE every offer is refused and nothing recorded
(R67, R97, R102, R139, R140). -/
def Obligations.OffersMeetTheQueue : Prop :=
  ∀ (n : Node) (f : Frame),
    let q := QueuedFrame.fresh f false
    let evictable (x : QueuedFrame) : Prop := 2 ≤ x.frame.cls ∧ x.inTransmission = false
    let recorded (g : Frame) : List FaultReport :=
      match g with
      | .status _ => []
      | .handoff _ => [{ kind := .handoffDropped, silent := false }]
      | .fault _ => [{ kind := .frameDropped, silent := true }]
      | _ => [{ kind := .frameDropped, silent := false }]
    let failed (g : Frame) (m : Node) : Node :=
      { m with faults.reported := m.faults.reported ++ recorded g }
    (n.active = false → n.offer f = n.frameLost q) ∧
    (n.active = true → n.bus.queue.length < 16 → n.offer f = { n with bus.queue := n.bus.queue ++ [q] }) ∧
    (n.active = true → 16 ≤ n.bus.queue.length →
      (2 ≤ f.cls → n.offer f = (failed f n).frameLost q) ∧
      (f.cls < 2 → (∀ x ∈ n.bus.queue, ¬evictable x) → n.offer f = (failed f n).frameLost q) ∧
      (∀ older x newer, f.cls < 2 → n.bus.queue = older ++ x :: newer → (∀ y ∈ older, ¬evictable y) →
        evictable x →
        ∃ m, m = (failed x.frame { n with bus.queue := older ++ newer }).frameLost x ∧
          n.offer f = { m with bus.queue := older ++ newer ++ [q] })) ∧
    (∀ p, f = .enact p → n.frameLost q = { n with
      line.enact := none
      line.lastOutcome :=
        match n.line.lastOutcome with
        | some { id := i, outcome := .enacted .pending } => some { id := i, outcome := .enacted .lost }
        | other => other }) ∧
    (∀ p, f = .handoff p → n.frameLost q = n.report (CounterEvent.handoffSent 1)) ∧
    (∀ p o, f = .propose p → n.line.own = some o → o.id = p.id → o.phase = .queued →
      (n.frameLost q).line =
        { n.line with own := none, lastOutcome := some { id := o.id, outcome := .abandoned } })

/-- TRANSMIT_BEGIN sends the chosen frame, the oldest of the lowest class that may be sent (any in
ACTIVE, a TRIP alone in WITHDRAWING): LDE asserted, its bytes on LTX, the idle count 0 at its start bit
(R135); with one in transmission, or none that may be sent, it does nothing (log 8). The command says
that the gap is reached (log 3); when it is reached is in LineIsFollowedBitByBit (R136, R142). -/
def Obligations.TransmitBeginSendsTheChosenFrame : Prop :=
  ∀ s : State,
    let may (q : QueuedFrame) : Prop := s.node.bus.participation = .active ∨
      (s.node.bus.participation = .withdrawing ∧ ∃ p, q.frame = .trip p)
    ((∃ q ∈ s.node.bus.queue, q.inTransmission = true) → exec .transmitBegin s = .next s) ∧
    ((∀ q ∈ s.node.bus.queue, ¬may q) → exec .transmitBegin s = .next s) ∧
    (∀ before q after, (∀ x ∈ s.node.bus.queue, x.inTransmission = false) →
      s.node.bus.queue = before ++ q :: after → may q →
      (∀ x ∈ before, may x → q.frame.cls < x.frame.cls) →
      (∀ x ∈ after, may x → q.frame.cls ≤ x.frame.cls) →
      exec .transmitBegin s = .next { s with
        node.bus.queue := before ++ { q with inTransmission := true } :: after
        node.bus.lde := true
        node.bus.ltx := frameBytes s.node.config.station (s.node.fill 0 4) q.frame
        node.bus.idleCount := 0
        node.bus.tap := { s.node.bus.tap with driven := 0, clash := false }
        node.freeUses := s.node.freeUses + 1 })

/-- TRANSMIT_COMPLETE takes the frame in transmission out of the queue and releases the line, which has
been recessive for the bits that end the last byte, its stop bit at least and never ten, so that it is
not yet idle and the idle count is 0 (R135, R142; log 39); nothing else changes for a frame no block
waits for, a withdrawn PROPOSE among them (R141), and a command without a frame in transmission changes
nothing (log 8). A HANDOFF is reported as sent (R67). The own ENACT is no longer pending, its fate is
sent, and its pair is taken by Table 5-2 (R88, R102). The own PROPOSE begins the vote among the PRESENT
stations; with no such station the proposal ends ENACTED at once and its ENACT is queued; the TRIP of a
withdrawal takes the station OFFLINE (R97, R132, R142, R149). -/
def Obligations.TransmitCompleteRemovesTheFrame : Prop :=
  (∀ s : State,
      let tap : LineTap := { s.node.bus.tap with
        lrx := false
        recessive := ((lineBits (s.node.bus.ltx.getLastD 0)).reverse.takeWhile id).length
        heard := []
        driven := 0
        clash := false }
      ((∀ q ∈ s.node.bus.queue, q.inTransmission = false) → exec .transmitComplete s = .next s) ∧
      (∀ before q after, s.node.bus.participation ≠ .unconfigured →
        s.node.bus.queue = before ++ q :: after → q.inTransmission = true →
        (∀ x ∈ before, x.inTransmission = false) → s.node.faults.reported = [] →
        (q.ofWithdrawal = false → (∀ p, q.frame ≠ .handoff p) → (∀ p, q.frame ≠ .propose p) →
          (∀ p, q.frame ≠ .enact p) → s.node.quiet →
          exec .transmitComplete s = .next { s with
            node.bus.queue := before ++ after
            node.bus.lde := false
            node.bus.ltx := []
            node.bus.idleCount := 0
            node.bus.tap := tap }) ∧
        (q.ofWithdrawal = false → q.withdrawn = true → s.node.calm → s.node.linesFollow →
          s.node.countersFollow →
          (∀ o, s.node.line.own = some o → s.node.holdReasons o.target = []) →
          exec .transmitComplete s = .next { s with
            node.bus.queue := before ++ after
            node.bus.lde := false
            node.bus.ltx := []
            node.bus.idleCount := 0
            node.bus.tap := tap }) ∧
        (∀ p, q.ofWithdrawal = false → q.withdrawn = false → q.frame = .handoff p → s.node.quiet →
          exec .transmitComplete s = .next { s with
            node := { s.node.report (CounterEvent.handoffSent 0) with
              bus := { s.node.bus with
                queue := before ++ after, lde := false, ltx := [], idleCount := 0
                tap := tap } } }) ∧
        (∀ p, q.ofWithdrawal = false → q.withdrawn = false → q.frame = .enact p → s.node.quiet →
          let own := s.node.line
          let newer := evNewer p.number own.number = true
          let adopted := own.view = .unknown ∨ (own.view = .trip ∧ newer ∧ p.target = .standstill) ∨
            (own.view ≠ .unknown ∧ own.view ≠ .trip ∧
              (newer ∨ (p.number = own.number ∧ p.target.rank < own.view.rank)))
          ∃ t, exec .transmitComplete s = .next t ∧ t.pending = s.pending ∧ t.node.line.enact = none ∧
            (∀ i, own.lastOutcome = some { id := i, outcome := .enacted .pending } →
              t.node.line.lastOutcome = some { id := i, outcome := .enacted .sent }) ∧
            (adopted → t.node.line.view = p.target ∧ t.node.line.number = p.number) ∧
            (¬adopted → own.view ≠ .trip → t.node.line.view = own.view ∧
              t.node.line.number = own.number)) ∧
        (∀ p o, q.ofWithdrawal = false → q.withdrawn = false → q.frame = .propose p →
          s.node.line.own = some o → o.id = p.id → o.phase = .queued →
          s.node.roster.electorate ≠ [] → s.node.linesFollow → s.node.holdReasons o.target = [] →
          ∃ t, exec .transmitComplete s = .next t ∧ t.pending = s.pending ∧
            t.node.bus.queue = before ++ after ∧ t.node.bus.lde = false ∧
            t.node.line =
              { s.node.line with
                own := some { o with phase := .voting s.node.roster.electorate [] 0 } }) ∧
        (∀ p o, q.ofWithdrawal = false → q.withdrawn = false → q.frame = .propose p →
          s.node.line.own = some o → o.id = p.id → o.phase = .queued →
          s.node.roster.electorate = [] → s.node.linesFollow → s.node.holdReasons o.target = [] →
          s.node.active = true → before.length + after.length < 16 →
          ∃ t, exec .transmitComplete s = .next t ∧ t.pending = s.pending ∧
            t.node.line.own = none ∧
            t.node.line.enact = some { id := o.id, number := evSucc o.base } ∧
            t.node.line.lastOutcome = some { id := o.id, outcome := .enacted .pending } ∧
            t.node.bus.queue = before ++ after ++ [QueuedFrame.fresh
              (.enact { id := o.id, base := o.base, number := evSucc o.base, target := o.target }) false]) ∧
        (q.ofWithdrawal = true →
          ∃ t, exec .transmitComplete s = .next t ∧ t.pending = s.pending ∧
            t.node.bus.participation = .offline ∧ t.node.bus.queue = [] ∧ t.node.bus.lde = false))) ∧
  (∀ b : Byte, let run := ((lineBits b).reverse.takeWhile id).length; 1 ≤ run ∧ run < 10)

/-- A COLLISION keeps the frame in its place with its collision count raised, and is counted; at the
sixteenth the frame is abandoned, TRANSMIT_ABANDONED is recorded, an ACTIVE station goes to LISTEN, and
a WITHDRAWING one to OFFLINE (R149). The level read back is dominant: the line is not idle and the idle
count is 0 (R135; log 39); a COLLISION without a transmission changes nothing (log 8). A frame withdrawn
meanwhile is removed (R141, R143, R148). -/
def Obligations.CollisionRetriesOrAbandons : Prop :=
  ∀ s : State,
    ((∀ q ∈ s.node.bus.queue, q.inTransmission = false) → exec .collision s = .next s) ∧
    (∀ before q after,
      (s.node.bus.participation = .active ∨ s.node.bus.participation = .withdrawing) → s.node.quiet →
      s.node.bus.queue = before ++ q :: after → q.inTransmission = true →
      (∀ x ∈ before, x.inTransmission = false) →
      let released (queue : List QueuedFrame) := { s.node with
        bus.queue := queue
        bus.lde := false
        bus.ltx := []
        bus.idleCount := 0
        bus.tap := { s.node.bus.tap with lrx := true, recessive := 0, driven := 0, clash := false } }
      ∃ t, exec .collision s = .next t ∧ t.pending = s.pending ∧
        t.node.countedOnce .collision s.node ∧ t.node.bus.lde = false ∧
        (q.withdrawn = false → q.collisions + 1 < 16 →
          t.node.upToReports (released
            (before ++ { q with inTransmission := false, collisions := q.collisions + 1 } :: after))) ∧
        (q.withdrawn = true → t.node.upToReports (released (before ++ after))) ∧
        (q.withdrawn = false → 16 ≤ q.collisions + 1 →
          (s.node.bus.participation = .active →
            t.node.bus.participation = .listen ∧ t.node.bus.queue = []) ∧
          (s.node.bus.participation = .withdrawing →
            t.node.bus.participation = .offline ∧ t.node.bus.queue = [] ∧
            t.node.line.view = .unknown ∧ t.node.window = Window.empty ∧ t.node.roster.others = []) ∧
          t.node.noticed Notice.participationChanged = true ∧
          t.node.countedOnce .transmitAbandoned s.node))
end

