-- ==== Sys2Proof/Laws/State.lean ====
section
/-! SUPPORT. What the plainest updates of the part leave and change, one lemma for each, all by rfl. -/

namespace Sys2Proof.Machine

/-- A notice sets its flag and nothing else (R181). -/
@[simp] theorem Node.notice_frame (i : Nat) (n : Node) :
    (n.notice i).config = n.config ∧ (n.notice i).len = n.len ∧ (n.notice i).window = n.window ∧
    (n.notice i).marks = n.marks ∧ (n.notice i).handover = n.handover ∧
    (n.notice i).line = n.line ∧ (n.notice i).prot = n.prot ∧ (n.notice i).roster = n.roster ∧
    (n.notice i).bus = n.bus ∧ (n.notice i).sensor = n.sensor ∧
    (n.notice i).counters = n.counters ∧ (n.notice i).faults = n.faults ∧
    (n.notice i).turns = n.turns ∧ (n.notice i).freeUses = n.freeUses ∧
    (n.notice i).port.response = n.port.response ∧ (n.notice i).port.mask = n.port.mask ∧
    (n.notice i).port.notices = n.port.notices ||| (1#16 <<< i) := by
  refine ⟨rfl, rfl, rfl, rfl, rfl, rfl, rfl, rfl, rfl, rfl, rfl, rfl, rfl, rfl, rfl, rfl, rfl⟩

/-- A reported fault waits for the Fault Unit and changes nothing else (R183). -/
@[simp] theorem Node.fault_frame (k : FaultKind) (n : Node) :
    (n.fault k).config = n.config ∧ (n.fault k).len = n.len ∧ (n.fault k).window = n.window ∧
    (n.fault k).marks = n.marks ∧ (n.fault k).handover = n.handover ∧ (n.fault k).line = n.line ∧
    (n.fault k).prot = n.prot ∧ (n.fault k).roster = n.roster ∧ (n.fault k).bus = n.bus ∧
    (n.fault k).sensor = n.sensor ∧ (n.fault k).counters = n.counters ∧
    (n.fault k).port = n.port ∧ (n.fault k).turns = n.turns ∧ (n.fault k).freeUses = n.freeUses ∧
    (n.fault k).faults.counts = n.faults.counts ∧
    (n.fault k).faults.firstFatal = n.faults.firstFatal ∧
    (n.fault k).faults.escalation = n.faults.escalation ∧
    (n.fault k).faults.enables = n.faults.enables ∧
    (n.fault k).faults.reported = n.faults.reported ++ [{ kind := k, silent := false }] := by
  refine ⟨rfl, rfl, rfl, rfl, rfl, rfl, rfl, rfl, rfl, rfl, rfl, rfl, rfl, rfl, rfl, rfl, rfl, rfl, rfl⟩

/-- The same for a fault that makes no FAULT frame (R140). -/
@[simp] theorem Node.faultSilent_frame (k : FaultKind) (n : Node) :
    (n.faultSilent k).config = n.config ∧ (n.faultSilent k).len = n.len ∧
    (n.faultSilent k).window = n.window ∧ (n.faultSilent k).marks = n.marks ∧
    (n.faultSilent k).handover = n.handover ∧ (n.faultSilent k).line = n.line ∧
    (n.faultSilent k).prot = n.prot ∧ (n.faultSilent k).roster = n.roster ∧
    (n.faultSilent k).bus = n.bus ∧ (n.faultSilent k).sensor = n.sensor ∧
    (n.faultSilent k).counters = n.counters ∧ (n.faultSilent k).port = n.port ∧
    (n.faultSilent k).turns = n.turns ∧ (n.faultSilent k).freeUses = n.freeUses ∧
    (n.faultSilent k).faults.counts = n.faults.counts ∧
    (n.faultSilent k).faults.firstFatal = n.faults.firstFatal ∧
    (n.faultSilent k).faults.escalation = n.faults.escalation ∧
    (n.faultSilent k).faults.enables = n.faults.enables ∧
    (n.faultSilent k).faults.reported = n.faults.reported ++ [{ kind := k, silent := true }] := by
  refine ⟨rfl, rfl, rfl, rfl, rfl, rfl, rfl, rfl, rfl, rfl, rfl, rfl, rfl, rfl, rfl, rfl, rfl, rfl, rfl⟩

/-- A response takes the place of the held one and changes nothing else (R175). -/
@[simp] theorem Node.respond_frame (r f : Nat) (d : List Byte) (n : Node) :
    (n.respond r f d).config = n.config ∧ (n.respond r f d).len = n.len ∧
    (n.respond r f d).window = n.window ∧ (n.respond r f d).marks = n.marks ∧
    (n.respond r f d).handover = n.handover ∧ (n.respond r f d).line = n.line ∧
    (n.respond r f d).prot = n.prot ∧ (n.respond r f d).roster = n.roster ∧
    (n.respond r f d).bus = n.bus ∧ (n.respond r f d).sensor = n.sensor ∧
    (n.respond r f d).counters = n.counters ∧ (n.respond r f d).faults = n.faults ∧
    (n.respond r f d).turns = n.turns ∧ (n.respond r f d).freeUses = n.freeUses ∧
    (n.respond r f d).port.notices = n.port.notices ∧ (n.respond r f d).port.mask = n.port.mask ∧
    (n.respond r f d).port.response = some (responseBytes r f d) := by
  refine ⟨rfl, rfl, rfl, rfl, rfl, rfl, rfl, rfl, rfl, rfl, rfl, rfl, rfl, rfl, rfl, rfl, rfl⟩

/-- A use of the free bytes changes their count alone (log 5). -/
@[simp] theorem Node.useFill_frame (n : Node) :
    (n.useFill).config = n.config ∧ (n.useFill).len = n.len ∧ (n.useFill).window = n.window ∧
    (n.useFill).marks = n.marks ∧ (n.useFill).handover = n.handover ∧ (n.useFill).line = n.line ∧
    (n.useFill).prot = n.prot ∧ (n.useFill).roster = n.roster ∧ (n.useFill).bus = n.bus ∧
    (n.useFill).sensor = n.sensor ∧ (n.useFill).counters = n.counters ∧
    (n.useFill).port = n.port ∧ (n.useFill).faults = n.faults ∧ (n.useFill).turns = n.turns := by
  refine ⟨rfl, rfl, rfl, rfl, rfl, rfl, rfl, rfl, rfl, rfl, rfl, rfl, rfl, rfl⟩

/-- An order chosen changes the choices left alone (log 4). -/
@[simp] theorem Node.spendOrder_frame (k : Nat) (n : Node) :
    (n.spendOrder k).config = n.config ∧ (n.spendOrder k).len = n.len ∧
    (n.spendOrder k).window = n.window ∧ (n.spendOrder k).marks = n.marks ∧
    (n.spendOrder k).handover = n.handover ∧ (n.spendOrder k).line = n.line ∧
    (n.spendOrder k).prot = n.prot ∧ (n.spendOrder k).roster = n.roster ∧
    (n.spendOrder k).bus = n.bus ∧ (n.spendOrder k).sensor = n.sensor ∧
    (n.spendOrder k).counters = n.counters ∧ (n.spendOrder k).port = n.port ∧
    (n.spendOrder k).faults = n.faults ∧ (n.spendOrder k).freeUses = n.freeUses := by
  refine ⟨rfl, rfl, rfl, rfl, rfl, rfl, rfl, rfl, rfl, rfl, rfl, rfl, rfl, rfl⟩

/-- The line released: the queue and participation stand (R142). -/
@[simp] theorem Node.release_frame (n : Node) :
    (n.release).config = n.config ∧ (n.release).len = n.len ∧ (n.release).window = n.window ∧
    (n.release).marks = n.marks ∧ (n.release).handover = n.handover ∧ (n.release).line = n.line ∧
    (n.release).prot = n.prot ∧ (n.release).roster = n.roster ∧ (n.release).sensor = n.sensor ∧
    (n.release).counters = n.counters ∧ (n.release).port = n.port ∧
    (n.release).faults = n.faults ∧ (n.release).turns = n.turns ∧
    (n.release).freeUses = n.freeUses ∧ n.release.bus.queue = n.bus.queue ∧
    n.release.bus.participation = n.bus.participation := by
  refine ⟨rfl, rfl, rfl, rfl, rfl, rfl, rfl, rfl, rfl, rfl, rfl, rfl, rfl, rfl, rfl, rfl⟩

/-- A choice made changes the choices left alone (log 4). -/
@[simp] theorem Node.spend_frame (k : Nat) (n : Node) :
    (n.spend k).config = n.config ∧ (n.spend k).len = n.len ∧ (n.spend k).window = n.window ∧
    (n.spend k).marks = n.marks ∧ (n.spend k).handover = n.handover ∧ (n.spend k).line = n.line ∧
    (n.spend k).prot = n.prot ∧ (n.spend k).roster = n.roster ∧ (n.spend k).bus = n.bus ∧
    (n.spend k).sensor = n.sensor ∧ (n.spend k).counters = n.counters ∧
    (n.spend k).port = n.port ∧ (n.spend k).faults = n.faults ∧ (n.spend k).freeUses = n.freeUses := by
  unfold Node.spend
  split <;> simp

/-- None of these updates spends the time base's event or asserts RESET_N (R171, R180). -/
@[simp] theorem Node.base_frame (i k r f : Nat) (d : List Byte) (q : FaultKind) (n : Node) :
    (n.notice i).baseDue = n.baseDue ∧ (n.fault q).baseDue = n.baseDue ∧
    (n.faultSilent q).baseDue = n.baseDue ∧ (n.respond r f d).baseDue = n.baseDue ∧
    n.useFill.baseDue = n.baseDue ∧ (n.spendOrder k).baseDue = n.baseDue ∧
    n.release.baseDue = n.baseDue ∧ (n.notice i).port.held = n.port.held ∧
    (n.respond r f d).port.held = n.port.held := by
  refine ⟨rfl, rfl, rfl, rfl, rfl, rfl, rfl, rfl, rfl⟩

/-- The line released: nothing is driven and what is followed of the line stands (R135, R142). -/
@[simp] theorem Node.release_line (n : Node) :
    n.release.bus.lde = false ∧ n.release.bus.ltx = [] ∧ n.release.bus.tap.driven = 0 ∧
    n.release.bus.tap.clash = false ∧ n.release.bus.tap.heard = n.bus.tap.heard ∧
    n.release.bus.tap.recessive = n.bus.tap.recessive ∧
    n.release.bus.tap.others = n.bus.tap.others ∧ n.release.bus.idleCount = n.bus.idleCount ∧
    n.release.bus.busyCount = n.bus.busyCount := by
  refine ⟨rfl, rfl, rfl, rfl, rfl, rfl, rfl, rfl, rfl⟩

/-- The line as a frame received leaves it: idle, its counts at 0, the queue and the driver as they were
(R137). -/
@[simp] theorem Node.lineIdle_frame (n : Node) :
    n.lineIdle.bus.idleCount = 0 ∧ n.lineIdle.bus.busyCount = 0 ∧
    n.lineIdle.bus.tap.recessive = Config.idleRun ∧ n.lineIdle.bus.tap.heard = [] ∧
    n.lineIdle.bus.queue = n.bus.queue ∧ n.lineIdle.bus.participation = n.bus.participation ∧
    n.lineIdle.bus.lde = n.bus.lde ∧ n.lineIdle.bus.ltx = n.bus.ltx ∧
    n.lineIdle.bus.tap.others = n.bus.tap.others ∧ n.lineIdle.len = n.len ∧
    n.lineIdle.line = n.line ∧ n.lineIdle.window = n.window ∧ n.lineIdle.roster = n.roster := by
  refine ⟨rfl, rfl, rfl, rfl, rfl, rfl, rfl, rfl, rfl, rfl, rfl, rfl, rfl⟩

end Sys2Proof.Machine
end

