-- ==== Sys2Proof/Laws/Ops.lean ====
section
/-! SUPPORT. What the shared operations leave unchanged: one lemma for each, cited by later proofs in
place of the definition. -/

namespace Sys2Proof.Machine

/-- An addition to the counters touches their values, overflow flags and COUNTER_OVERFLOW alone
(R172). -/
@[simp] theorem Node.addCounters_frame (f : Counter → Option Nat) (n : Node) :
    (n.addCounters f).config = n.config ∧ (n.addCounters f).len = n.len ∧
    (n.addCounters f).window = n.window ∧ (n.addCounters f).marks = n.marks ∧
    (n.addCounters f).handover = n.handover ∧ (n.addCounters f).line = n.line ∧
    (n.addCounters f).prot = n.prot ∧ (n.addCounters f).roster = n.roster ∧
    (n.addCounters f).bus = n.bus ∧ (n.addCounters f).sensor = n.sensor ∧
    (n.addCounters f).faults = n.faults ∧ (n.addCounters f).turns = n.turns ∧
    (n.addCounters f).freeUses = n.freeUses ∧
    (n.addCounters f).counters.frozen = n.counters.frozen ∧
    (n.addCounters f).port.response = n.port.response ∧ (n.addCounters f).port.mask = n.port.mask := by
  unfold Node.addCounters
  split
  · simp
  · split <;> simp

/-- While frozen nothing is added (R173). -/
theorem Node.addCounters_frozen (f : Counter → Option Nat) (n : Node) (h : n.counters.frozen = true) :
    n.addCounters f = n := by
  simp [Node.addCounters, h]

/-- A wrap while the overflow flag stands is no overflow that shows (R172). -/
@[simp] theorem Counter.overflowsBy_standing (f : Counter → Option Nat) (c : Counter)
    (h : c.overflow = true) : c.overflowsBy f = false := by
  simp [Counter.overflowsBy, h]

/-- Where no addition wraps a counter whose overflow flag is clear, the port stands (R172). -/
theorem Node.addCounters_port (f : Counter → Option Nat) (n : Node)
    (h : n.counters.cells.toList.any (Counter.overflowsBy f) = false) :
    (n.addCounters f).port = n.port := by
  unfold Node.addCounters
  split
  · rfl
  · simp [h]

/-- A report to the counters (R170). -/
@[simp] theorem Node.report_frame (e : CounterEvent) (n : Node) :
    (n.report e).config = n.config ∧ (n.report e).len = n.len ∧ (n.report e).window = n.window ∧
    (n.report e).marks = n.marks ∧ (n.report e).handover = n.handover ∧
    (n.report e).line = n.line ∧ (n.report e).prot = n.prot ∧ (n.report e).roster = n.roster ∧
    (n.report e).bus = n.bus ∧ (n.report e).sensor = n.sensor ∧ (n.report e).faults = n.faults ∧
    (n.report e).turns = n.turns ∧ (n.report e).freeUses = n.freeUses ∧
    (n.report e).counters.frozen = n.counters.frozen ∧
    (n.report e).port.response = n.port.response ∧ (n.report e).port.mask = n.port.mask :=
  Node.addCounters_frame _ n

/-- The same fault reported several times (R183). -/
@[simp] theorem Node.faultTimes_frame (k : FaultKind) (c : Nat) (n : Node) :
    (n.faultTimes k c).config = n.config ∧ (n.faultTimes k c).len = n.len ∧
    (n.faultTimes k c).window = n.window ∧ (n.faultTimes k c).marks = n.marks ∧
    (n.faultTimes k c).handover = n.handover ∧ (n.faultTimes k c).line = n.line ∧
    (n.faultTimes k c).prot = n.prot ∧ (n.faultTimes k c).roster = n.roster ∧
    (n.faultTimes k c).bus = n.bus ∧ (n.faultTimes k c).sensor = n.sensor ∧
    (n.faultTimes k c).counters = n.counters ∧ (n.faultTimes k c).port = n.port ∧
    (n.faultTimes k c).turns = n.turns ∧ (n.faultTimes k c).freeUses = n.freeUses ∧
    (n.faultTimes k c).faults.counts = n.faults.counts ∧
    (n.faultTimes k c).faults.firstFatal = n.faults.firstFatal ∧
    (n.faultTimes k c).faults.escalation = n.faults.escalation ∧
    (n.faultTimes k c).faults.enables = n.faults.enables := by
  induction c generalizing n with
  | zero => simp [Node.faultTimes]
  | succ c ih => simpa [Node.faultTimes] using ih (n.fault k)

/-- The counters' conditions followed (R171). -/
@[simp] theorem Node.followConditions_frame (n : Node) :
    (n.followConditions).config = n.config ∧ (n.followConditions).len = n.len ∧
    (n.followConditions).window = n.window ∧ (n.followConditions).marks = n.marks ∧
    (n.followConditions).handover = n.handover ∧ (n.followConditions).line = n.line ∧
    (n.followConditions).prot = n.prot ∧ (n.followConditions).roster = n.roster ∧
    (n.followConditions).bus = n.bus ∧ (n.followConditions).sensor = n.sensor ∧
    (n.followConditions).faults = n.faults ∧ (n.followConditions).turns = n.turns ∧
    (n.followConditions).freeUses = n.freeUses ∧
    (n.followConditions).counters.frozen = n.counters.frozen ∧
    (n.followConditions).port.response = n.port.response ∧
    (n.followConditions).port.mask = n.port.mask := by
  simp [Node.followConditions]

/-- The lines evaluated: their latches and states alone (R114). -/
@[simp] theorem Node.evalLines_frame (n : Node) :
    (n.evalLines).config = n.config ∧ (n.evalLines).len = n.len ∧
    (n.evalLines).window = n.window ∧ (n.evalLines).marks = n.marks ∧
    (n.evalLines).handover = n.handover ∧ (n.evalLines).line = n.line ∧
    (n.evalLines).roster = n.roster ∧ (n.evalLines).bus = n.bus ∧
    (n.evalLines).sensor = n.sensor ∧ (n.evalLines).counters = n.counters ∧
    (n.evalLines).port = n.port ∧ (n.evalLines).faults = n.faults ∧
    (n.evalLines).turns = n.turns ∧ (n.evalLines).freeUses = n.freeUses ∧
    (n.evalLines).prot.timer = n.prot.timer ∧ (n.evalLines).prot.phase = n.prot.phase ∧
    (n.evalLines).prot.running = n.prot.running ∧ (n.evalLines).prot.driven = n.prot.driven ∧
    (n.evalLines).prot.wired = n.prot.wired := by
  unfold Node.evalLines
  split <;> simp

/-- An own proposal ends: the proposal, its outcome, the notice and the report (R103). -/
@[simp] theorem Node.endOwn_frame (e : ProposalEnd) (n : Node) :
    (n.endOwn e).config = n.config ∧ (n.endOwn e).len = n.len ∧ (n.endOwn e).window = n.window ∧
    (n.endOwn e).marks = n.marks ∧ (n.endOwn e).handover = n.handover ∧
    (n.endOwn e).prot = n.prot ∧ (n.endOwn e).roster = n.roster ∧ (n.endOwn e).bus = n.bus ∧
    (n.endOwn e).sensor = n.sensor ∧ (n.endOwn e).faults = n.faults ∧
    (n.endOwn e).turns = n.turns ∧ (n.endOwn e).freeUses = n.freeUses ∧
    (n.endOwn e).line.view = n.line.view ∧ (n.endOwn e).line.number = n.line.number ∧
    (n.endOwn e).line.enact = n.line.enact ∧
    (n.endOwn e).line.proposalView = n.line.proposalView ∧
    (n.endOwn e).line.proposalCount = n.line.proposalCount ∧
    (n.endOwn e).line.hold = n.line.hold ∧ (n.endOwn e).line.tripUnack = n.line.tripUnack ∧
    (n.endOwn e).line.lastAnnouncement = n.line.lastAnnouncement ∧
    (n.endOwn e).counters.frozen = n.counters.frozen ∧
    (n.endOwn e).port.response = n.port.response ∧ (n.endOwn e).port.mask = n.port.mask := by
  unfold Node.endOwn
  split <;> simp

/-- No proposal is open once it has ended (R103). -/
@[simp] theorem Node.endOwn_own (e : ProposalEnd) (n : Node) : (n.endOwn e).line.own = none := by
  unfold Node.endOwn
  split <;> simp_all

/-- An own proposal ends and its PROPOSE is withdrawn: the queue changes too (R101). -/
@[simp] theorem Node.endAndWithdraw_frame (e : ProposalEnd) (n : Node) :
    (n.endAndWithdraw e).config = n.config ∧ (n.endAndWithdraw e).len = n.len ∧
    (n.endAndWithdraw e).window = n.window ∧ (n.endAndWithdraw e).marks = n.marks ∧
    (n.endAndWithdraw e).handover = n.handover ∧ (n.endAndWithdraw e).prot = n.prot ∧
    (n.endAndWithdraw e).roster = n.roster ∧ (n.endAndWithdraw e).sensor = n.sensor ∧
    (n.endAndWithdraw e).faults = n.faults ∧ (n.endAndWithdraw e).turns = n.turns ∧
    (n.endAndWithdraw e).freeUses = n.freeUses ∧ (n.endAndWithdraw e).line.view = n.line.view ∧
    (n.endAndWithdraw e).line.number = n.line.number ∧
    (n.endAndWithdraw e).line.enact = n.line.enact ∧
    (n.endAndWithdraw e).line.proposalView = n.line.proposalView ∧
    (n.endAndWithdraw e).line.proposalCount = n.line.proposalCount ∧
    (n.endAndWithdraw e).line.hold = n.line.hold ∧
    (n.endAndWithdraw e).line.tripUnack = n.line.tripUnack ∧
    (n.endAndWithdraw e).line.lastAnnouncement = n.line.lastAnnouncement ∧
    (n.endAndWithdraw e).counters.frozen = n.counters.frozen ∧
    (n.endAndWithdraw e).port.response = n.port.response ∧
    (n.endAndWithdraw e).port.mask = n.port.mask ∧
    (n.endAndWithdraw e).bus.participation = n.bus.participation ∧
    (n.endAndWithdraw e).bus.idleCount = n.bus.idleCount ∧
    (n.endAndWithdraw e).bus.busyCount = n.bus.busyCount ∧
    (n.endAndWithdraw e).bus.joinTimer = n.bus.joinTimer ∧
    (n.endAndWithdraw e).bus.joinRunning = n.bus.joinRunning ∧
    (n.endAndWithdraw e).bus.statusTimer = n.bus.statusTimer ∧
    (n.endAndWithdraw e).bus.statusRunning = n.bus.statusRunning ∧
    (n.endAndWithdraw e).bus.lde = n.bus.lde ∧ (n.endAndWithdraw e).bus.ltx = n.bus.ltx := by
  unfold Node.endAndWithdraw
  split <;> simp

/-- No proposal is open once it has ended (R101). -/
@[simp] theorem Node.endAndWithdraw_own (e : ProposalEnd) (n : Node) :
    (n.endAndWithdraw e).line.own = none := by
  unfold Node.endAndWithdraw
  split <;> simp_all

/-- Without an own proposal there is nothing to end (R101). -/
theorem Node.endAndWithdraw_none (e : ProposalEnd) (n : Node) (h : n.line.own = none) :
    n.endAndWithdraw e = n := by
  simp [Node.endAndWithdraw, h]

/-- An own hold reason may end the own proposal (R100). -/
@[simp] theorem Node.denyOwn_frame (n : Node) :
    (n.denyOwn).config = n.config ∧ (n.denyOwn).len = n.len ∧ (n.denyOwn).window = n.window ∧
    (n.denyOwn).marks = n.marks ∧ (n.denyOwn).handover = n.handover ∧ (n.denyOwn).prot = n.prot ∧
    (n.denyOwn).roster = n.roster ∧ (n.denyOwn).sensor = n.sensor ∧
    (n.denyOwn).faults = n.faults ∧ (n.denyOwn).freeUses = n.freeUses ∧
    (n.denyOwn).line.view = n.line.view ∧ (n.denyOwn).line.number = n.line.number ∧
    (n.denyOwn).line.enact = n.line.enact ∧ (n.denyOwn).line.proposalView = n.line.proposalView ∧
    (n.denyOwn).line.proposalCount = n.line.proposalCount ∧ (n.denyOwn).line.hold = n.line.hold ∧
    (n.denyOwn).line.tripUnack = n.line.tripUnack ∧
    (n.denyOwn).line.lastAnnouncement = n.line.lastAnnouncement ∧
    (n.denyOwn).counters.frozen = n.counters.frozen ∧
    (n.denyOwn).port.response = n.port.response ∧ (n.denyOwn).port.mask = n.port.mask ∧
    (n.denyOwn).bus.participation = n.bus.participation ∧
    (n.denyOwn).bus.idleCount = n.bus.idleCount ∧ (n.denyOwn).bus.busyCount = n.bus.busyCount ∧
    (n.denyOwn).bus.joinTimer = n.bus.joinTimer ∧
    (n.denyOwn).bus.joinRunning = n.bus.joinRunning ∧
    (n.denyOwn).bus.statusTimer = n.bus.statusTimer ∧
    (n.denyOwn).bus.statusRunning = n.bus.statusRunning ∧ (n.denyOwn).bus.lde = n.bus.lde ∧
    (n.denyOwn).bus.ltx = n.bus.ltx := by
  unfold Node.denyOwn
  split
  · simp
  · split <;> simp

/-- Without an own proposal no hold reason ends one (R100). -/
theorem Node.denyOwn_none (n : Node) (h : n.line.own = none) : n.denyOwn = n := by
  simp [Node.denyOwn, h]

/-- The blocks that follow others' state: counters, lines, own proposal, queue (R100, R114, R171). -/
@[simp] theorem Node.settle_frame (n : Node) :
    (n.settle).config = n.config ∧ (n.settle).len = n.len ∧ (n.settle).window = n.window ∧
    (n.settle).marks = n.marks ∧ (n.settle).handover = n.handover ∧
    (n.settle).roster = n.roster ∧ (n.settle).sensor = n.sensor ∧ (n.settle).faults = n.faults ∧
    (n.settle).freeUses = n.freeUses ∧ (n.settle).line.view = n.line.view ∧
    (n.settle).line.number = n.line.number ∧ (n.settle).line.enact = n.line.enact ∧
    (n.settle).line.proposalView = n.line.proposalView ∧
    (n.settle).line.proposalCount = n.line.proposalCount ∧ (n.settle).line.hold = n.line.hold ∧
    (n.settle).line.tripUnack = n.line.tripUnack ∧
    (n.settle).line.lastAnnouncement = n.line.lastAnnouncement ∧
    (n.settle).counters.frozen = n.counters.frozen ∧ (n.settle).port.response = n.port.response ∧
    (n.settle).port.mask = n.port.mask ∧ (n.settle).bus.participation = n.bus.participation ∧
    (n.settle).bus.idleCount = n.bus.idleCount ∧ (n.settle).bus.busyCount = n.bus.busyCount ∧
    (n.settle).bus.joinTimer = n.bus.joinTimer ∧ (n.settle).bus.joinRunning = n.bus.joinRunning ∧
    (n.settle).bus.statusTimer = n.bus.statusTimer ∧
    (n.settle).bus.statusRunning = n.bus.statusRunning ∧ (n.settle).bus.lde = n.bus.lde ∧
    (n.settle).bus.ltx = n.bus.ltx ∧ (n.settle).prot.timer = n.prot.timer ∧
    (n.settle).prot.phase = n.prot.phase ∧ (n.settle).prot.running = n.prot.running ∧
    (n.settle).prot.driven = n.prot.driven ∧ (n.settle).prot.wired = n.prot.wired := by
  simp [Node.settle]

/-- Without an own proposal the queue and the choices left stand too (R100). -/
theorem Node.settle_none (n : Node) (h : n.line.own = none) :
    n.settle.line = n.line ∧ n.settle.bus = n.bus ∧ n.settle.turns = n.turns := by
  rw [Node.settle, Node.denyOwn_none _ (by simpa using h)]
  simp

/-- The loss of an own PROPOSE (R101). -/
@[simp] theorem Node.proposeLost_frame (i : ProposalId) (n : Node) :
    (n.proposeLost i).config = n.config ∧ (n.proposeLost i).len = n.len ∧
    (n.proposeLost i).window = n.window ∧ (n.proposeLost i).marks = n.marks ∧
    (n.proposeLost i).handover = n.handover ∧ (n.proposeLost i).prot = n.prot ∧
    (n.proposeLost i).roster = n.roster ∧ (n.proposeLost i).bus = n.bus ∧
    (n.proposeLost i).sensor = n.sensor ∧ (n.proposeLost i).faults = n.faults ∧
    (n.proposeLost i).turns = n.turns ∧ (n.proposeLost i).freeUses = n.freeUses ∧
    (n.proposeLost i).line.view = n.line.view ∧ (n.proposeLost i).line.number = n.line.number ∧
    (n.proposeLost i).line.enact = n.line.enact ∧
    (n.proposeLost i).line.proposalView = n.line.proposalView ∧
    (n.proposeLost i).line.proposalCount = n.line.proposalCount ∧
    (n.proposeLost i).line.hold = n.line.hold ∧
    (n.proposeLost i).line.tripUnack = n.line.tripUnack ∧
    (n.proposeLost i).line.lastAnnouncement = n.line.lastAnnouncement ∧
    (n.proposeLost i).counters.frozen = n.counters.frozen ∧
    (n.proposeLost i).port.response = n.port.response ∧ (n.proposeLost i).port.mask = n.port.mask := by
  unfold Node.proposeLost
  split
  · split <;> simp
  · simp

/-- A frame reported lost (R140, R141). -/
@[simp] theorem Node.frameLost_frame (q : QueuedFrame) (n : Node) :
    (n.frameLost q).config = n.config ∧ (n.frameLost q).len = n.len ∧
    (n.frameLost q).window = n.window ∧ (n.frameLost q).marks = n.marks ∧
    (n.frameLost q).handover = n.handover ∧ (n.frameLost q).prot = n.prot ∧
    (n.frameLost q).roster = n.roster ∧ (n.frameLost q).bus = n.bus ∧
    (n.frameLost q).sensor = n.sensor ∧ (n.frameLost q).faults = n.faults ∧
    (n.frameLost q).turns = n.turns ∧ (n.frameLost q).freeUses = n.freeUses ∧
    (n.frameLost q).line.view = n.line.view ∧ (n.frameLost q).line.number = n.line.number ∧
    (n.frameLost q).line.proposalView = n.line.proposalView ∧
    (n.frameLost q).line.proposalCount = n.line.proposalCount ∧
    (n.frameLost q).line.hold = n.line.hold ∧ (n.frameLost q).line.tripUnack = n.line.tripUnack ∧
    (n.frameLost q).line.lastAnnouncement = n.line.lastAnnouncement ∧
    (n.frameLost q).counters.frozen = n.counters.frozen ∧
    (n.frameLost q).port.response = n.port.response ∧ (n.frameLost q).port.mask = n.port.mask := by
  unfold Node.frameLost
  split
  · simp
  · split <;> simp
  · simp [LineState.enactFate]
  · simp

/-- The fault of a frame that meets a full queue (R140). -/
@[simp] theorem Node.dropFault_frame (f : Frame) (n : Node) :
    (n.dropFault f).config = n.config ∧ (n.dropFault f).len = n.len ∧
    (n.dropFault f).window = n.window ∧ (n.dropFault f).marks = n.marks ∧
    (n.dropFault f).handover = n.handover ∧ (n.dropFault f).line = n.line ∧
    (n.dropFault f).prot = n.prot ∧ (n.dropFault f).roster = n.roster ∧
    (n.dropFault f).bus = n.bus ∧ (n.dropFault f).sensor = n.sensor ∧
    (n.dropFault f).counters = n.counters ∧ (n.dropFault f).port = n.port ∧
    (n.dropFault f).turns = n.turns ∧ (n.dropFault f).freeUses = n.freeUses ∧
    (n.dropFault f).faults.counts = n.faults.counts ∧
    (n.dropFault f).faults.firstFatal = n.faults.firstFatal ∧
    (n.dropFault f).faults.escalation = n.faults.escalation ∧
    (n.dropFault f).faults.enables = n.faults.enables := by
  unfold Node.dropFault
  split <;> simp

/-- An offer to a full queue (R140). -/
@[simp] theorem Node.offerToFull_frame (f : Frame) (n : Node) :
    (n.offerToFull f).config = n.config ∧ (n.offerToFull f).len = n.len ∧
    (n.offerToFull f).window = n.window ∧ (n.offerToFull f).marks = n.marks ∧
    (n.offerToFull f).handover = n.handover ∧ (n.offerToFull f).prot = n.prot ∧
    (n.offerToFull f).roster = n.roster ∧ (n.offerToFull f).sensor = n.sensor ∧
    (n.offerToFull f).turns = n.turns ∧ (n.offerToFull f).freeUses = n.freeUses ∧
    (n.offerToFull f).line.view = n.line.view ∧ (n.offerToFull f).line.number = n.line.number ∧
    (n.offerToFull f).line.proposalView = n.line.proposalView ∧
    (n.offerToFull f).line.proposalCount = n.line.proposalCount ∧
    (n.offerToFull f).line.hold = n.line.hold ∧
    (n.offerToFull f).line.tripUnack = n.line.tripUnack ∧
    (n.offerToFull f).line.lastAnnouncement = n.line.lastAnnouncement ∧
    (n.offerToFull f).counters.frozen = n.counters.frozen ∧
    (n.offerToFull f).port.response = n.port.response ∧
    (n.offerToFull f).port.mask = n.port.mask ∧
    (n.offerToFull f).bus.participation = n.bus.participation ∧
    (n.offerToFull f).bus.idleCount = n.bus.idleCount ∧
    (n.offerToFull f).bus.busyCount = n.bus.busyCount ∧
    (n.offerToFull f).bus.joinTimer = n.bus.joinTimer ∧
    (n.offerToFull f).bus.joinRunning = n.bus.joinRunning ∧
    (n.offerToFull f).bus.statusTimer = n.bus.statusTimer ∧
    (n.offerToFull f).bus.statusRunning = n.bus.statusRunning ∧
    (n.offerToFull f).bus.lde = n.bus.lde ∧ (n.offerToFull f).bus.ltx = n.bus.ltx ∧
    (n.offerToFull f).faults.counts = n.faults.counts ∧
    (n.offerToFull f).faults.firstFatal = n.faults.firstFatal ∧
    (n.offerToFull f).faults.escalation = n.faults.escalation ∧
    (n.offerToFull f).faults.enables = n.faults.enables := by
  unfold Node.offerToFull
  split
  · split <;> simp [Node.joinQueue]
  · simp

/-- An offer (R139, R140). -/
@[simp] theorem Node.offer_frame (f : Frame) (n : Node) :
    (n.offer f).config = n.config ∧ (n.offer f).len = n.len ∧ (n.offer f).window = n.window ∧
    (n.offer f).marks = n.marks ∧ (n.offer f).handover = n.handover ∧ (n.offer f).prot = n.prot ∧
    (n.offer f).roster = n.roster ∧ (n.offer f).sensor = n.sensor ∧ (n.offer f).turns = n.turns ∧
    (n.offer f).freeUses = n.freeUses ∧ (n.offer f).line.view = n.line.view ∧
    (n.offer f).line.number = n.line.number ∧
    (n.offer f).line.proposalView = n.line.proposalView ∧
    (n.offer f).line.proposalCount = n.line.proposalCount ∧ (n.offer f).line.hold = n.line.hold ∧
    (n.offer f).line.tripUnack = n.line.tripUnack ∧
    (n.offer f).line.lastAnnouncement = n.line.lastAnnouncement ∧
    (n.offer f).counters.frozen = n.counters.frozen ∧
    (n.offer f).port.response = n.port.response ∧ (n.offer f).port.mask = n.port.mask ∧
    (n.offer f).bus.participation = n.bus.participation ∧
    (n.offer f).bus.idleCount = n.bus.idleCount ∧ (n.offer f).bus.busyCount = n.bus.busyCount ∧
    (n.offer f).bus.joinTimer = n.bus.joinTimer ∧
    (n.offer f).bus.joinRunning = n.bus.joinRunning ∧
    (n.offer f).bus.statusTimer = n.bus.statusTimer ∧
    (n.offer f).bus.statusRunning = n.bus.statusRunning ∧ (n.offer f).bus.lde = n.bus.lde ∧
    (n.offer f).bus.ltx = n.bus.ltx ∧ (n.offer f).faults.counts = n.faults.counts ∧
    (n.offer f).faults.firstFatal = n.faults.firstFatal ∧
    (n.offer f).faults.escalation = n.faults.escalation ∧
    (n.offer f).faults.enables = n.faults.enables := by
  unfold Node.offer
  split
  · simp
  · split <;> simp [Node.joinQueue]

/-- With room a frame offered in ACTIVE joins as the newest (R139). -/
theorem Node.offer_room (f : Frame) (n : Node) (ha : n.active = true) (hq : n.queueFull = false) :
    n.offer f = n.joinQueue (QueuedFrame.fresh f false) := by
  simp [Node.offer, ha, hq]

end Sys2Proof.Machine
end

