-- ==== Sys2Proof/Laws/Follow.lean ====
section
/-! SUPPORT. When the blocks that follow others have nothing to follow: counters, lines, hold reasons
and waiting faults; and that this depends on a few fields alone. -/

namespace Sys2Proof.Machine

/-- A line with the latch option that is asserted at entry to OFFLINE stays asserted, by its latch, for
as long as the view is not RUN (R116, R119). -/
theorem Node.evalLine_hold (n : Node) (a : ActionConfig) (l : ActionLine) (hl : a.latch ≠ 0)
    (ha : l.asserted = true) (hv : n.line.view ≠ .run) :
    n.evalLine a (ActionLine.hold a l) = { latch := true, asserted := true } := by
  simp [Node.evalLine, ActionLine.hold, latchAfter, hl, ha, hv]

/-- A line without the latch option enters OFFLINE as it is (R119). -/
theorem ActionLine.hold_noLatch (a : ActionConfig) (l : ActionLine) (hl : a.latch = 0) :
    ActionLine.hold a l = l := by
  simp [ActionLine.hold, hl]

/-- The parts of the node that the counters' conditions read (R171). -/
theorem Node.conditionOf_congr {m n : Node} (c : Counter) (hv : m.line.view = n.line.view)
    (hs : m.len.source = n.len.source) (ha : m.handover.arrivals = n.handover.arrivals) :
    m.conditionOf c = n.conditionOf c := by
  unfold Node.conditionOf
  split <;> simp [Node.lengthDerived, Node.arrivalWaiting, hv, hs, ha]

/-- The counters follow exactly when every counter that selects a condition has recorded its value. -/
theorem Node.countersFollow_iff (n : Node) :
    n.countersFollow ↔ ∀ c ∈ n.counters.cells.toList,
      conditionCode c.code = true → c.lastCondition = n.conditionOf c := by
  constructor
  · intro h c hc hk
    have he : n.followConditions.counters.cells = n.counters.cells := by rw [h]
    unfold Node.followConditions at he
    have key : ∀ d e : Counter,
        (if conditionCode d.code then { d with lastCondition := n.conditionOf d } else d) = e →
        d.code = e.code → d.mask = e.mask → conditionCode e.code = true →
        e.lastCondition = n.conditionOf e := by
      intro d e hde hcode hmask hcc
      rw [hcode, if_pos hcc] at hde
      rw [← hde]
      unfold Node.conditionOf
      simp [hcode, hmask]
    have hcell : ∀ d : Counter, (d.addBy (fun c =>
        if conditionCode c.code && decide (c.mode = .occurrences) && n.conditionOf c &&
          !c.lastCondition then some 1 else none)).code = d.code ∧ (d.addBy (fun c =>
        if conditionCode c.code && decide (c.mode = .occurrences) && n.conditionOf c &&
          !c.lastCondition then some 1 else none)).mask = d.mask := by
      intro d
      unfold Counter.addBy Counter.add
      split
      · split <;> exact ⟨rfl, rfl⟩
      · exact ⟨rfl, rfl⟩
    have hadd : ∀ f : Counter → Option Nat, (∀ d : Counter, (d.addBy f).code = d.code ∧
        (d.addBy f).mask = d.mask) → ∀ i, ((n.addCounters f).counters.cells.get i).code =
        (n.counters.cells.get i).code ∧ ((n.addCounters f).counters.cells.get i).mask =
        (n.counters.cells.get i).mask := by
      intro f hf i
      have hg : ∀ q : Quad Counter, (q.map (Counter.addBy f)).get i = (q.get i).addBy f := by
        intro q
        unfold Quad.get Quad.map
        split <;> rfl
      unfold Node.addCounters
      split
      · exact ⟨rfl, rfl⟩
      · split
        · simp only [Node.notice_frame]
          rw [hg]
          exact hf _
        · simp only []
          rw [hg]
          exact hf _
    have hget : ∀ i, (n.counters.cells.get i).lastCondition = n.conditionOf (n.counters.cells.get i) ∨
        conditionCode (n.counters.cells.get i).code ≠ true := by
      intro i
      by_cases hcc : conditionCode (n.counters.cells.get i).code = true
      · left
        have hi := congrArg (fun q : Quad Counter => q.get i) he
        have hmap : ∀ (q : Quad Counter) (f : Counter → Counter), (q.map f).get i = f (q.get i) := by
          intro q f
          unfold Quad.get Quad.map
          split <;> rfl
        simp only [hmap] at hi
        have h2 := hadd _ hcell i
        exact key _ _ hi h2.1 h2.2 hcc
      · exact Or.inr hcc
    simp only [Quad.toList, List.mem_cons, List.not_mem_nil, or_false] at hc
    rcases hc with rfl | rfl | rfl | rfl
    · exact (hget 0).resolve_right (not_not_intro hk)
    · exact (hget 1).resolve_right (not_not_intro hk)
    · exact (hget 2).resolve_right (not_not_intro hk)
    · exact (hget 3).resolve_right (not_not_intro hk)
  · intro h
    have hnone : ∀ c ∈ n.counters.cells.toList,
        (if conditionCode c.code && decide (c.mode = .occurrences) && n.conditionOf c &&
          !c.lastCondition then some 1 else none : Option Nat) = none := by
      intro c hc
      by_cases hk : conditionCode c.code = true
      · rw [h c hc hk]
        cases n.conditionOf c <;> simp
      · simp [hk]
    have hsame : ∀ c ∈ n.counters.cells.toList,
        (if conditionCode c.code then { c with lastCondition := n.conditionOf c } else c) = c := by
      intro c hc
      split
      · rename_i hk
        rw [← h c hc hk]
      · rfl
    have hadd : (n.addCounters fun c =>
        if conditionCode c.code && decide (c.mode = .occurrences) && n.conditionOf c &&
          !c.lastCondition then some 1 else none) = n := by
      unfold Node.addCounters
      split
      · rfl
      · have h0 := hnone n.counters.cells.q0 (by simp [Quad.toList])
        have h1 := hnone n.counters.cells.q1 (by simp [Quad.toList])
        have h2 := hnone n.counters.cells.q2 (by simp [Quad.toList])
        have h3 := hnone n.counters.cells.q3 (by simp [Quad.toList])
        simp only [Quad.toList, List.any_cons, List.any_nil, Counter.overflowsBy, Counter.wrapsBy, h0, h1, h2,
          h3, Bool.and_false, Bool.or_self, Bool.false_eq_true, if_false, Quad.map, Counter.addBy]
    unfold Node.countersFollow Node.followConditions
    simp only [hadd]
    have e0 := hsame n.counters.cells.q0 (by simp [Quad.toList])
    have e1 := hsame n.counters.cells.q1 (by simp [Quad.toList])
    have e2 := hsame n.counters.cells.q2 (by simp [Quad.toList])
    have e3 := hsame n.counters.cells.q3 (by simp [Quad.toList])
    simp only [Quad.map, e0, e1, e2, e3]

/-- Whether the counters follow depends on the counters and on what their conditions read. -/
theorem Node.countersFollow_congr {m n : Node} (hc : m.counters = n.counters)
    (hv : m.line.view = n.line.view) (hs : m.len.source = n.len.source)
    (ha : m.handover.arrivals = n.handover.arrivals) (h : n.countersFollow) : m.countersFollow := by
  rw [Node.countersFollow_iff] at h ⊢
  intro c hm hk
  rw [hc] at hm
  rw [Node.conditionOf_congr c hv hs ha]
  exact h c hm hk

/-- A line's condition reads these parts alone (R113). -/
theorem Node.lineCondition_congr {m n : Node} (a : ActionConfig) (hc : m.config = n.config)
    (hv : m.line.view = n.line.view) (hs : m.len.source = n.len.source)
    (ht : m.prot.timer = n.prot.timer) (hm : m.marks.table = n.marks.table)
    (hch : m.sensor.channels = n.sensor.channels)
    (hp : m.bus.participation = n.bus.participation) : m.lineCondition a = n.lineCondition a := by
  unfold Node.lineCondition
  split <;> simp [Node.dwell1, Node.dwell2, Node.spanOpen, Node.sensorOut, Node.sensorFailed,
    Node.lengthDerived, Node.active, Node.configured, hc, hv, hs, ht, hm, hch, hp]

/-- Whether the lines follow depends on the lines and on what their conditions read. -/
theorem Node.linesFollow_congr {m n : Node} (hc : m.config = n.config)
    (hv : m.line.view = n.line.view) (hs : m.len.source = n.len.source) (hr : m.prot = n.prot)
    (hm : m.marks.table = n.marks.table) (hch : m.sensor.channels = n.sensor.channels)
    (hp : m.bus.participation = n.bus.participation) (h : n.linesFollow) : m.linesFollow := by
  obtain ⟨hd, he⟩ := h
  refine ⟨by simp [hr, hd, Node.configured, hp], ?_⟩
  have hl : n.prot.driven = true →
      n.config.lines.zip n.evalLine n.prot.lines = n.prot.lines := by
    intro hdr
    have := congrArg (fun k : Node => k.prot.lines) he
    simpa [Node.evalLines, hdr] using this
  unfold Node.evalLines
  split
  · rename_i hdr
    rw [hr] at hdr
    have heval : m.evalLine = n.evalLine := by
      funext a l
      unfold Node.evalLine
      rw [Node.lineCondition_congr a hc hv hs (by rw [hr]) hm hch hp, hv]
    have hz : m.config.lines.zip m.evalLine m.prot.lines = m.prot.lines := by
      rw [heval, hc, hr]
      exact hl hdr
    rw [hz]
  · rfl

/-- With no fault waiting there is none to take (R183). -/
theorem Node.takeFaults_nil (n : Node) (h : n.faults.reported = []) : n.takeFaults = n := by
  simp [Node.takeFaults, h]

/-- With no fault waiting a block is done once the followers have taken its event in. -/
theorem Node.finish_nil (n : Node) (h : n.faults.reported = []) : n.finish = n.settle := by
  simp [Node.finish, h, Node.takeFaults_nil]

/-- Nothing is left to follow: settling changes nothing (R100, R114, R171). -/
theorem Node.settle_same (n : Node) (hc : n.countersFollow) (hl : n.evalLines = n)
    (ho : n.line.own = none) : n.settle = n := by
  unfold Node.settle
  rw [hc, hl, Node.denyOwn_none n ho]

/-- A quiet node is done with an event that changed nothing others follow. -/
theorem Node.finish_quiet (n : Node) (h : n.quiet) : n.finish = n := by
  rw [Node.finish_nil n h.1.2, Node.settle_same n h.2.2.1 h.2.1.2 h.2.2.2]

end Sys2Proof.Machine
end

