-- ==== Sys2Proof/Laws/Faults.lean ====
section
/-! SUPPORT. What taking faults leaves unchanged when none of them is FATAL. -/

namespace Sys2Proof.Machine

/-- `m` is `n` but for what taking faults that are not FATAL may touch (R183). -/
def Node.keptByFaults (m n : Node) : Prop :=
  m = { n with
    port.notices := m.port.notices
    faults.counts := m.faults.counts
    faults.reported := m.faults.reported
    bus.queue := m.bus.queue
    turns := m.turns }

/-- A kind that is FATAL only when it is escalated (Table 11-4, R183). -/
def mildKind (k : FaultKind) : Bool :=
  decide (k ≠ .encoderLost) && decide (k ≠ .duplicateStation) && decide (k ≠ .lineJam)

/-- Nothing is escalated and no fault that waits is FATAL by itself. -/
def Node.mild (n : Node) : Prop :=
  n.faults.escalation = 0 ∧ ∀ r ∈ n.faults.reported, mildKind r.kind = true

/-- Every node is kept as it is. -/
theorem Node.keptByFaults_refl (n : Node) : n.keptByFaults n := rfl

/-- What two turns keep, both keep. -/
theorem Node.keptByFaults_trans {l m n : Node} (h : l.keptByFaults m) (k : m.keptByFaults n) :
    l.keptByFaults n := by
  unfold Node.keptByFaults at *
  rw [k] at h
  exact h

/-- Without escalation a mild kind is not FATAL. -/
theorem classOf_mild (b : Bool) (k : FaultKind) (h : mildKind k = true) :
    k.classOf b 0 ≠ .fatal := by
  revert h
  cases b <;> cases k <;> decide

/-- Offering a FAULT frame touches the queue and the FRAME_DROPPED that may wait (R139, R140). -/
theorem Node.offerFault_kept (p : FaultPayload) (n : Node) :
    (n.offer (.fault p)).keptByFaults n ∧
    (n.mild → (n.offer (.fault p)).mild) := by
  unfold Node.offer
  split
  · exact ⟨rfl, id⟩
  · split
    · refine ⟨by simp [Node.offerToFull, Frame.cls, Node.dropFault, Node.frameLost,
        QueuedFrame.fresh, Node.faultSilent, Node.keptByFaults], ?_⟩
      intro h
      simp only [Node.offerToFull, Frame.cls, Node.dropFault, Node.frameLost, QueuedFrame.fresh]
      refine ⟨by simpa [Node.faultSilent] using h.1, ?_⟩
      intro r hr
      simp only [Nat.reduceLT, if_false, Node.faultSilent_frame, List.mem_append,
        List.mem_singleton] at hr
      rcases hr with hr | rfl
      · exact h.2 r hr
      · decide
    · exact ⟨rfl, id⟩

/-- Reporting a fault's class touches notices and the queue (R183). -/
theorem Node.reportClass_kept (frames : Bool) (c : FaultClass) (k : FaultKind) (n : Node) :
    (n.reportClass frames c k).keptByFaults n ∧ (n.mild → (n.reportClass frames c k).mild) := by
  have hn : (n.faultNotice c).keptByFaults n ∧ (n.mild → (n.faultNotice c).mild) := by
    unfold Node.faultNotice
    split
    · exact ⟨rfl, fun h => ⟨h.1, h.2⟩⟩
    · exact ⟨rfl, id⟩
  unfold Node.reportClass
  simp only
  split
  · have ho := Node.offerFault_kept { cls := c, kind := k } (n.faultNotice c)
    exact ⟨Node.keptByFaults_trans ho.1 hn.1, fun h => ho.2 (hn.2 h)⟩
  · exact hn

/-- Counting a fault touches its count alone (R183). -/
theorem Node.countFault_kept (k : FaultKind) (n : Node) :
    (n.countFault k).keptByFaults n ∧ (n.mild → (n.countFault k).mild) :=
  ⟨rfl, fun h => ⟨h.1, h.2⟩⟩

/-- Taking a fault that is not FATAL, frames as `frames` says (R183). -/
theorem Node.takeMild_kept (frames : Bool) (r : FaultReport) (n : Node) :
    ((n.countFault r.kind).reportClass frames (n.faultClass r.kind) r.kind).keptByFaults n ∧
    (n.mild →
      ((n.countFault r.kind).reportClass frames (n.faultClass r.kind) r.kind).mild) := by
  have h1 := Node.countFault_kept r.kind n
  have h2 := Node.reportClass_kept frames (n.faultClass r.kind) r.kind (n.countFault r.kind)
  exact ⟨Node.keptByFaults_trans h2.1 h1.1, fun h => h2.2 (h1.2 h)⟩

/-- A mild node takes no FATAL fault. -/
theorem Node.faultClass_mild (n : Node) (k : FaultKind) (h : n.mild) (hk : mildKind k = true) :
    n.faultClass k ≠ .fatal := by
  unfold Node.faultClass
  rw [h.1]
  exact classOf_mild _ k hk

/-- One mild fault taken by any of the three turns (R183). -/
theorem Node.take_kept (n : Node) (r : FaultReport) (h : n.mild) (hk : mildKind r.kind = true) :
    ((n.takeFault r).keptByFaults n ∧ (n.takeFault r).mild) ∧
    ((n.takeFollowing r).keptByFaults n ∧ (n.takeFollowing r).mild) ∧
    ((n.takeCounted r).keptByFaults n ∧ (n.takeCounted r).mild) := by
  have hc := Node.faultClass_mild n r.kind h hk
  have h1 := Node.takeMild_kept (!r.silent) r n
  have h2 := Node.takeMild_kept false r n
  refine ⟨?_, ?_, ?_⟩
  · unfold Node.takeFault
    simp only [if_neg hc]
    exact ⟨h1.1, h1.2 h⟩
  · unfold Node.takeFollowing
    simp only [if_neg hc]
    exact ⟨h2.1, h2.2 h⟩
  · unfold Node.takeCounted
    simp only [if_neg hc]
    exact ⟨h2.1, h2.2 h⟩

/-- A list of mild faults taken one after the other. -/
theorem Node.foldl_kept (take : Node → FaultReport → Node)
    (ht : ∀ n r, n.mild → mildKind r.kind = true → (take n r).keptByFaults n ∧ (take n r).mild)
    (l : List FaultReport) (n : Node) (h : n.mild) (hl : ∀ r ∈ l, mildKind r.kind = true) :
    (l.foldl take n).keptByFaults n ∧ (l.foldl take n).mild := by
  induction l generalizing n with
  | nil => exact ⟨rfl, h⟩
  | cons r l ih =>
    have h1 := ht n r h (hl r (List.mem_cons_self ..))
    have h2 := ih (take n r) h1.2 fun x hx => hl x (List.mem_cons_of_mem _ hx)
    exact ⟨Node.keptByFaults_trans h2.1 h1.1, h2.2⟩

/-- A list put in order holds nothing new. -/
theorem mem_permute {α : Type} (k : Nat) (ts : List Nat) (l : List α) (a : α)
    (h : a ∈ permute k ts l) : a ∈ l := by
  induction k generalizing ts l with
  | zero => exact h
  | succ k ih =>
    unfold permute at h
    split at h
    · rename_i b hb
      rcases List.mem_cons.1 h with rfl | h
      · exact List.mem_of_getElem? hb
      · exact List.mem_of_mem_eraseIdx (ih _ _ h)
    · exact h

/-- The faults that wait are taken, all mild. -/
theorem Node.takeReported_kept (take : Node → FaultReport → Node)
    (ht : ∀ n r, n.mild → mildKind r.kind = true → (take n r).keptByFaults n ∧ (take n r).mild)
    (n : Node) (h : n.mild) :
    (n.takeReported take).keptByFaults n ∧ (n.takeReported take).mild := by
  unfold Node.takeReported
  have hb : (Node.spendOrder n.faults.reported.length { n with faults.reported := [] }).mild :=
    ⟨h.1, by simp [Node.spendOrder]⟩
  have h2 := Node.foldl_kept take ht (n.inOrder n.faults.reported) _ hb
    fun r hr => h.2 r (mem_permute _ _ _ _ hr)
  refine ⟨Node.keptByFaults_trans h2.1 ?_, h2.2⟩
  rfl

/-- Taking every fault that waits, none FATAL: what is kept, and none waits after it (R183). -/
theorem Node.takeFaults_kept (n : Node) (h : n.mild) :
    n.takeFaults.keptByFaults n ∧ n.takeFaults.mild ∧ n.takeFaults.faults.reported = [] := by
  unfold Node.takeFaults
  split
  · rename_i he
    exact ⟨rfl, h, by simpa using he⟩
  · have h1 := Node.takeReported_kept Node.takeFault (fun n r hn hk => (n.take_kept r hn hk).1) n h
    have h2 := Node.takeReported_kept Node.takeFollowing
      (fun n r hn hk => (n.take_kept r hn hk).2.1) _ h1.2
    have h3 := Node.takeReported_kept Node.takeCounted
      (fun n r hn hk => (n.take_kept r hn hk).2.2) _ h2.2
    have hk := Node.keptByFaults_trans h3.1 (Node.keptByFaults_trans h2.1 h1.1)
    refine ⟨?_, ⟨h3.2.1, by simp⟩, rfl⟩
    exact Node.keptByFaults_trans (m := ((n.takeReported Node.takeFault).takeReported
      Node.takeFollowing).takeReported Node.takeCounted) rfl hk

/-- Without an own proposal a block whose faults are mild is done once they are taken and the
followers have taken its event in. -/
theorem Node.finish_mild (n : Node) (h : n.mild) (ho : n.line.own = none) :
    n.finish = n.takeFaults.settle ∧ n.takeFaults.keptByFaults n ∧
    n.takeFaults.faults.reported = [] := by
  have hk := Node.takeFaults_kept n h
  exact ⟨by simp [Node.finish, ho], hk.1, hk.2.2⟩

end Sys2Proof.Machine
end

