-- ==== Sys2Proof/Laws/Line.lean ====
section
/-! SUPPORT. Lemmas of the requests of a part held in reset, of the line's bit times and of the step that
takes no command. -/

namespace Sys2Proof.Machine

/-! ### Requests -/

/-- From START onward the part is not held (R180). -/
theorem Node.inReset_configured (n : Node) (h : n.configured = true) : n.inReset = false := by
  simp [Node.inReset, h]

/-- A part that is not held takes a request. -/
theorem Node.takeRequest_taken (act : Node → Node) (n : Node) (h : n.inReset = false) :
    n.takeRequest act = act n := by simp [Node.takeRequest, h]

/-- A part that is held takes none. -/
theorem Node.takeRequest_held (act : Node → Node) (n : Node) (h : n.inReset = true) :
    n.takeRequest act = n := by simp [Node.takeRequest, h]

/-- A request of the right length is judged by its rule. -/
theorem Node.request_right (args : List Byte) (act : Node → Node) (n : Node)
    (h : n.inReset = false) : Node.request args.length args act n = act n := by
  simp [Node.request, Node.takeRequest, h]

/-- A request of another length is refused at field 0. -/
theorem Node.request_wrong (len : Nat) (args : List Byte) (act : Node → Node) (n : Node)
    (h : n.inReset = false) (hl : args.length ≠ len) :
    Node.request len args act n = n.refuseArgument 0 := by
  simp [Node.request, Node.takeRequest, h, hl]

/-! ### Bit times -/

/-- Where the own drive ends the line goes on: its level and the time of it stay (R135). -/
@[simp] theorem LineTap.undriven_frame (driving : Bool) (t : LineTap) :
    (t.undriven driving).others = t.others ∧ (t.undriven driving).lrx = t.lrx ∧
    (t.undriven driving).phase = t.phase ∧
    (t.undriven driving).driven = 0 ∧ (t.undriven driving).clash = false :=
  ⟨rfl, rfl, rfl, rfl, rfl⟩

/-- A station that drives nothing leaves the line as it is, what is heard of another station's frame with
it (R135, R137). -/
@[simp] theorem LineTap.undriven_silent (t : LineTap) :
    t.undriven false = { t with driven := 0, clash := false } := rfl

/-- A frame cut before its first bit time has passed has ended the idle line (R135, R142). -/
theorem LineTap.undriven_begun (t : LineTap) (h : t.driven = 0) :
    (t.undriven true).recessive = 0 := by simp [LineTap.undriven, h]

/-- Every byte ends with a recessive stop bit and holds a dominant bit, so none makes the line idle
(R135). -/
theorem recessiveTail_bounds : ∀ b : Byte, 1 ≤ recessiveTail b ∧ recessiveTail b < Config.idleRun := by
  decide +kernel

/-- At the end of a transmission the line is not idle (R135, R142). -/
theorem Node.lineSent_notIdle (n : Node) : n.lineSent.bus.idle = false := by
  have h := (recessiveTail_bounds (n.bus.ltx.getLastD 0)).2
  simpa [Node.lineSent, LineBus.idle] using Nat.ne_of_lt h

/-- At a bit read back dominant the line is not idle (R135, R143). -/
theorem Node.lineDominant_notIdle (n : Node) : n.lineDominant.bus.idle = false := rfl

/-- The end of a transmission changes what is followed of the line alone. -/
theorem Node.lineSent_frame (n : Node) :
    n.lineSent = { n with bus.idleCount := 0, bus.tap := n.lineSent.bus.tap } := rfl

/-- A bit read back dominant changes what is followed of the line alone. -/
theorem Node.lineDominant_frame (n : Node) :
    n.lineDominant = { n with bus.idleCount := 0, bus.tap := n.lineDominant.bus.tap } := rfl

/-- A bit time changes the two counts and what is followed of the line, nothing else. -/
theorem LineBus.bitTime_frame (receiving : Bool) (b : LineBus) :
    b.bitTime receiving = { b with
      idleCount := (b.bitTime receiving).idleCount
      busyCount := (b.bitTime receiving).busyCount
      tap := (b.bitTime receiving).tap } := rfl

/-- Any number of bit times change those alone. -/
theorem LineBus.bitTimes_frame (receiving : Bool) (gap : Option Nat) (k : Nat) (b : LineBus) :
    LineBus.bitTimes receiving gap k b = { b with
      idleCount := (LineBus.bitTimes receiving gap k b).idleCount
      busyCount := (LineBus.bitTimes receiving gap k b).busyCount
      tap := (LineBus.bitTimes receiving gap k b).tap } := by
  induction k generalizing b with
  | zero => rfl
  | succ k ih =>
    unfold LineBus.bitTimes
    dsimp only
    split
    · rfl
    · rw [ih]
      rfl

/-- A dominant level of the line ends the idle count. -/
theorem LineBus.bitTime_dominant (receiving : Bool) (b : LineBus) (h : b.level = true) :
    (b.bitTime receiving).idleCount = 0 ∧ (b.bitTime receiving).tap.recessive = 0 := by
  simp [LineBus.bitTime, LineBus.recessiveAfter, h]

/-- On an idle line a recessive level counts. -/
theorem LineBus.bitTime_idle (receiving : Bool) (b : LineBus) (h : b.level = false)
    (hi : b.idle = true) :
    (b.bitTime receiving).idleCount = addHold Config.max16 b.idleCount 1 := by
  simp [LineBus.bitTime, h, hi]

/-- The levels of one byte as driven on the line are read back as that byte with a recessive stop bit. -/
theorem levelsBytes_byte (k : Nat) (b : Byte) (rest : List Bool) :
    levelsBytes (k + 1) ((lineBits b).map (fun bit => !bit) ++ rest) =
      (b, false) :: levelsBytes k rest := by
  have hb : ∀ b : Byte, levelsByte (((lineBits b).map (fun bit => !bit)).tail.take 8) = b ∧
      (lineBits b).map (fun bit => !bit) =
        true :: (((lineBits b).map (fun bit => !bit)).tail.take 8 ++ [false]) ∧
      (((lineBits b).map (fun bit => !bit)).tail.take 8).length = 8 := by decide +kernel
  obtain ⟨h1, h2, h3⟩ := hb b
  generalize ((lineBits b).map (fun bit => !bit)).tail.take 8 = l at h1 h2 h3
  rw [h2]
  simp [levelsBytes, h1, h3, List.drop_append, List.drop_eq_nil_of_le]

/-- A recessive line holds no byte. -/
theorem levelsBytes_recessive (k n : Nat) : levelsBytes k (List.replicate n false) = [] := by
  induction k generalizing n with
  | zero => rfl
  | succ k ih => cases n with
    | zero => rfl
    | succ n => simpa [List.replicate_succ, levelsBytes] using ih n

/-! ### Events due -/

/-- A command is among those due by a condition exactly when the condition holds and it is that one. -/
theorem mem_dueWhen (b : Bool) (c d : Instr) : c ∈ dueWhen b d ↔ b = true ∧ c = d := by
  cases b <;> simp [dueWhen]

/-- Without a command the part idles before START. -/
theorem step_unconfigured (s : State) (h : s.pending = []) (hu : s.node.configured = false) :
    step s = .next s := by simp [step, State.idleStep, h, hu]

/-- With no event due, time passes. -/
theorem step_passes (s : State) (h : s.pending = []) (hc : s.node.configured = true)
    (hd : s.node.dueEvents = []) : step s = .next { s with node := s.node.pass } := by
  simp [step, State.idleStep, h, hc, hd]

/-- Time that passes is bit times of the line and, at its end, a millisecond of every timer. -/
theorem Node.pass_cases (n : Node) : ∃ bus : LineBus,
    bus = { n.bus with idleCount := bus.idleCount, busyCount := bus.busyCount, tap := bus.tap } ∧
    (n.pass = { n with bus := bus } ∨ n.pass = Node.tick { n with bus := bus }) := by
  refine ⟨_, LineBus.bitTimes_frame n.receiving n.waitingGap
    (bitsPerMs n.config.bitRate - n.bus.tap.phase) n.bus, ?_⟩
  unfold Node.pass
  dsimp only
  split
  · exact .inr rfl
  · exact .inl rfl

end Sys2Proof.Machine
end

