-- ==== Sys2Proof/Laws/PerInstr.lean ====
section
/-! SUPPORT. The family Codes, constructor by constructor: a well-formed request is the one that its
frame of the station port spells (Table 8-10, R154, R176). -/

namespace Sys2Proof

/-- The kind byte (Table 8-10) and the argument bytes of a request; none for an event. -/
def Instr.requestParts : Instr → Option (Byte × List Byte)
  | .configure args => some (0x01#8, args)
  | .start args => some (0x02#8, args)
  | .restart args => some (0x03#8, args)
  | .readStatus args => some (0x10#8, args)
  | .readWindow args => some (0x11#8, args)
  | .readRoster args => some (0x12#8, args)
  | .readLog args => some (0x13#8, args)
  | .readFaults args => some (0x14#8, args)
  | .clearFaults args => some (0x15#8, args)
  | .postMark args => some (0x20#8, args)
  | .openMark args => some (0x21#8, args)
  | .closeMark args => some (0x22#8, args)
  | .announceStop args => some (0x30#8, args)
  | .announceTrip args => some (0x31#8, args)
  | .propose args => some (0x32#8, args)
  | .setHold args => some (0x33#8, args)
  | .clearHold args => some (0x34#8, args)
  | .ackTrip args => some (0x35#8, args)
  | .setParticipation args => some (0x40#8, args)
  | .returnToEncoder args => some (0x41#8, args)
  | .sensorMode args => some (0x50#8, args)
  | .sensorTransact args => some (0x51#8, args)
  | .sensorRead args => some (0x52#8, args)
  | .counterSelect args => some (0x60#8, args)
  | .counterRead args => some (0x61#8, args)
  | .freeze args => some (0x62#8, args)
  | .thaw args => some (0x63#8, args)
  | .readNotices args => some (0x70#8, args)
  | .clearNotices args => some (0x71#8, args)
  | .setNoticeMask args => some (0x72#8, args)
  | .unknownRequest kind args => some (kind, args)
  | _ => none

/-- A frame of kind byte, length byte and arguments spells the request of that kind. -/
theorem portRequest_known (kind : Byte) (args : List Byte) (c : Instr) (hk : kind ≠ 0)
    (hc : requestOf kind.toNat args = some c) (ha : args.length ≤ 255) :
    portRequest (kind :: BitVec.ofNat 8 args.length :: args) = some c := by
  have hl : (BitVec.ofNat 8 args.length).toNat = args.length := by
    simp only [BitVec.toNat_ofNat]; omega
  simp only [portRequest, hl, if_neg hk, lt_irrefl, if_false, List.take_length, hc]

/-- A frame whose kind byte is not in Table 8-10 spells an unknown request. -/
theorem portRequest_unknown (kind : Byte) (args : List Byte) (hk : kind ≠ 0)
    (hc : requestOf kind.toNat args = none) (ha : args.length ≤ 255) :
    portRequest (kind :: BitVec.ofNat 8 args.length :: args) = some (.unknownRequest kind args) := by
  have hl : (BitVec.ofNat 8 args.length).toNat = args.length := by
    simp only [BitVec.toNat_ofNat]; omega
  simp only [portRequest, hl, if_neg hk, lt_irrefl, if_false, List.take_length, hc]

/-- A kind byte that is not in Table 8-10 names no request. -/
theorem requestOf_none (k : Nat) (args : List Byte) (h : requestKinds.contains k = false) :
    requestOf k args = none := by
  unfold requestOf
  split <;> first | rfl | (exfalso; revert h; decide)

namespace Laws.Codes

/-- The frame of a well-formed request spells it (R154, R176). -/
def Statement (i : Instr) : Prop :=
  ∀ kind args, i.requestParts = some (kind, args) → i.wellFormed = true →
    portRequest (kind :: BitVec.ofNat 8 args.length :: args) = some i

/-- The statement for a request of a kind in Table 8-10. -/
theorem known (i : Instr) (k : Byte) (as : List Byte) (hp : i.requestParts = some (k, as))
    (hw : i.wellFormed = argsOk as) (hk : k ≠ 0) (hc : requestOf k.toNat as = some i) :
    Statement i := by
  intro kind args h w
  rw [hp] at h
  cases h
  exact portRequest_known _ _ _ hk hc (by simpa [hw, argsOk] using w)

theorem powerOnReset (enc : EncoderLevels) (held : Bool) :
    Statement (.powerOnReset enc held) := nofun

theorem configure (args : List Byte) : Statement (.configure args) :=
  known _ 0x01#8 args rfl rfl (by decide) rfl

theorem start (args : List Byte) : Statement (.start args) :=
  known _ 0x02#8 args rfl rfl (by decide) rfl

theorem restart (args : List Byte) : Statement (.restart args) :=
  known _ 0x03#8 args rfl rfl (by decide) rfl

theorem readStatus (args : List Byte) : Statement (.readStatus args) :=
  known _ 0x10#8 args rfl rfl (by decide) rfl

theorem readWindow (args : List Byte) : Statement (.readWindow args) :=
  known _ 0x11#8 args rfl rfl (by decide) rfl

theorem readRoster (args : List Byte) : Statement (.readRoster args) :=
  known _ 0x12#8 args rfl rfl (by decide) rfl

theorem readLog (args : List Byte) : Statement (.readLog args) :=
  known _ 0x13#8 args rfl rfl (by decide) rfl

theorem readFaults (args : List Byte) : Statement (.readFaults args) :=
  known _ 0x14#8 args rfl rfl (by decide) rfl

theorem clearFaults (args : List Byte) : Statement (.clearFaults args) :=
  known _ 0x15#8 args rfl rfl (by decide) rfl

theorem postMark (args : List Byte) : Statement (.postMark args) :=
  known _ 0x20#8 args rfl rfl (by decide) rfl

theorem openMark (args : List Byte) : Statement (.openMark args) :=
  known _ 0x21#8 args rfl rfl (by decide) rfl

theorem closeMark (args : List Byte) : Statement (.closeMark args) :=
  known _ 0x22#8 args rfl rfl (by decide) rfl

theorem announceStop (args : List Byte) : Statement (.announceStop args) :=
  known _ 0x30#8 args rfl rfl (by decide) rfl

theorem announceTrip (args : List Byte) : Statement (.announceTrip args) :=
  known _ 0x31#8 args rfl rfl (by decide) rfl

theorem propose (args : List Byte) : Statement (.propose args) :=
  known _ 0x32#8 args rfl rfl (by decide) rfl

theorem setHold (args : List Byte) : Statement (.setHold args) :=
  known _ 0x33#8 args rfl rfl (by decide) rfl

theorem clearHold (args : List Byte) : Statement (.clearHold args) :=
  known _ 0x34#8 args rfl rfl (by decide) rfl

theorem ackTrip (args : List Byte) : Statement (.ackTrip args) :=
  known _ 0x35#8 args rfl rfl (by decide) rfl

theorem setParticipation (args : List Byte) : Statement (.setParticipation args) :=
  known _ 0x40#8 args rfl rfl (by decide) rfl

theorem returnToEncoder (args : List Byte) : Statement (.returnToEncoder args) :=
  known _ 0x41#8 args rfl rfl (by decide) rfl

theorem sensorMode (args : List Byte) : Statement (.sensorMode args) :=
  known _ 0x50#8 args rfl rfl (by decide) rfl

theorem sensorTransact (args : List Byte) : Statement (.sensorTransact args) :=
  known _ 0x51#8 args rfl rfl (by decide) rfl

theorem sensorRead (args : List Byte) : Statement (.sensorRead args) :=
  known _ 0x52#8 args rfl rfl (by decide) rfl

theorem counterSelect (args : List Byte) : Statement (.counterSelect args) :=
  known _ 0x60#8 args rfl rfl (by decide) rfl

theorem counterRead (args : List Byte) : Statement (.counterRead args) :=
  known _ 0x61#8 args rfl rfl (by decide) rfl

theorem freeze (args : List Byte) : Statement (.freeze args) :=
  known _ 0x62#8 args rfl rfl (by decide) rfl

theorem thaw (args : List Byte) : Statement (.thaw args) :=
  known _ 0x63#8 args rfl rfl (by decide) rfl

theorem readNotices (args : List Byte) : Statement (.readNotices args) :=
  known _ 0x70#8 args rfl rfl (by decide) rfl

theorem clearNotices (args : List Byte) : Statement (.clearNotices args) :=
  known _ 0x71#8 args rfl rfl (by decide) rfl

theorem setNoticeMask (args : List Byte) : Statement (.setNoticeMask args) :=
  known _ 0x72#8 args rfl rfl (by decide) rfl

theorem unknownRequest (kind : Byte) (args : List Byte) : Statement (.unknownRequest kind args) := by
  intro k as h w
  cases h
  simp only [Instr.wellFormed, argsOk, Bool.and_eq_true, decide_eq_true_eq, Bool.not_eq_true'] at w
  exact portRequest_unknown _ _ (fun hz => w.1.2 (by rw [hz]; rfl)) (requestOf_none _ _ w.2) w.1.1

theorem quadratureChange (encA encB : Bool) :
    Statement (.quadratureChange encA encB) := nofun

theorem stall :
    Statement .stall := nofun

theorem derivedAdvance :
    Statement .derivedAdvance := nofun

theorem referenceAbsent :
    Statement .referenceAbsent := nofun

theorem speedIntervalEnd :
    Statement .speedIntervalEnd := nofun

theorem receiveStatus (sender : Nat) (p : StatusPayload) :
    Statement (.receiveStatus sender p) := nofun

theorem receiveHandoff (sender : Nat) (p : HandoffPayload) :
    Statement (.receiveHandoff sender p) := nofun

theorem receiveStop (sender : Nat) (p : AnnouncePayload) :
    Statement (.receiveStop sender p) := nofun

theorem receiveTrip (sender : Nat) (p : AnnouncePayload) :
    Statement (.receiveTrip sender p) := nofun

theorem receivePropose (sender : Nat) (p : ProposePayload) :
    Statement (.receivePropose sender p) := nofun

theorem receiveAssent (sender : Nat) (id : ProposalId) :
    Statement (.receiveAssent sender id) := nofun

theorem receiveHold (sender : Nat) (p : HoldPayload) :
    Statement (.receiveHold sender p) := nofun

theorem receiveEnact (sender : Nat) (p : EnactPayload) :
    Statement (.receiveEnact sender p) := nofun

theorem receiveFault (sender : Nat) (p : FaultPayload) :
    Statement (.receiveFault sender p) := nofun

theorem frameDiscarded (bytes : List Byte) (badStop : Option Nat) :
    Statement (.frameDiscarded bytes badStop) := nofun

theorem entrySilent (station : Nat) :
    Statement (.entrySilent station) := nofun

theorem transmitBegin :
    Statement .transmitBegin := nofun

theorem transmitComplete :
    Statement .transmitComplete := nofun

theorem collision :
    Statement .collision := nofun

theorem lineJam :
    Statement .lineJam := nofun

theorem statusTimer :
    Statement .statusTimer := nofun

theorem joinTimerExpiry :
    Statement .joinTimerExpiry := nofun

theorem voteTimeout :
    Statement .voteTimeout := nofun

theorem proposalViewTimeout :
    Statement .proposalViewTimeout := nofun

theorem standstillSecond :
    Statement .standstillSecond := nofun

theorem pollTimerExpiry (channel : Nat) :
    Statement (.pollTimerExpiry channel) := nofun

theorem transactionComplete (ssdi : BitVec 64) :
    Statement (.transactionComplete ssdi) := nofun

theorem timeBaseMillisecond :
    Statement .timeBaseMillisecond := nofun

end Laws.Codes

end Sys2Proof
end

