-- ==== Sys2Proof/Laws/Window.lean ====
section
/-! SUPPORT. Groups of four, and what writing into the records of the window keeps: how many there are,
their positions and, for every content function of the model, their ranges. -/

namespace Sys2Proof.Machine

/-- Reading a group after replacing one of its four. -/
theorem Quad.get_set {α : Type} (q : Quad α) (i j : Nat) (a : α) (hi : i ≤ 3) (hj : j ≤ 3) :
    (q.set i a).get j = if j = i then a else q.get j := by
  obtain _ | _ | _ | _ | i := i <;> obtain _ | _ | _ | _ | j := j <;>
    first | rfl | (exfalso; omega)

/-- Reading a group after a function was applied to each. -/
theorem Quad.get_map {α β : Type} (f : α → β) (q : Quad α) (i : Nat) :
    (q.map f).get i = f (q.get i) := by
  unfold Quad.get Quad.map
  split <;> rfl

/-- Reading a group made of two number by number. -/
theorem Quad.get_zip {α β γ : Type} (f : α → β → γ) (q : Quad α) (r : Quad β) (i : Nat) :
    (q.zip f r).get i = f (q.get i) (r.get i) := by
  unfold Quad.get Quad.zip
  split <;> rfl

/-- The content has the range that it had. -/
def sameRange (a b : Body) : Prop := a.first = b.first ∧ a.last = b.last

/-- Setting a flag keeps the range. -/
theorem setFlag_range (i : Nat) (b : Body) : sameRange (setFlag i b) b := ⟨rfl, rfl⟩

/-- Offering an entry keeps the range (R46). -/
theorem offerEntry_range (m : MarkEntry) (b : Body) : sameRange (offerEntry m b) b := by
  unfold offerEntry addEntry
  split <;> exact ⟨rfl, rfl⟩

/-- Offering entries keeps the range (R29). -/
theorem offerAll_range (ms : List MarkEntry) (b : Body) : sameRange (offerAll ms b) b := by
  induction ms generalizing b with
  | nil => exact ⟨rfl, rfl⟩
  | cons m ms ih =>
    have h1 := offerEntry_range m b
    have h2 := ih (offerEntry m b)
    exact ⟨h2.1.trans h1.1, h2.2.trans h1.2⟩

/-- Removing the origin length keeps the range (R21). -/
theorem dropOrigin_range (b : Body) : sameRange (dropOrigin b) b := by
  unfold dropOrigin
  split <;> exact ⟨rfl, rfl⟩

/-- Filling keeps the record's own range (R29). -/
theorem fillBody_range (own carried : Body) : sameRange (fillBody own carried) own := by
  have h1 := offerAll_range carried.marks
    { own with
      flags := own.flags ||| carried.flags
      skip := addHold Config.maxSkip own.skip carried.skip
      dwell := addHold Config.max16 own.dwell carried.dwell
      trail := if carried.trail.isEmpty then own.trail else carried.trail }
  unfold fillBody
  have h2 := fun b : Body => dropOrigin_range b
  exact ⟨(h2 _).1.trans h1.1, (h2 _).2.trans h1.2⟩

/-- Merging keeps the record's own range (R30). -/
theorem mergeBody_range (own carried : Body) : sameRange (mergeBody own carried) own := by
  have h1 := offerAll_range carried.marks
    { own with
      flags := own.flags ||| carried.flags
      skip := addHold Config.maxSkip own.skip carried.skip
      dwell := addHold Config.max16 own.dwell carried.dwell
      trail := if carried.trail.isEmpty then own.trail else carried.trail }
  unfold mergeBody
  have h2 := fun b : Body => dropOrigin_range b
  exact ⟨(h2 _).1.trans h1.1, (h2 _).2.trans h1.2⟩

/-- Content that reaches the entering record keeps its range (R28). -/
theorem absorb_range (own carried : Body) : sameRange (absorb own carried) own := by
  unfold absorb
  split
  · exact fillBody_range own carried
  · exact mergeBody_range own carried

/-- Binding a reading keeps the range (R161). -/
theorem bindBody_range (c : ChannelConfig) (v : Nat) (b : Body) : sameRange (bindBody c v b) b := by
  have h : sameRange (bindQuantity c.quantity v b) b := by
    unfold bindQuantity
    split <;> exact ⟨rfl, rfl⟩
  unfold bindBody
  simp only
  split
  · split
    · exact h
    · exact h
  · split
    · split
      · exact h
      · exact h
    · exact h

/-- A claim written keeps how many records there are (R27). -/
@[simp] theorem Window.write_count (c : Claim) (f : Nat → Body → Body) (w : Window) :
    (w.write c f).count = w.count ∧ (w.write c f).closed.length = w.closed.length := by
  simp [Window.write, Window.count]

/-- A chain survives a change of contents that keeps their ranges. -/
theorem chainTo_map (g : ClosedRecord → ClosedRecord)
    (hg : ∀ r, (g r).head = r.head ∧ (g r).tail = r.tail ∧ sameRange (g r).body r.body)
    (head first : Nat) (l : List ClosedRecord) (h : chainTo head first l) :
    chainTo head first (l.map g) := by
  induction l with
  | nil => exact h
  | cons r l ih =>
    cases l with
    | nil =>
      obtain ⟨h1, h2, h3⟩ := h
      exact ⟨by rw [(hg r).1, (hg r).2.1]; exact h1, by rw [(hg r).2.1]; exact h2,
        by rw [(hg r).2.2.2]; exact h3⟩
    | cons q l =>
      obtain ⟨h1, h2, h3, h4⟩ := h
      exact ⟨by rw [(hg r).1, (hg r).2.1]; exact h1, by rw [(hg r).2.1, (hg q).1]; exact h2,
        by rw [(hg q).2.2.1, (hg r).2.2.2]; exact h3, ih h4⟩

/-- A claim whose contents keep their ranges keeps the window one chain (R24, R27). -/
theorem Node.write_chained (c : Claim) (f : Nat → Body → Body)
    (hf : ∀ h b, sameRange (f h b) b) (n : Node) (h : n.windowChained) :
    ({ n with window := n.window.write c f } : Node).windowChained := by
  unfold Node.windowChained at *
  unfold Window.write
  cases he : n.window.entering with
  | none =>
    rw [he] at h
    simp only at h
    simp [h]
  | some e =>
    rw [he] at h
    simp only at h
    have hg : ∀ r : ClosedRecord,
        (if c.closed r then { r with body := f r.head r.body } else r).head = r.head ∧
        (if c.closed r then { r with body := f r.head r.body } else r).tail = r.tail ∧
        sameRange (if c.closed r then { r with body := f r.head r.body } else r).body r.body := by
      intro r
      split
      · exact ⟨rfl, rfl, hf _ _⟩
      · exact ⟨rfl, rfl, rfl, rfl⟩
    have hm := chainTo_map _ hg _ _ _ h.2
    simp only [Option.map_some]
    split
    · refine ⟨h.1, ?_⟩
      rw [(hf e.head e.body).1]
      exact hm
    · exact ⟨h.1, hm⟩

/-- A closed record joins the end of a chain (R28). -/
theorem chainTo_append (head first head' first' : Nat) (l : List ClosedRecord) (r : ClosedRecord)
    (h : chainTo head first l) (hh : r.head = head) (hf : r.body.first = first)
    (ht : r.head ≤ r.tail) (hx : r.tail = head') (hn : first' = segSucc r.body.last) :
    chainTo head' first' (l ++ [r]) := by
  induction l with
  | nil => exact ⟨ht, hx, hn⟩
  | cons q l ih =>
    cases l with
    | nil =>
      obtain ⟨h1, h2, h3⟩ := h
      exact ⟨h1, by rw [h2, hh], by rw [hf, h3], ht, hx, hn⟩
    | cons p l =>
      obtain ⟨h1, h2, h3, h4⟩ := h
      exact ⟨h1, h2, h3, ih h4⟩

/-- The oldest record leaves a chain (R42). -/
theorem chainTo_tail (head first : Nat) (r : ClosedRecord) (l : List ClosedRecord)
    (h : chainTo head first (r :: l)) : chainTo head first l := by
  cases l with
  | nil => exact True.intro
  | cons q l => exact h.2.2.2

end Sys2Proof.Machine
end

