-- ==== Sys2Proof/Tests/Slice0.lean ====
section
/-! SUPPORT. Tests: the checks on commands, small steps, and for every statement with hypotheses a state
and operands that meet them, clause by clause. -/

namespace Sys2Proof.Tests

open Sys2Proof.Machine

/-! ### The checks on commands refuse ill-formed terms -/

theorem test_wellFormed_powerOnReset : (Instr.powerOnReset { a := true, b := false } false).wellFormed = true := by decide
theorem test_illFormed_request :
    (Instr.start (List.replicate 256 0#8)).wellFormed = false ∧
    (Instr.sensorTransact (List.replicate 256 0#8)).wellFormed = false ∧
    (Instr.setNoticeMask (List.replicate 256 0#8)).wellFormed = false := by decide +kernel
theorem test_illFormed_unknownRequest_known :
    (Instr.unknownRequest 0x10#8 []).wellFormed = false := by decide
theorem test_illFormed_unknownRequest_noRequest :
    (Instr.unknownRequest 0x00#8 []).wellFormed = false := by decide
theorem test_illFormed_unknownRequest_long :
    (Instr.unknownRequest 0x7F#8 (List.replicate 256 0#8)).wellFormed = false := by decide +kernel
theorem test_wellFormed_unknownRequest : (Instr.unknownRequest 0x7F#8 [1#8]).wellFormed = true := by
  decide

def descriptor : Descriptor :=
  { role := .path, order := 3, reach := 5000, entryGap := 100, startRight := true }
def status : StatusPayload :=
  { view := .run, number := 9, speed := 700, newest := 40, descriptor := descriptor }
def body : Body :=
  { first := 101, last := 101, content := .filled, nominal := some 2000, origin := some 2004,
    beamSet := 3, flags := 0, skip := 0, marks := [], summary := 0, trail := [], pickup := none,
    moisture := none, tension := none, dwell := 0 }
def handoff : HandoffPayload := { nextNominal := some 2000, body := body }
def announce : AnnouncePayload := { number := 10, source := .localRequest, detail := 5 }
def proposalId : ProposalId := { station := 5, count := 2 }
def propose : ProposePayload := { id := proposalId, base := 9, target := .creep }
def enact : EnactPayload := { id := proposalId, base := 9, number := 10, target := .creep }

theorem test_illFormed_sender : (Instr.receiveStatus 0 status).wellFormed = false ∧
    (Instr.receiveStatus 32 status).wellFormed = false := by decide
theorem test_illFormed_status :
    (Instr.receiveStatus 5 { status with view := .unknown }).wellFormed = false ∧
    (Instr.receiveStatus 5 { status with speed := 65536 }).wellFormed = false ∧
    (Instr.receiveStatus 5 { status with newest := 16777216 }).wellFormed = false ∧
    (Instr.receiveStatus 5
      { status with
        descriptor := { descriptor with order := 0 } }).wellFormed = false := by decide
theorem test_illFormed_handoff :
    (Instr.receiveHandoff 5 { handoff with nextNominal := some 0 }).wellFormed = false ∧
    (Instr.receiveHandoff 5 { handoff with body := { body with first := 102 } }).wellFormed = false ∧
    (Instr.receiveHandoff 5
      { handoff with body := { body with content := .pending } }).wellFormed = false ∧
    (Instr.receiveHandoff 5 { handoff with body.marks :=
      [{ kind := .stop, id := 1, station := 5, offset := 4 }] }).wellFormed = false ∧
    (Instr.receiveHandoff 5
      { handoff with body.pickup := some { value := 3, count := 0 } }).wellFormed = false := by
  decide
theorem test_illFormed_announcement :
    (Instr.receiveStop 5 { announce with detail := 256 }).wellFormed = false ∧
    (Instr.receiveTrip 5 { announce with source := .fault, detail := 7 }).wellFormed = false ∧
    (Instr.receiveTrip 5 { announce with source := .relay, detail := 0 }).wellFormed = false := by
  decide
theorem test_illFormed_proposal :
    (Instr.receivePropose 5 { propose with target := .trip }).wellFormed = false ∧
    (Instr.receiveAssent 5 { proposalId with count := 256 }).wellFormed = false ∧
    (Instr.receiveHold 5 { id := { proposalId with station := 0 }, reason := .busy }).wellFormed =
      false ∧
    (Instr.receiveEnact 5 { enact with number := 65536 }).wellFormed = false := by decide
theorem test_illFormed_fault :
    (Instr.receiveFault 0 { cls := .fatal, kind := .lineJam }).wellFormed = false := by decide
theorem test_illFormed_silent : (Instr.entrySilent 32).wellFormed = false := by decide
theorem test_illFormed_channel : (Instr.pollTimerExpiry 4).wellFormed = false := by decide
theorem test_illFormed_discarded :
    (Instr.frameDiscarded (frameBytes 5 [0#8, 0#8, 0#8, 0#8] (.assent proposalId)) none).wellFormed =
      false := by decide +kernel
theorem test_wellFormed_discarded : (Instr.frameDiscarded [5#8, 6#8] none).wellFormed = true := by
  decide

/-! ### Bytes, codes and frames -/

theorem test_check_digits :
    crc [0x31#8, 0x32#8, 0x33#8, 0x34#8, 0x35#8, 0x36#8, 0x37#8, 0x38#8, 0x39#8] = 0x29B1#16 := by
  decide +kernel
theorem test_frame_assent :
    (frameBytes 7 [] (.assent proposalId)).take 5 = [7#8, 6#8, 2#8, 5#8, 2#8] := by decide +kernel
theorem test_frame_readBack :
    judge (frameBytes 5 [1#8, 2#8, 3#8, 4#8] (.handoff handoff)) none = .good 5 (.handoff handoff) := by
  decide +kernel
theorem test_gap : gapOf 0 1 = 9 ∧ gapOf 3 31 = 135 := by decide
theorem test_segment_order :
    segSucc 16777215 = 1 ∧ segNewer 1 16777215 = true ∧ segNewer 16777215 1 = false ∧
    segNewer 8388608 1 = true ∧ segNewer 8388609 1 = false ∧ segNewer 1 8388609 = true ∧
    segNewest 1 8388609 = 1 ∧ rangesOverlap 16777214 2 2 5 = true ∧
    rangesOverlap 16777214 1 2 5 = false := by decide
theorem test_event_order :
    evSucc 65535 = 0 ∧ evNewer 0 65535 = true ∧ evNewer 32768 0 = false := by decide
theorem test_stretch : stretchOf 2010 (some 2000) = some 50 ∧ stretchOf 1999 (some 2000) = some (-5) ∧
    stretchOf 9 (some 0) = none ∧ stretchOf 9 none = none := by decide
theorem test_portRequest :
    portRequest [0x33#8, 0#8] = some (.setHold []) ∧ portRequest [0#8, 0#8] = none ∧
    portRequest [0x30#8, 1#8] = none ∧ portRequest [0x30#8, 1#8, 4#8, 9#8] = some (.announceStop [4#8]) ∧
    portRequest [0x7F#8, 0#8] = some (.unknownRequest 0x7F#8 []) := by decide

/-! ### Small states -/

def line : ActionConfig := { condition := 1, parameter := 0, polarity := 0, latch := 0, holdsStart := 0 }
def channelOff : ChannelConfig :=
  { enable := 0, quantity := 0, position := 0, interval := 0, commandSize := 0,
    command := List.replicate 8 0, replySize := 0, valueOffset := 0, low := 0, high := 0,
    required := 0 }
def channelOn : ChannelConfig :=
  { channelOff with
    enable := 1, position := 500, interval := 100, commandSize := 1, replySize := 3
    valueOffset := 1, low := 10, high := 60000 }

/-- A record that START accepts. -/
def config : ConfigRecord :=
  { ConfigRecord.zeros with
    station := 7, role := 2, order := 5, reach := 12000, markPoint := 1000, spanStart := 3000
    spanEnd := 6000, segmentLength := 2000, lateMargin := 10, m := 3, p := 8, fallback := 1
    stallTime := 500, startRight := 1, bitRate := 1, markTail := 1000, dwell1 := 20, dwell2 := 90
    lines := Quad.same line
    channels := { Quad.same channelOff with q0 := channelOn } }

/-- A station of a role in a participation state with a line view. -/
def station (role : Nat) (p : Participation) (v : View) : State :=
  { State.reset with
    node.config := { config with role := role }
    node.bus.participation := p
    node.line.view := v
    node.prot.driven := decide (p ≠ .unconfigured) }

/-- A PATH station on a running line. -/
def onLine : State := station 2 .active .run

def closedRecord : ClosedRecord := { body := body, head := 100, tail := 2100 }
def enteringRecord : EnteringRecord :=
  { body := { body with first := 102, last := 102, content := .pending }, head := 2100,
    expectFrom := 2100, expected := some 2000 }

/-- The state with a tracking length and two records in its window. -/
def withSheet (tracking : Nat) (s : State) : State :=
  { s with
    node.len.tracking := tracking
    node.window := { closed := [closedRecord], entering := some enteringRecord } }

def entry (s : Nat) : RosterEntry :=
  { station := s, descriptor := some descriptor, present := true, age := 30,
    lastView := some (.run, 0), speed := some 700, newest := 40, lastFault := none }

/-- A frame as it waits in the queue. -/
def queued (f : Frame) (sending : Bool) : QueuedFrame :=
  { QueuedFrame.fresh f false with inTransmission := sending }

theorem test_config_accepted : firstInvalid config = none := by decide +kernel

/-- Untouched counters follow their conditions. -/
theorem countersFollow_of (n : Node) (hc : n.counters = Counters.initial) : n.countersFollow := by
  rw [Node.countersFollow_iff, hc]
  intro c h
  simp [Counters.initial, Quad.same, Quad.toList] at h
  subst h
  intro h
  exact absurd h (by decide)

/-- A node with the tests' lines and untouched counters is quiet. -/
theorem quiet_of (n : Node) (hl : n.config.lines = Quad.same line)
    (hp : n.prot.lines = Quad.same { latch := false, asserted := false })
    (hd : n.prot.driven = n.configured) (hc : n.counters = Counters.initial)
    (he : n.faults.escalation = 0) (hr : n.faults.reported = []) (ho : n.line.own = none) :
    n.quiet := by
  refine ⟨⟨he, hr⟩, ⟨hd, ?_⟩, countersFollow_of n hc, ho⟩
  · have hz : n.config.lines.zip n.evalLine n.prot.lines = n.prot.lines := by
      rw [hl, hp]
      simp [Quad.zip, Quad.same, line, Node.evalLine, Node.lineCondition, latchAfter]
    unfold Node.evalLines
    split
    · rw [hz]
    · rfl

theorem test_onLine_quiet : onLine.node.quiet := quiet_of _ rfl rfl rfl rfl rfl rfl rfl

/-! ### States and operands that meet the hypotheses of the statements -/

/-- Every timer of the part at its limit. -/
def overdue : Node :=
  { (station 2 .active .run).node with
    baseDue := true
    len := { onLine.node.len with
      source := .derived, reference := some 700, speedPhase := 100, derivedPhase := 10
      stallTimer := 500, absenceTimer := 2000 }
    bus.statusRunning := true
    bus.statusTimer := 250
    line.own := some { id := proposalId, base := 0, target := .creep, phase := .voting [3] [] 300 }
    line.proposalView := some { id := proposalId, base := 0, target := .run, timer := 500 }
    prot.running := true
    prot.phase := 1000
    sensor.channels.q0.timer := 100
    roster.others := [{ entry 3 with age := 1000 }] }

theorem test_hyp_EmptyQueueLetsTimePass :
    State.reset.pending = [] ∧ State.reset.node.bus.participation = .unconfigured ∧
    onLine.pending = [] ∧ onLine.node.bus.participation ≠ .unconfigured ∧
    onLine.node.dueEvents = [] ∧ { onLine with node.baseDue := true }.node.dueEvents ≠ [] := by decide

/-- Ten recessive bits make a frame heard end in the first bit time, before the millisecond's 250. -/
theorem test_hyp_EmptyQueueLetsTimePass_line :
    let heard := { onLine.node with bus.tap.heard := [false], bus.tap.recessive := 9 }
    let passed (n : Node) := n.bus.bitTimes n.receiving n.waitingGap
      ([125, 250, 500].getD n.config.bitRate 500 - n.bus.tap.phase)
    heard.bus.participation ≠ .unconfigured ∧ heard.dueEvents = [] ∧
    (passed heard).tap.phase < 250 ∧ 250 ≤ (passed onLine.node).tap.phase := by decide +kernel

theorem test_hyp_EmptyQueueLetsTimePass_due :
    let joining := { (station 2 .joining .run).node with bus.joinTimer := 600 }
    overdue.baseDue = true ∧ 100 ≤ overdue.len.speedPhase ∧ overdue.len.source = .derived ∧
    10 ≤ overdue.len.derivedPhase ∧ overdue.line.view.moving = true ∧ overdue.len.stalled = false ∧
    overdue.config.stallTime ≤ overdue.len.stallTimer ∧ overdue.usableSpeed = none ∧
    overdue.len.reference ≠ none ∧ 2000 ≤ overdue.len.absenceTimer ∧
    joining.bus.participation = .joining ∧ 600 ≤ joining.bus.joinTimer ∧
    overdue.bus.participation = .active ∧ overdue.bus.statusRunning = true ∧
    250 ≤ overdue.bus.statusTimer ∧ overdue.voting = true ∧ overdue.line.proposalView ≠ none ∧
    overdue.prot.running = true ∧ 1000 ≤ overdue.prot.phase ∧
    (overdue.config.channels.get 0).enable ≠ 0 ∧
    (overdue.config.channels.get 0).interval ≤ (overdue.sensor.channels.get 0).timer ∧
    (∃ e ∈ overdue.roster.others, e.present = true ∧ 1000 ≤ e.age) ∧ overdue.dueEvents.length = 11 := by
  decide

theorem test_hyp_RecordKeptAndLengthNeverDecreases_record : onLine.node.bus.participation ≠ .unconfigured ∧
    (∀ e h, Instr.timeBaseMillisecond ≠ .powerOnReset e h) ∧
    ∃ t, exec .timeBaseMillisecond onLine = .next t :=
  ⟨by decide, nofun, _, rfl⟩

theorem test_hyp_RecordKeptAndLengthNeverDecreases_length :
    (∀ e h, Instr.quadratureChange true false ≠ .powerOnReset e h) ∧
    (∀ args, Instr.quadratureChange true false ≠ .restart args) ∧
    ∃ t, exec (.quadratureChange true false) onLine = .next t :=
  ⟨nofun, nofun, _, rfl⟩

theorem test_hyp_StepsKeep_all :
    onLine.node.withinCapacity ∧ (withSheet 2500 onLine).node.windowChained ∧
    onLine.node.flagsAgree ∧ onLine.node.linesFollow ∧ onLine.node.countersFollow ∧
    (∃ t, step onLine = .next t) ∧ ∃ t, step (withSheet 2500 onLine) = .next t := by
  refine ⟨?_, ?_, ?_, test_onLine_quiet.2.1, test_onLine_quiet.2.2.1, ⟨_, rfl⟩, _, rfl⟩
  · unfold Node.withinCapacity; decide +kernel
  · exact ⟨by decide, by decide, by decide, by decide⟩
  · unfold Node.flagsAgree; decide

/-- A station whose neighbour in force is station 3, with a gap. -/
def fed : State :=
  { onLine with
    node.roster.others := [entry 3], node.roster.upstream := some 3
    node.handover.neighbour := some 3, node.handover.gap := 1500
    node.len.tracking := 4294967000 }

theorem test_hyp_StepsKeep_choices :
    fed.node.choicesStand ∧ ∃ t, step fed = .next t := by
  refine ⟨?_, _, rfl⟩
  unfold Node.choicesStand
  decide

theorem test_hyp_SentFrameIsReadBack : stationOk 31 = true ∧ frameOk (.status status) = true ∧
    frameOk (.handoff handoff) = true ∧ frameOk (.enact enact) = true ∧
    [0#8, 0#8, 0#8, 0#8].length = 4 := by decide

/-- Bytes judged good, of a frame whose free bytes are not zeros too. -/
theorem test_hyp_SentFrameIsReadBack_judged :
    let f := Frame.handoff { handoff with body.origin := none, nextNominal := none }
    judge (frameBytes 31 [1#8, 2#8, 3#8, 4#8] f) none = .good 31 f ∧
    judge (frameBytes 1 [0#8, 0#8, 0#8, 0#8] (.status status)) none = .good 1 (.status status) := by
  decide +kernel

/-- The part with RESET_N still asserted. -/
def held : State := { State.reset with node.port.held := true }

theorem test_hyp_UnconfiguredTakesSetupAlone :
    State.reset.node.bus.participation = .unconfigured ∧ State.reset.node.port.held = false ∧
    held.node.bus.participation = .unconfigured ∧ held.node.port.held = true ∧ [0#8].length = 1 ∧
    [0#8, 0#8].length = 2 ∧ [0#8, 0#8, 0#8].length = 3 ∧ [0#8, 0#8, 0#8, 0#8, 0#8].length = 5 ∧
    3 ≤ (List.replicate 11 0#8).length ∧ (List.replicate 11 0#8).length ≤ 11 := by decide

theorem test_hyp_WrongLengthOrKindIsRefused :
    State.reset.node.inReset = false ∧
    (List.replicate 167 0#8).length ≠ 168 ∧ [0#8].length ≠ 0 ∧ ([] : List Byte).length ≠ 1 ∧ [0#8].length ≠ 2 ∧
    [0#8].length ≠ 3 ∧ [0#8].length ≠ 5 ∧ [0#8, 0#8].length < 3 ∧
    11 < (List.replicate 12 0#8).length ∧ (0x04#8 : Byte) ≠ 0 ∧
    requestKinds.contains (0x04#8 : Byte).toNat = false := by decide +kernel

theorem test_hyp_StartBeginsJoining :
    (station 2 .unconfigured .unknown).node.bus.participation = .unconfigured ∧
    (station 2 .unconfigured .unknown).node.port.held = false ∧
    firstInvalid (station 2 .unconfigured .unknown).node.config = none := by decide +kernel

theorem test_hyp_RestartClearsThePart :
    (station 2 .offline .unknown).node.bus.participation ≠ .unconfigured := by decide

theorem test_hyp_ReadsAnswerTheirImages :
    onLine.node.bus.participation ≠ .unconfigured ∧ onLine.node.inReset = false ∧
    fieldAt [47#8, 8#8] 0 1 = 47 ∧ fieldAt [47#8, 8#8] 1 1 = 8 ∧
    fieldAt [23#8, 1#8] 0 1 = 23 ∧ fieldAt [23#8, 1#8] 1 1 = 1 ∧
    47 < fieldAt [48#8, 1#8] 0 1 ∧ 23 < fieldAt [24#8, 1#8] 0 1 ∧
    fieldAt [0#8, 0#8] 1 1 = 0 ∧ 8 < fieldAt [0#8, 9#8] 1 1 ∧ fieldAt [47#8, 9#8] 0 1 ≤ 47 ∧
    fieldAt [24#8, 0#8] 0 1 ≤ 47 ∧ fieldAt [23#8, 9#8] 0 1 ≤ 23 ∧
    onLine.node.isTerminal = false ∧ (station 3 .active .run).node.isTerminal = true ∧
    (station 3 .active .run).node.handover.log = [] := by decide

theorem test_hyp_ImagesAreLaidOut : (onLine.node.fill 0 4).length = 4 ∧
    [0#8, 0#8, 0#8, 0#8].length = 4 := by
  refine ⟨?_, by decide⟩
  simp [Node.fill]

def logEntry : LogEntry := { body := body, localLength := 2000, exitLength := 14100, beam := 1 }

theorem test_hyp_ReadsAnswerTheirImages_log :
    let s := { station 3 .active .run with node.handover.log := [logEntry] }
    s.node.isTerminal = true ∧ s.node.handover.log = logEntry :: [] := by decide

def fatal : FirstFatal :=
  { kind := .lineJam, tracking := 77, view := .run, participation := .active }

theorem test_hyp_FaultsAndNoticesReadAndCleared_faults :
    State.reset.node.bus.participation = .unconfigured ∧ State.reset.node.port.held = false ∧
    onLine.node.bus.participation ≠ .unconfigured ∧ onLine.node.faults.firstFatal = none ∧
    { onLine with node.faults.firstFatal := some fatal }.node.faults.firstFatal = some fatal ∧
    onLine.node.faults.counts.length = 25 ∧ onLine.node.onLine = true ∧
    onLine.node.faultClass .lineJam = .fatal := by
  decide

/-- A fault of each class: framed, kept off the line, held from its frame; in ACTIVE and off the line. -/
theorem test_hyp_FaultsAndNoticesReadAndCleared_taken :
    let report (k : FaultKind) (silent : Bool) : FaultReport := { kind := k, silent := silent }
    let framing := { onLine.node with faults.enables := 0x70#8 }
    let framed (n : Node) (r : FaultReport) (enable : Nat) :=
      n.active = true ∧ r.silent = false ∧ n.faults.enables.getLsbD (4 + enable) = true
    let escalated := { onLine.node with faults.escalation := 1#32 }
    onLine.node.faultClass .frameCheck = .correctable ∧
    onLine.node.faultClass .boundaryLate = .degraded ∧ escalated.faultClass .boundaryLate = .fatal ∧
    framing.faultClass .collision = .correctable ∧ framed framing (report .collision false) 0 ∧
    framed framing (report .orderConflict false) 1 ∧ ¬framed framing (report .frameDropped true) 1 ∧
    ¬framed { framing with faults.enables := 0#8 } (report .collision false) 0 ∧
    ¬framed { framing with bus.participation := .listen } (report .collision false) 0 ∧
    onLine.node.faultClass .duplicateStation = .fatal ∧ onLine.node.onLine = true ∧
    (station 2 .offline .unknown).node.faultClass .lineJam = .fatal ∧
    (station 2 .offline .unknown).node.onLine = false := by decide

theorem test_hyp_CounterSelectSelects :
    let mask (args : List Byte) := BitVec.ofNat 16 (fieldAt args 2 2)
    let mode (args : List Byte) : Option CounterMode :=
      [CounterMode.occurrences, .time, .length, .amount][fieldAt args 4 1]?
    State.reset.node.bus.participation = .unconfigured ∧ State.reset.node.port.held = false ∧
    onLine.node.bus.participation ≠ .unconfigured ∧
    3 < fieldAt [4#8, 0#8, 0#8, 0#8, 0#8] 0 1 ∧
    fieldAt [3#8, 14#8, 0#8, 0#8, 0#8] 0 1 ≤ 3 ∧ 13 < fieldAt [3#8, 14#8, 0#8, 0#8, 0#8] 1 1 ∧
    mask [0#8, 1#8, 0#8, 0x10#8, 0#8] &&& ~~~0x0F#16 ≠ 0#16 ∧
    mask [0#8, 3#8, 0#8, 0#8, 1#8] &&& ~~~0#16 = 0#16 ∧
    mode [0#8, 3#8, 0#8, 0#8, 1#8] = some .time ∧
    CounterMode.time ∉ [CounterMode.occurrences, .amount] ∧ mode [0#8, 3#8, 0#8, 0#8, 4#8] = none ∧
    mask [3#8, 13#8, 0#8, 0x0F#8, 0#8] &&& ~~~0x0F#16 = 0#16 ∧
    mode [3#8, 13#8, 0#8, 0x0F#8, 0#8] = some .occurrences ∧
    (∀ code ∈ [7, 8, 11], fieldAt [0#8, BitVec.ofNat 8 code, 0#8, 0#8, 1#8] 1 1 = code) ∧
    mask [0#8, 7#8, 0#8, 0#8, 1#8] = 0#16 ∧ (0x1F#16 : BitVec 16) ≠ 0#16 ∧
    (CounterEvent.boundary 0 5).bits ≠ [] := by decide

theorem test_hyp_FreezeThawAndCounterRead :
    State.reset.node.bus.participation = .unconfigured ∧ State.reset.node.port.held = false ∧
    onLine.node.bus.participation ≠ .unconfigured ∧ onLine.node.counters.frozen = false ∧
    { onLine with node.counters.frozen := true }.node.counters.frozen = true := by decide

theorem test_hyp_FaultsAndNoticesReadAndCleared_notices : [0x0F#8, 0xFF#8].length = 2 ∧
    onLine.node.inReset = false ∧
    fieldAt [0x0F#8, 0xFF#8] 0 2 = 4095 ∧ fieldAt [0x10#8, 0x00#8] 0 2 = 4096 := by decide

theorem test_hyp_ConfigureWritesAndStartJudges : (List.replicate 168 0#8).length = 168 ∧
    State.reset.node.inReset = false ∧ onLine.node.inReset = false ∧
    ({ config with role := 1 } : ConfigRecord).role = 1 ∧ State.reset.node.bus.participation = .unconfigured ∧
    onLine.node.bus.participation ≠ .unconfigured ∧
    firstInvalid State.reset.node.config = some 1 := by decide +kernel

theorem test_hyp_RecordFollowsItsTable :
    (∀ v ∈ [config.station, config.role, config.order, config.lateMargin, config.m, config.p,
      config.fallback, config.neighbourMode, config.forcedNeighbour, config.referenceMode,
      config.referenceStation, config.startRight, config.bitRate], v < 256) ∧
    (∀ v ∈ [config.stallTime, config.dwell1, config.dwell2], v < 65536) ∧
    (∀ v ∈ [config.reach, config.entryGap, config.markPoint, config.spanStart, config.spanEnd,
      config.segmentLength, config.markTail], v < 4294967296) ∧
    (∀ a ∈ config.lines.toList,
      ∀ v ∈ [a.condition, a.parameter, a.polarity, a.latch, a.holdsStart], v < 256) ∧
    (∀ h ∈ config.channels.toList,
      (∀ v ∈ [h.enable, h.quantity, h.commandSize, h.replySize, h.valueOffset, h.required], v < 256) ∧
      h.position < 4294967296 ∧ h.interval < 65536 ∧ h.low < 65536 ∧ h.high < 65536 ∧
      h.command.length = 8) := by decide

/-- A rule broken at the first field, within the record, at a line, at a channel and at the end. -/
theorem test_hyp_RecordFollowsItsTable_rules :
    firstInvalid ConfigRecord.zeros = some 1 ∧ firstInvalid { config with spanEnd := 2999 } = some 8 ∧
    firstInvalid { config with lines.q3.holdsStart := 2 } = some 43 ∧
    firstInvalid { config with channels.q3.required := 1 } = some 87 ∧
    firstInvalid { config with channels.q0.valueOffset := 2 } = some 51 ∧
    firstInvalid { config with enables := 8#8 } = some 89 := by decide +kernel

/-- A counter about to wrap. -/
def counting : State :=
  { onLine with
    node.counters.cells.q0 :=
      { value := 4294967295, code := 1, mask := 0x0F#16, mode := .occurrences, overflow := false,
        lastCondition := false } }

theorem test_hyp_CountersCount :
    counting.node.counters.frozen = false ∧
    (counting.node.counters.cells.get 0).value ≤ 4294967295 ∧
    4294967295 < (counting.node.counters.cells.get 0).value +
      (if (counting.node.counters.cells.get 0).code = (CounterEvent.boundary 0 5).code ∧
          ∀ b ∈ (CounterEvent.boundary 0 5).bits,
            (counting.node.counters.cells.get 0).mask.getLsbD b = true then
        (if (counting.node.counters.cells.get 0).mode = .occurrences then 1
         else if (counting.node.counters.cells.get 0).mode = .amount then 5 else 0)
       else 0) ∧
    (counting.node.counters.cells.get 3).value + 0 ≤ 4294967295 ∧
    onLine.node.bus.participation ≠ .unconfigured ∧ onLine.node.counters.frozen = false ∧
    ∀ i ≤ 3, (onLine.node.counters.cells.get i).value ≤ 4294967295 := by decide

/-- A counter of a condition, one short of its wrap, the view having turned RUN. -/
def timing (mode : CounterMode) : State :=
  { onLine with
    node.counters.cells.q1 :=
      { value := 4294967294, code := 8, mask := 0x01#16, mode := mode, overflow := false,
        lastCondition := false } }

theorem test_hyp_CountersCount_conditions :
    let c := (timing .length).node.counters.cells.get 1
    let d := (timing .occurrences).node.counters.cells.get 1
    (timing .length).node.counters.frozen = false ∧ conditionCode c.code = true ∧ c.mode = .length ∧
    c.value + 1 ≤ 4294967295 ∧ 4294967295 < c.value + 2 ∧
    conditionCode (onLine.node.counters.cells.get 1).code = false ∧ d.mode = .occurrences ∧
    d.lastCondition = false ∧ d.value < 4294967295 ∧ ({ d with value := 4294967295 } : Counter).value =
      4294967295 := by decide

/-- Counters in mode TIME whose condition, the view RUN, is true: at the limit and one short of it. -/
theorem test_hyp_CountersCount_time :
    let c : Counter :=
      { value := 4294967294, code := 7, mask := 0x1F#16, mode := .time, overflow := false,
        lastCondition := true }
    let s := { onLine with
      node.counters.cells.q1 := c, node.counters.cells.q2 := { c with value := 4294967295 } }
    let counted (c : Counter) : Prop :=
      conditionCode c.code = true ∧ c.mode = .time ∧ s.node.conditionOf c = true
    s.node.bus.participation ≠ .unconfigured ∧ s.node.counters.frozen = false ∧
    (∀ i ≤ 3, (s.node.counters.cells.get i).value ≤ 4294967295) ∧
    ¬counted (s.node.counters.cells.get 0) ∧ ¬counted { c with mask := 0#16 } ∧ counted c ∧
    counted (s.node.counters.cells.get 2) ∧ (s.node.counters.cells.get 2).value = 4294967295 := by
  decide

/-- A counter about to wrap whose overflow flag stands, beside three that stay below the limit. -/
theorem test_hyp_CountersCount_standing :
    let c := counting.node.counters.cells.get 0
    let standing := { counting.node with counters.cells.q0 := { c with overflow := true } }
    c.overflow = false ∧ standing.counters.frozen = false ∧
    4294967295 < (standing.counters.cells.get 0).value + 1 ∧
    ∀ j ≤ 3, 4294967295 < (standing.counters.cells.get j).value + 1 →
      (standing.counters.cells.get j).overflow = true := by decide

def manualTransaction : Transaction :=
  { manual := true, select := 3, command := [0x11#8], replyCount := 8 }
def autoReading : Transaction :=
  { manual := false, select := 0, command := [0x00#8], replyCount := 3 }

theorem test_hyp_PinsShowTheState :
    onLine.node.inReset = false ∧ held.node.inReset = true ∧ onLine.node.port.response = none ∧
    onLine.node.sensor.transaction = none ∧ onLine.node.prot.driven = true ∧
    (∀ k ∈ [1, 2, 3, 4, 5, 6, 7, 8], ({ line with condition := k } : ActionConfig).condition = k) ∧
    { onLine with node.port.response := some [1#8] }.node.port.response = some [1#8] := by decide

theorem test_hyp_PinsShowTheState_transaction :
    { onLine with node.sensor.transaction := some autoReading }.node.sensor.transaction =
      some autoReading ∧ autoReading.command[0]? = some 0#8 ∧ 8 * autoReading.command.length < 9 := by
  decide

def mark (i : Nat) : MarkEntry := { kind := .lease, id := i, station := 7, offset := 0 }

theorem test_hyp_PointMarksAndTheirEntries_offer :
    (∃ e ∈ [mark 1], e.kind = (mark 1).kind ∧ e.id = (mark 1).id ∧ e.station = (mark 1).station) ∧
    (∀ e ∈ [mark 1, mark 2, mark 3, mark 4],
      ¬(e.kind = (mark 5).kind ∧ e.id = (mark 5).id ∧ e.station = (mark 5).station)) ∧
    [mark 1, mark 2, mark 3].length < 4 ∧ 4 ≤ [mark 1, mark 2, mark 3, mark 4].length := by decide

theorem withSheet_quiet (l : Nat) : (withSheet l onLine).node.quiet :=
  quiet_of _ rfl rfl rfl rfl rfl rfl rfl

theorem test_hyp_PointMarksAndTheirEntries_post :
    MarkKind.ofCode? (fieldAt [5#8, 0#8, 1#8] 0 1) = some .lease ∧
    MarkKind.ofCode? (fieldAt [7#8, 0#8, 1#8] 0 1) = some .operator ∧
    fieldAt [5#8, 0#8, 1#8] 1 2 ≠ 0 ∧ onLine.node.bus.participation ≠ .unconfigured ∧
    onLine.node.bus.participation ≠ .offline ∧ (withSheet 3100 onLine).node.quiet ∧
    onLine.node.window.reached (Claim.point 0 1000) = [] ∧
    (withSheet 3100 onLine).node.window.reached (Claim.point 3100 1000) = [(100, body)] ∧
    (station 2 .offline .unknown).node.bus.participation = .offline ∧
    fieldAt [3#8, 0#8, 1#8] 0 1 < 4 ∧ 7 < fieldAt [8#8, 0#8, 1#8] 0 1 ∧
    onLine.node.isOrigin = false ∧ onLine.node.isTerminal = false ∧
    (station 1 .active .run).node.isOrigin = true ∧
    fieldAt [4#8, 0#8, 0#8] 1 2 = (station 1 .active .run).node.marks.beamSet := by
  refine ⟨by decide, by decide, by decide, by decide, by decide, withSheet_quiet 3100, ?_⟩
  decide

/-- A span that ends where it starts, a record that a claim covers at its first and last position, and
one behind it; a record of no length is covered nowhere. -/
theorem test_hyp_PointMarksAndTheirEntries_claims :
    (Claim.point 3100 1000).closed closedRecord = true ∧ (3100 : Int) - 2100 ≤ 1000 ∧
    (Claim.point 3100 2999).closed closedRecord = true ∧ (Claim.point 3100 3000).closed closedRecord = false ∧
    (Claim.point 3100 999).closed closedRecord = false ∧ (Claim.point 3100 999).entering enteringRecord = true ∧
    (Claim.point 3100 1000).entering enteringRecord = false ∧
    (Claim.span 3100 2999 2999).closed closedRecord = true ∧
    (Claim.span 3100 3000 6000).closed closedRecord = false ∧
    (Claim.span 3100 999 1000).closed closedRecord = true ∧
    (Claim.span 3100 500 5000).closed { closedRecord with tail := 100 } = false := by decide

theorem test_hyp_CutAndKnotMarkTheSheet_cut :
    let s := { station 3 .active .run with node.handover.beam := 65535 }
    fieldAt [6#8, 0#8, 0#8] 0 1 = 6 ∧ s.node.bus.participation ≠ .unconfigured ∧
    s.node.bus.participation ≠ .offline ∧ s.node.isTerminal = true ∧ s.node.quiet :=
  ⟨by decide, by decide, by decide, by decide, quiet_of _ rfl rfl rfl rfl rfl rfl rfl⟩

theorem test_hyp_CutAndKnotMarkTheSheet_knot :
    let s := withSheet 2101 (station 1 .active .run)
    fieldAt [4#8, 0xFF#8, 0xFF#8] 0 1 = 4 ∧ fieldAt [4#8, 0xFF#8, 0xFF#8] 1 2 = 65535 ∧
    fieldAt [4#8, 0xFF#8, 0xFF#8] 1 2 ≠ s.node.marks.beamSet ∧
    s.node.bus.participation ≠ .unconfigured ∧ s.node.bus.participation ≠ .offline ∧
    s.node.isOrigin = true ∧ s.node.quiet ∧ s.node.window.entering = some enteringRecord ∧
    enteringRecord.head < s.node.len.tracking ∧ s.node.window.closed.length < 47 :=
  ⟨by decide, by decide, by decide, by decide, by decide, by decide,
    quiet_of _ rfl rfl rfl rfl rfl rfl rfl, rfl, by decide, by decide⟩

/-- A window of 48 records. -/
def fullSheet (tracking : Nat) (s : State) : State :=
  { withSheet tracking s with
    node.window := { closed := List.replicate 47 closedRecord, entering := some enteringRecord } }

theorem test_hyp_CutAndKnotMarkTheSheet_edges :
    let s := withSheet 2100 (station 1 .active .run)
    let f := fullSheet 2101 (station 1 .active .run)
    (station 1 .active .run).node.window.entering = none ∧ s.node.window.entering = some enteringRecord ∧
    enteringRecord.head = s.node.len.tracking ∧ s.node.quiet ∧
    f.node.window.entering = some enteringRecord ∧ enteringRecord.head < f.node.len.tracking ∧
    47 ≤ f.node.window.closed.length ∧ f.node.quiet :=
  ⟨by decide, rfl, by decide, quiet_of _ rfl rfl rfl rfl rfl rfl rfl, rfl, by decide, by decide,
    quiet_of _ rfl rfl rfl rfl rfl rfl rfl⟩

def span (i : Nat) : SpanMark :=
  { kind := .operatorSpan, id := i, countdown := .noCountdown, opening := 5, frontier := 0 }

/-- Eight marks open. -/
def crowded : State :=
  { onLine with node.marks.table := (List.range 8).map fun i => span (i + 1) }

theorem test_hyp_SpanMarksOpenAndClose_open : fieldAt [0#8, 9#8] 0 2 ≠ 0 ∧
    (∀ m ∈ crowded.node.marks.table, ¬(m.kind = .operatorSpan ∧ m.id = fieldAt [0#8, 9#8] 0 2)) ∧
    (∃ m ∈ crowded.node.marks.table, m.kind = .operatorSpan ∧ m.id = fieldAt [0#8, 8#8] 0 2) ∧
    8 ≤ crowded.node.marks.table.length ∧ crowded.node.quiet :=
  ⟨by decide, by decide, by decide, by decide, quiet_of _ rfl rfl rfl rfl rfl rfl rfl⟩

theorem test_hyp_SpanMarksOpenAndClose_close :
    crowded.node.marks.table =
      [span 1] ++ span 2 :: [span 3, span 4, span 5, span 6, span 7, span 8] ∧
    (∀ o ∈ [span 1], ¬(o.kind = .operatorSpan ∧ o.id = fieldAt [0#8, 2#8] 0 2)) ∧
    (span 2).id = fieldAt [0#8, 2#8] 0 2 ∧ fieldAt [0#8, 0#8] 0 2 = 0 ∧
    (∀ m ∈ onLine.node.marks.table, ¬(m.kind = .operatorSpan ∧ m.id = 1)) ∧ crowded.node.quiet :=
  ⟨by decide, by decide, by decide, by decide, by decide, quiet_of _ rfl rfl rfl rfl rfl rfl rfl⟩

theorem test_hyp_SpanMarksSweepAndCountDown :
    View.creep.moving = true ∧ View.run.moving = true ∧ View.trip.moving = false ∧
    View.unknown.moving = false := by decide

theorem test_hyp_AnnouncementsAreAdopted_stop :
    onLine.node.bus.participation ≠ .unconfigured ∧ onLine.node.active = true ∧
    onLine.node.line.view.moving = true ∧ onLine.node.quiet ∧ onLine.node.bus.queue.length < 16 ∧
    (station 2 .listen .run).node.active = false ∧
    (station 2 .active .standstill).node.line.view.moving = false :=
  ⟨by decide, by decide, by decide, test_onLine_quiet, by decide, by decide, by decide⟩

theorem test_hyp_AnnouncementsAreAdopted_trip :
    let s := station 2 .active .standstill
    s.node.active = true ∧ s.node.line.view ≠ .trip ∧ s.node.quiet ∧
    s.node.bus.queue.length < 16 ∧ s.node.line.view = .standstill ∧
    onLine.node.line.view ≠ .standstill ∧ (station 2 .active .trip).node.line.view = .trip :=
  ⟨by decide, by decide, quiet_of _ rfl rfl rfl rfl rfl rfl rfl, by decide, by decide, by decide,
    by decide⟩

theorem test_hyp_AnnouncementsAreAdopted_full :
    let older (n : Node) := n.marks.table.filter fun m => decide (m.kind ≠ .stop ∧ m.kind ≠ .trip)
    8 ≤ (older crowded.node).length ∧ crowded.node.quiet ∧ ¬8 ≤ (older onLine.node).length :=
  ⟨by decide, quiet_of _ rfl rfl rfl rfl rfl rfl rfl, by decide⟩

theorem test_hyp_HoldAndAcknowledge :
    let o : OwnProposal := { id := proposalId, base := 0, target := .creep, phase := .queued }
    let s := { onLine with node.line.own := some o }
    onLine.node.line.hold = false ∧ onLine.node.quiet ∧ s.node.calm ∧ s.node.linesFollow ∧
    s.node.holdReasons o.target = [] ∧
    { onLine with node.line.hold := true }.node.line.hold = true ∧
    { onLine with node.line.tripUnack := true }.node.line.tripUnack = true ∧
    onLine.node.line.tripUnack = false :=
  ⟨by decide, test_onLine_quiet, ⟨rfl, rfl⟩,
    Node.linesFollow_congr (n := onLine.node) rfl rfl rfl rfl rfl rfl rfl test_onLine_quiet.2.1, by decide, by decide,
    by decide, by decide⟩

theorem test_hyp_ProposeRefusesOrQueues :
    onLine.node.config.startRight ≠ 0 ∧ onLine.node.active = true ∧ onLine.node.quiet ∧
    onLine.node.line.enact = none ∧ onLine.node.line.proposalView = none ∧
    View.ofCode? (fieldAt [3#8] 0 1) = some .creep ∧ legalMove onLine.node.line.view .creep = true ∧
    onLine.node.holdReasons .creep = [] ∧ onLine.node.bus.queue.length < 16 ∧
    { onLine with node.config.startRight := 0 }.node.config.startRight = 0 ∧
    { onLine with node.line.enact := some { id := proposalId, number := 1 } }.node.line.enact ≠ none ∧
    (∀ v, View.ofCode? (fieldAt [5#8] 0 1) = some v → legalMove onLine.node.line.view v = false) ∧
    { onLine with node.line.hold := true }.node.holdReasons .creep = .localHold :: [] := by
  refine ⟨by decide, by decide, test_onLine_quiet, ?_⟩
  refine ⟨by decide, by decide, by decide, by decide, by decide, by decide, by decide, by decide, ?_,
    by decide⟩
  intro v h
  exact absurd h (by simp [fieldAt, fromBE, View.ofCode?])

theorem test_hyp_PulsesCountForwardAndReverse_forward :
    let s := { onLine with node.len.tracking := 4294967295 }
    s.node.bus.participation ≠ .unconfigured ∧ s.node.len.source = .encoder ∧ 0 < s.node.config.p ∧
    s.node.len.tracking ≤ 4294967295 ∧ s.node.len.speedSum ≤ 4294967295 := by decide

theorem test_hyp_AdvanceReachesEveryBlock :
    let s := { onLine with node.len.tracking := 4294967295 }
    let r := { onLine with node.len.source := .derived, node.len.reference := some 65535 }
    onLine.node.len.tracking ≤ 4294967295 ∧ s.node.len.tracking ≤ 4294967295 ∧
    min 1 (4294967295 - s.node.len.tracking) = 0 ∧ min 0 (4294967295 - onLine.node.len.tracking) = 0 ∧
    min 1 (4294967295 - onLine.node.len.tracking) ≠ 0 ∧ onLine.node.bus.participation ≠ .unconfigured ∧
    onLine.node.len.source = .encoder ∧ r.node.bus.participation ≠ .unconfigured ∧
    r.node.len.source = .derived ∧ r.node.len.reference = some 65535 := by decide

theorem test_hyp_PulsesCountForwardAndReverse_reverse :
    let s := { onLine with node.len.debt := 2000 }
    s.node.bus.participation ≠ .unconfigured ∧ s.node.len.source = .encoder ∧ 0 < s.node.config.p ∧
    s.node.len.fraction < s.node.config.p ∧ s.node.quiet :=
  ⟨by decide, by decide, by decide, by decide, quiet_of _ rfl rfl rfl rfl rfl rfl rfl⟩

theorem test_hyp_PulsesNotCounted :
    let s := { onLine with node.len.source := .derived, node.len.stalled := true }
    State.reset.node.bus.participation = .unconfigured ∧ s.node.bus.participation ≠ .unconfigured ∧
    s.node.len.source = .derived ∧ s.node.quiet ∧ s.node.len.stalled = true ∧
    s.node.len.resumedFlag = false ∧ (true = !s.node.len.quadB ∧ false = s.node.len.quadA) ∧
    (false = s.node.len.quadB ∧ true = !s.node.len.quadA) ∧
    { s with node.len.resumedFlag := true }.node.len.resumedFlag = true :=
  ⟨by decide, by decide, by decide, quiet_of _ rfl rfl rfl rfl rfl rfl rfl, by decide, by decide,
    by decide, by decide, by decide⟩

theorem test_hyp_StallIsDeclared :
    let s := { onLine with node.config.fallback := 0 }
    State.reset.node.bus.participation = .unconfigured ∧
    onLine.node.line.view.moving = true ∧ onLine.node.len.stalled = false ∧
    onLine.node.config.fallback ≠ 0 ∧ onLine.node.quiet ∧ onLine.node.len.source = .encoder ∧
    { onLine with node.len.source := .derived }.node.quiet ∧ s.node.onLine = true ∧
    s.node.line.view.moving = true ∧ s.node.config.fallback = 0 ∧ s.node.quiet :=
  ⟨by decide, by decide, by decide, by decide, test_onLine_quiet, by decide,
    quiet_of _ rfl rfl rfl rfl rfl rfl rfl, by decide, by decide, by decide,
    quiet_of _ rfl rfl rfl rfl rfl rfl rfl⟩

/-- With the flag clear, the flag set beside its notice, and the flag set again while DERIVED. -/
theorem test_hyp_StallIsDeclared_notice :
    let lost := { onLine with node.len.lostFlag := true, node.port.notices := 1#16 <<< Notice.encoderLost }
    let derived := { lost with node.len.source := .derived }
    onLine.node.flagsAgree ∧ onLine.node.len.lostFlag = false ∧ lost.node.flagsAgree ∧
    lost.node.quiet ∧ derived.node.flagsAgree ∧ derived.node.quiet ∧
    { derived with node.len.lostFlag := false }.node.len.lostFlag = false := by
  refine ⟨?_, by decide, ?_, quiet_of _ rfl rfl rfl rfl rfl rfl rfl, ?_,
    quiet_of _ rfl rfl rfl rfl rfl rfl rfl, by decide⟩
  all_goals unfold Node.flagsAgree; decide

theorem test_hyp_DerivedLengthSpeedAndReturn_derived :
    let s := { onLine with node.len.source := .derived }
    let r := { s with node.len.reference := some 65535, node.len.tracking := 4294967295 }
    onLine.node.len.source = .encoder ∧ s.node.bus.participation ≠ .unconfigured ∧
    s.node.len.source = .derived ∧ s.node.len.reference = none ∧ s.node.quiet ∧
    r.node.len.reference = some 65535 ∧ r.node.len.tracking ≤ 4294967295 ∧
    r.node.len.speedSum ≤ 4294967295 :=
  ⟨by decide, by decide, by decide, by decide, quiet_of _ rfl rfl rfl rfl rfl rfl rfl, by decide,
    by decide, by decide⟩

/-- A station whose reference, station 3, is PRESENT. -/
def referenced : State :=
  { onLine with node.roster.others := [entry 3], node.roster.reference := some 3 }

theorem test_hyp_DerivedLengthSpeedAndReturn_speed :
    let s := { onLine with node.len.source := .derived }
    onLine.node.bus.participation ≠ .unconfigured ∧ onLine.node.usableSpeed = none ∧
    referenced.node.usableSpeed ≠ none ∧
    { onLine with node.len.stalled := true }.node.len.stalled = true ∧
    onLine.node.len.stalled = false ∧ onLine.node.len.source = .encoder ∧
    s.node.len.stalled = false ∧ s.node.len.source = .derived ∧ s.node.quiet :=
  ⟨by decide, by decide, by decide, by decide, by decide, by decide, by decide, by decide,
    quiet_of _ rfl rfl rfl rfl rfl rfl rfl⟩

theorem test_hyp_SensorModeAndPolling_mode :
    let busy := { onLine with node.sensor.transaction := some autoReading }
    let waiting := { busy with node.sensor.request := some .manual }
    1 < fieldAt [2#8] 0 1 ∧ SensorMode.auto.code = fieldAt [0#8] 0 1 ∧
    SensorMode.manual.code = fieldAt [1#8] 0 1 ∧ onLine.node.sensor.request = none ∧
    onLine.node.sensor.mode = .auto ∧ onLine.node.sensor.mode ≠ .manual ∧
    onLine.node.sensor.transaction = none ∧ busy.node.sensor.request = none ∧
    busy.node.sensor.mode ≠ .manual ∧ busy.node.sensor.transaction ≠ none ∧
    waiting.node.sensor.request ≠ none ∧ waiting.node.sensor.request ≠ some .auto ∧
    waiting.node.sensor.request = some .manual ∧ waiting.node.sensor.transaction ≠ none := by
  decide

def manual : State := { onLine with node.sensor.mode := .manual }

/-- Channel 1 of a station in MANUAL is due, channel 0 is not. -/
def waitingChannel : State := { manual with node.sensor.channels.q1.due := true }

theorem test_hyp_SensorModeAndPolling_due :
    waitingChannel.node.sensor.request = none ∧ waitingChannel.node.sensor.mode ≠ .auto ∧
    waitingChannel.node.sensor.transaction = none ∧
    (waitingChannel.node.sensor.channels.get 1).due = true ∧
    (∀ j < 1, (waitingChannel.node.sensor.channels.get j).due = false) ∧
    ∀ j ≤ 3, (manual.node.sensor.channels.get j).due = false := by decide

theorem test_hyp_ManualTransactions :
    let busy := { manual with node.sensor.transaction := some manualTransaction }
    let replied := { manual with node.sensor.reply := some { select := 3, bytes := [] } }
    let args := [3#8, 8#8, 8#8, 1#8, 1#8, 1#8, 1#8, 1#8, 1#8, 1#8, 1#8]
    onLine.node.sensor.mode = .auto ∧ manual.node.sensor.mode = .manual ∧
    manual.node.sensor.request = none ∧ manual.node.sensor.transaction = none ∧
    busy.node.sensor.transaction = some manualTransaction ∧ manualTransaction.manual = true ∧
    3 < fieldAt [4#8, 1#8, 0#8] 0 1 ∧ fieldAt [0#8, 0#8, 0#8] 1 1 = 0 ∧
    8 < fieldAt [0#8, 9#8, 0#8] 1 1 ∧ 8 < fieldAt [0#8, 1#8, 9#8] 2 1 ∧
    [0#8, 1#8, 0#8].length ≠ 3 + fieldAt [0#8, 1#8, 0#8] 1 1 ∧ args.length ≤ 11 ∧
    fieldAt args 0 1 ≤ 3 ∧ fieldAt args 1 1 ≤ 8 ∧ fieldAt args 2 1 ≤ 8 ∧
    args.length = 3 + fieldAt args 1 1 ∧ manual.node.sensor.reply = none ∧
    replied.node.sensor.reply = some { select := 3, bytes := [] } := by decide

theorem test_hyp_SensorModeAndPolling_poll :
    let busy := { onLine with node.sensor.transaction := some autoReading }
    onLine.node.bus.participation ≠ .unconfigured ∧
    (onLine.node.config.channels.get 3).enable = 0 ∧
    (onLine.node.config.channels.get 0).enable ≠ 0 ∧ manual.node.sensor.mode = .manual ∧
    busy.node.sensor.transaction ≠ none ∧ onLine.node.sensor.mode = .auto ∧
    onLine.node.sensor.request = none ∧ onLine.node.sensor.transaction = none ∧
    ∀ j < 3, (onLine.node.sensor.channels.get j).due = false := by decide

theorem test_hyp_TransactionsComplete :
    let m := { manual with node.sensor.transaction := some manualTransaction }
    let a := { onLine with node.sensor.transaction := some autoReading }
    m.node.sensor.transaction =
      some { manual := true, select := 3, command := [0x11#8], replyCount := 8 } ∧
    m.node.sensor.request.getD m.node.sensor.mode = .manual ∧ m.node.quiet ∧
    a.node.sensor.transaction =
      some { manual := false, select := 0, command := [0x00#8], replyCount := 3 } ∧
    a.node.sensor.request.getD a.node.sensor.mode = .auto ∧
    (∀ j ≤ 3, (a.node.sensor.channels.get j).due = false) ∧ a.node.quiet ∧
    ((replyBytes 0#64 3).headD 0).msb = false ∧
    ((replyBytes 0x8000000000000000#64 3).headD 0).msb = true ∧
    ({ (a.node.sensor.channels.get 0) with invalid := 2 } : Channel).invalid = 2 :=
  ⟨rfl, rfl, quiet_of _ rfl rfl rfl rfl rfl rfl rfl, rfl, rfl, by decide,
    quiet_of _ rfl rfl rfl rfl rfl rfl rfl, by decide, by decide, by decide⟩

/-- A mode change waits behind a transaction, or the next channel does. -/
theorem test_hyp_TransactionsComplete_pending :
    let m := { waitingChannel with
      node.sensor.transaction := some manualTransaction, node.sensor.request := some .auto }
    let a := { onLine with
      node.sensor.transaction := some autoReading, node.sensor.request := some .manual }
    let d := { onLine with
      node.sensor.transaction := some autoReading, node.sensor.channels.q1.due := true }
    m.node.sensor.request.getD m.node.sensor.mode = .auto ∧ m.node.quiet ∧
    (m.node.sensor.channels.get 1).due = true ∧
    (∀ j < 1, (m.node.sensor.channels.get j).due = false) ∧
    a.node.sensor.request.getD a.node.sensor.mode = .manual ∧ a.node.quiet ∧
    d.node.sensor.request.getD d.node.sensor.mode = .auto ∧ d.node.quiet ∧
    (d.node.sensor.channels.get 1).due = true ∧ ∀ j < 1, (d.node.sensor.channels.get j).due = false :=
  ⟨rfl, quiet_of _ rfl rfl rfl rfl rfl rfl rfl, by decide, by decide, rfl,
    quiet_of _ rfl rfl rfl rfl rfl rfl rfl, rfl, quiet_of _ rfl rfl rfl rfl rfl rfl rfl, by decide,
    by decide⟩

theorem test_hyp_ActiveReportsItsStatus_join :
    let s := station 1 .joining .unknown
    onLine.node.bus.participation ≠ .joining ∧ s.node.bus.participation = .joining ∧ s.node.quiet ∧
    s.node.bus.queue = [] ∧ s.node.line.view = .unknown ∧
    (station 2 .joining .run).node.line.view ≠ .unknown ∧ s.node.isOrigin = true ∧
    s.node.window = Window.empty :=
  ⟨by decide, by decide, quiet_of _ rfl rfl rfl rfl rfl rfl rfl, by decide, by decide, by decide,
    by decide, by decide⟩

theorem test_hyp_ParticipationFollowsItsTarget :
    fieldAt [2#8] 0 1 = 2 ∧ fieldAt [3#8] 0 1 = 3 ∧ fieldAt [5#8] 0 1 = 5 ∧
    (fieldAt [4#8] 0 1 ≠ 2 ∧ fieldAt [4#8] 0 1 ≠ 3 ∧ fieldAt [4#8] 0 1 ≠ 5) ∧
    (station 2 .listen .run).node.calm ∧ (station 2 .listen .run).node.creel = false ∧
    (station 2 .offline .unknown).node.calm ∧ (station 2 .joining .unknown).node.calm ∧
    onLine.node.calm ∧
    (station 2 .withdrawing .trip).node.bus.participation = .withdrawing := by
  refine ⟨by decide, by decide, by decide, by decide, ⟨rfl, rfl⟩, by decide, ⟨rfl, rfl⟩, ⟨rfl, rfl⟩,
    ⟨rfl, rfl⟩, by decide⟩

theorem test_hyp_ParticipationFollowsItsTarget_jam :
    (station 2 .offline .unknown).node.receiving = false ∧
    (station 2 .withdrawing .trip).node.receiving = true ∧
    (station 2 .withdrawing .trip).node.faults.reported = [] := by decide

/-- A running line with line 0 asserted, which has the latch option. -/
def latching : State :=
  { onLine with
    node.config.lines.q0 := { line with condition := 4, parameter := 4, latch := 1 }
    node.marks.table := [span 1]
    node.prot.lines.q0 := { latch := false, asserted := true } }

theorem test_hyp_ParticipationFollowsItsTarget_latch :
    latching.node.bus.participation = .active ∧ latching.node.calm ∧ latching.node.receiving = true ∧
    latching.node.faults.reported = [] ∧ (latching.node.config.lines.get 0).latch ≠ 0 ∧
    (latching.node.prot.lines.get 0).asserted = true ∧ latching.node.lineCondition
      (latching.node.config.lines.get 0) = true :=
  ⟨by decide, ⟨rfl, rfl⟩, by decide, rfl, by decide, by decide, by decide⟩

theorem test_hyp_RosterEntriesFollowTheirStations_frame :
    receivedFrame (.receiveHandoff 31 handoff) = some (31, .handoff handoff) ∧
    receivedFrame (.receiveStatus 31 status) = some (31, .status status) ∧
    stationOk 31 = true ∧ frameOk (.handoff handoff) = true ∧ onLine.node.receiving = true ∧
    31 ≠ onLine.node.config.station ∧ onLine.node.roster.others.length < 23 ∧
    referenced.node.roster.entry? 3 = some (entry 3) := by decide

theorem test_hyp_FramesAdoptPairs :
    receivedFrame (.receiveStop 3 announce) = some (3, .stop announce) ∧
    framePair 3 (.stop announce) =
      some (10, .standstill, false, some (announcementOf false 3 announce)) ∧
    receivedFrame (.receiveStatus 3 { status with number := 1 }) =
      some (3, .status { status with number := 1 }) ∧
    stationOk 3 = true ∧ frameOk (.stop announce) = true ∧ onLine.node.receiving = true ∧
    3 ≠ onLine.node.config.station ∧ onLine.node.isOrigin = false ∧
    onLine.node.bus.participation ≠ .joining ∧ (station 1 .joining .run).node.config.station < 31 ∧ onLine.node.quiet ∧
    evNewer 10 onLine.node.line.number = true ∧ evNewer 32767 0 = true ∧ evNewer 32768 0 = false ∧
    (station 2 .active .trip).node.line.view = .trip ∧ evNewer 1 0 = true ∧
    (station 2 .active .trip).node.active = true ∧ (station 2 .active .trip).node.quiet ∧
    (station 2 .joining .unknown).node.quiet ∧ View.standstill.rank < View.run.rank := by
  refine ⟨rfl, rfl, rfl, by decide, by decide, by decide, by decide, by decide, by decide, by decide, test_onLine_quiet,
    by decide, by decide, by decide, by decide, by decide, by decide, ?_, ?_, by decide⟩
  · exact quiet_of _ rfl rfl rfl rfl rfl rfl rfl
  · exact quiet_of _ rfl rfl rfl rfl rfl rfl rfl

/-- An own proposal waiting and one in transmission, beside the proposal view of another: a pair that
changes the number, one that keeps it, one that is ignored, and an ENACT that closes the view. -/
theorem test_hyp_FramesAdoptPairs_own :
    let p : ProposePayload := { id := { station := 7, count := 0 }, base := 0, target := .creep }
    let o : OwnProposal := { id := p.id, base := 0, target := .creep, phase := .queued }
    let view : ProposalView := { id := proposalId, base := 0, target := .creep, timer := 20 }
    let s := { onLine with
      node.bus.queue := [queued (.propose p) true], node.line.own := some o
      node.line.proposalView := some view }
    framePair 3 (.enact enact) = some (10, .creep, false, none) ∧ enact.id = view.id ∧
    s.node.calm ∧ s.node.line.own = some o ∧ s.node.line.proposalView = some view ∧
    s.node.len.source = .encoder ∧ s.node.isOrigin = false ∧ s.node.linesFollow ∧
    s.node.holdReasons o.target = [] ∧ evNewer 10 s.node.line.number = true ∧
    10 ≠ s.node.line.number ∧ View.standstill.rank < s.node.line.view.rank ∧
    (queued (.propose p) true).isPropose = true ∧ ¬(evNewer 0 s.node.line.number = true) ∧
    evSucc 65535 = 0 ∧ evNewer 32766 65535 = true ∧ evNewer 32767 65535 = false := by
  refine ⟨rfl, rfl, ⟨rfl, rfl⟩, rfl, rfl, rfl, by decide, ?_, by decide, by decide, by decide,
    by decide, by decide, by decide, by decide, by decide, by decide⟩
  exact Node.linesFollow_congr (n := onLine.node) rfl rfl rfl rfl rfl rfl rfl test_onLine_quiet.2.1

theorem test_hyp_ProposeFrameIsAnswered :
    let view : ProposalView := { id := proposalId, base := 0, target := .run, timer := 499 }
    let forced := { referenced with
      node.len.source := .derived, node.config.referenceMode := 1, node.config.referenceStation := 3 }
    let s := { onLine with node.line.proposalView := some view }
    stationOk 5 = true ∧ frameOk (.propose propose) = true ∧ 5 ≠ onLine.node.config.station ∧
    onLine.node.active = true ∧ onLine.node.roster.entry? 5 = none ∧
    onLine.node.len.source = .encoder ∧ onLine.node.quiet ∧ onLine.node.bus.queue.length ≤ 14 ∧
    onLine.node.line.proposalView = none ∧ propose.base ≠ onLine.node.line.number ∧
    ({ propose with base := 0 } : ProposePayload).base = onLine.node.line.number ∧
    legalMove onLine.node.line.view propose.target = true ∧
    onLine.node.holdReasons propose.target = [] ∧
    { onLine with node.line.hold := true }.node.holdReasons .creep = .localHold :: [] ∧
    s.node.line.proposalView = some view ∧ s.node.quiet ∧
    forced.node.len.source = .derived ∧ forced.node.roster.reference = forced.node.chooseReference ∧
    forced.node.roster.entry? 3 = some (entry 3) ∧ (entry 3).present = true := by
  refine ⟨by decide, by decide, by decide, by decide, by decide, by decide, test_onLine_quiet, ?_⟩
  refine ⟨by decide, by decide, by decide, by decide, by decide, by decide, by decide, rfl, ?_⟩
  exact ⟨quiet_of _ rfl rfl rfl rfl rfl rfl rfl, by decide, by decide, by decide, by decide⟩

theorem test_hyp_ProposeFrameIsAnswered_own :
    let o (phase : ProposalPhase) : OwnProposal :=
      { id := proposalId, base := 0, target := .creep, phase := phase }
    let s (phase : ProposalPhase) := { onLine with node.line.own := some (o phase) }
    let away := station 2 .listen .run
    (∀ phase, (s phase).node.calm ∧ (s phase).node.linesFollow ∧
      (s phase).node.holdReasons (o phase).target = []) ∧
    (o .queued).phase = .queued ∧ (o (.voting [3] [] 0)).phase ≠ .queued ∧
    away.node.receiving = true ∧ away.node.active = false ∧ away.node.quiet ∧
    away.node.len.source = .encoder ∧ away.node.roster.entry? 5 = none := by
  refine ⟨fun phase => ⟨⟨rfl, rfl⟩, ?_, rfl⟩, rfl, nofun, by decide, by decide, ?_, by decide, by decide⟩
  · exact Node.linesFollow_congr (n := onLine.node) rfl rfl rfl rfl rfl rfl rfl test_onLine_quiet.2.1
  · exact quiet_of _ rfl rfl rfl rfl rfl rfl rfl

theorem test_hyp_VotesAndTimersDecideProposals_votes :
    let id : ProposalId := { station := 7, count := 255 }
    let own : OwnProposal :=
      { id := id, base := 0, target := .creep, phase := .voting [3, 5] [5] 299 }
    let s := { onLine with node.line.own := some own }
    s.node.line.own =
      some { id := id, base := 0, target := .creep, phase := .voting [3, 5] [5] 299 } ∧
    stationOk 3 = true ∧ proposalIdOk id = true ∧ 3 ≠ s.node.config.station ∧
    s.node.active = true ∧ s.node.roster.entry? 3 = none ∧ s.node.len.source = .encoder ∧ s.node.calm ∧
    s.node.linesFollow ∧ s.node.holdReasons .creep = [] ∧ s.node.bus.queue.length ≤ 14 ∧
    (3 ∈ [3, 5] ∧ 3 ∉ [5] ∧ ∀ x ∈ [3, 5], x = 3 ∨ x ∈ [5]) ∧
    (3 ∉ ([] : List Nat) ∧ ∃ x ∈ [3, 5], x ≠ 3 ∧ x ∉ ([] : List Nat)) := by
  refine ⟨rfl, by decide, by decide, by decide, by decide, by decide, by decide, ⟨rfl, rfl⟩, ?_,
    by decide, by decide, by decide, by decide⟩
  exact Node.linesFollow_congr (n := onLine.node) rfl rfl rfl rfl rfl rfl rfl test_onLine_quiet.2.1

theorem test_hyp_VotesAndTimersDecideProposals_timers :
    let own : OwnProposal :=
      { id := proposalId, base := 0, target := .creep, phase := .voting [3] [] 300 }
    let s := { onLine with node.line.own := some own }
    onLine.node.voting = false ∧ s.node.line.own = some own ∧ s.node.voting = true ∧
    s.node.faults.reported = [] := by decide

theorem test_hyp_HandoffBecomesAnArrival :
    let direct := { fed with node.handover.gap := 0 }
    stationOk 3 = true ∧ frameOk (.handoff handoff) = true ∧ fed.node.receiving = true ∧
    3 ≠ fed.node.config.station ∧ fed.node.roster.entry? 3 = some (entry 3) ∧
    (entry 3).present = true ∧ fed.node.roster.upstream = fed.node.chooseUpstream ∧
    fed.node.quiet ∧ fed.node.isOrigin = false ∧ fed.node.handover.neighbour = some 3 ∧
    fed.node.handover.gap ≠ 0 ∧ fed.node.handover.arrivals.length < 8 ∧
    direct.node.quiet ∧ direct.node.handover.arrivals = [] ∧ direct.node.window = Window.empty ∧
    { fed with node.handover.neighbour := none }.node.handover.neighbour ≠ some 3 ∧
    { fed with node.config.role := 1 }.node.isOrigin = true := by
  refine ⟨by decide, by decide, by decide, by decide, by decide, by decide, by decide, ?_⟩
  refine ⟨quiet_of _ rfl rfl rfl rfl rfl rfl rfl, by decide, by decide, by decide, by decide, ?_⟩
  refine ⟨quiet_of _ rfl rfl rfl rfl rfl rfl rfl, by decide, by decide, by decide, by decide⟩

theorem test_hyp_BadAndDuplicateFrames :
    (station 2 .offline .unknown).node.bus.participation = .offline ∧
    onLine.node.receiving = true ∧ onLine.node.quiet ∧ judge [] none = .checkFail ∧
    judge [5#8, 6#8, 97#8] none = .malformed ∧
    receivedFrame (.receiveStatus 7 status) = some (7, .status status) ∧ stationOk 7 = true ∧
    frameOk (.status status) = true ∧ onLine.node.onLine = true ∧
    7 = onLine.node.config.station ∧ onLine.node.calm :=
  ⟨by decide, by decide, test_onLine_quiet, by decide, by decide, rfl, by decide, by decide,
    by decide, by decide, ⟨rfl, rfl⟩⟩

/-- Each way a frame is judged bad: its header, its length, its check, and its payload. -/
theorem test_hyp_BadAndDuplicateFrames_judged :
    let sealed (bytes : List Byte) : List Byte := bytes ++ checkBytes bytes
    judge [5#8, 6#8] none = .checkFail ∧ judge (sealed [5#8, 6#8, 2#8, 5#8, 2#8]) (some 2) = .checkFail ∧
    judge (sealed [5#8, 6#8, 2#8, 5#8, 2#8]) (some 3) = .checkFail ∧
    judge [5#8, 6#8, 2#8, 5#8, 2#8, 0#8, 0#8] none = .checkFail ∧
    judge (sealed [5#8, 6#8, 2#8, 5#8]) none = .checkFail ∧
    judge [5#8, 6#8, 97#8] (some 3) = .malformed ∧ judge (sealed [5#8, 6#8, 1#8, 5#8]) none = .malformed ∧
    judge (sealed [5#8, 6#8, 2#8, 0#8, 2#8]) none = .malformed ∧
    judge (sealed [0#8, 6#8, 2#8, 5#8, 2#8]) none = .malformed ∧
    judge (sealed [5#8, 6#8, 2#8, 5#8, 2#8]) none = .good 5 (.assent proposalId) := by decide +kernel

theorem test_hyp_RosterEntriesFollowTheirStations_silent :
    fed.node.quiet ∧ fed.node.roster.entry? 3 = some (entry 3) ∧ (entry 3).present = true ∧
    fed.node.isOrigin = false ∧ fed.node.roster.upstream = some 3 ∧
    ∀ e, fed.node.roster.entry? 4 = some e → e.present = false :=
  ⟨quiet_of _ rfl rfl rfl rfl rfl rfl rfl, by decide, by decide, by decide, by decide,
    fun e h => absurd h (by
      have hn : fed.node.roster.entry? 4 = none := by decide
      rw [hn]
      simp)⟩

theorem test_hyp_RosterChoosesItsStations :
    let n := { fed.node with config.neighbourMode := 1, config.referenceMode := 1 }
    (fed.node.bus.participation ≠ .offline ∧ fed.node.isOrigin = false) ∧
    (station 2 .offline .unknown).node.bus.participation = .offline ∧ n.config.neighbourMode = 1 ∧
    fed.node.config.neighbourMode ≠ 1 ∧ fed.node.chooseUpstream = some 3 ∧
    onLine.node.chooseUpstream = none ∧ n.config.referenceMode = 1 ∧
    fed.node.config.referenceMode ≠ 1 ∧ (station 3 .active .run).node.chooseReference = some 7 ∧
    onLine.node.chooseReference = none ∧ fed.node.chooseUpstream = fed.node.roster.upstream ∧
    referenced.node.chooseUpstream ≠ referenced.node.roster.upstream := by decide

/-- A STATUS of an ORIGIN with the own order. -/
def rival : StatusPayload :=
  { status with descriptor := { descriptor with role := .origin, order := 5 } }

/-- The entry such a STATUS makes. -/
def rivalEntry : RosterEntry := { entry 3 with descriptor := some rival.descriptor }

theorem test_hyp_ConflictsAreRecorded :
    let origin := station 1 .joining .run
    let creel := { station 1 .listen .run with node.roster.others := [rivalEntry] }
    stationOk 3 = true ∧ frameOk (.status rival) = true ∧ onLine.node.receiving = true ∧
    3 ≠ onLine.node.config.station ∧ onLine.node.roster.others.length < 23 ∧ onLine.node.quiet ∧
    rival.descriptor.order = onLine.node.config.order ∧ onLine.node.roster.entry? 3 = none ∧
    (∃ e d, creel.node.roster.entry? 3 = some e ∧ e.present = true ∧ e.descriptor = some d ∧
      d.order = creel.node.config.order) ∧ creel.node.receiving = true ∧
    origin.node.inService = true ∧ origin.node.isOrigin = true ∧ 3 < origin.node.config.station ∧
    origin.node.quiet ∧ origin.node.creel = false ∧ rival.descriptor.role = .origin ∧
    creel.node.bus.participation = .listen ∧ creel.node.quiet ∧ creel.node.creel = true := by
  refine ⟨by decide, by decide, by decide, by decide, by decide, test_onLine_quiet, by decide,
    by decide, ⟨rivalEntry, rival.descriptor, by decide⟩, by decide, by decide, by decide, by decide,
    ?_, by decide, by decide, by decide, ?_, by decide⟩
  · exact quiet_of _ rfl rfl rfl rfl rfl rfl rfl
  · exact quiet_of _ rfl rfl rfl rfl rfl rfl rfl

theorem test_hyp_TransmitBeginSendsTheChosenFrame :
    let before := [queued (.status status) false]
    let q := queued (.stop announce) false
    let after := [queued (.trip announce) false]
    let s := { onLine with node.bus.queue := before ++ q :: after }
    (∀ x ∈ s.node.bus.queue, x.inTransmission = false) ∧
    s.node.bus.participation = .active ∧ (∀ x ∈ before, q.frame.cls < x.frame.cls) ∧
    (∀ x ∈ after, q.frame.cls ≤ x.frame.cls) ∧
    (∃ x ∈ [queued (.trip announce) true], x.inTransmission = true) ∧
    (station 2 .withdrawing .trip).node.bus.participation = .withdrawing ∧
    ∀ x ∈ onLine.node.bus.queue, ¬(x.inTransmission = true) := by decide

theorem test_hyp_TransmitCompleteRemovesTheFrame :
    let p : ProposePayload := { id := { station := 7, count := 0 }, base := 0, target := .creep }
    let q := queued (.propose p) true
    let o : OwnProposal := { id := p.id, base := 0, target := .creep, phase := .queued }
    let s := { referenced with node.bus.queue := [q], node.line.own := some o }
    let plain := { onLine with node.bus.queue := [queued (.status status) true] }
    s.node.bus.participation ≠ .unconfigured ∧ s.node.bus.queue = [] ++ q :: [] ∧
    q.inTransmission = true ∧ s.node.faults.reported = [] ∧ q.ofWithdrawal = false ∧
    q.withdrawn = false ∧ q.frame = .propose p ∧ s.node.line.own = some o ∧ o.id = p.id ∧
    o.phase = .queued ∧ s.node.roster.electorate ≠ [] ∧ s.node.linesFollow ∧
    s.node.holdReasons o.target = [] ∧ plain.node.quiet ∧
    (QueuedFrame.fresh (.trip announce) true).ofWithdrawal = true ∧
    ∀ x ∈ onLine.node.bus.queue, x.inTransmission = false := by
  refine ⟨by decide, rfl, rfl, rfl, rfl, rfl, rfl, rfl, rfl, rfl, by decide, ?_, by decide, ?_, rfl,
    by decide⟩
  · exact Node.linesFollow_congr (n := onLine.node) rfl rfl rfl rfl rfl rfl rfl test_onLine_quiet.2.1
  · exact quiet_of _ rfl rfl rfl rfl rfl rfl rfl

/-- A withdrawn PROPOSE in transmission, its proposal over and a new one waiting. -/
theorem test_hyp_TransmitCompleteRemovesTheFrame_withdrawn :
    let p : ProposePayload := { id := { station := 7, count := 0 }, base := 0, target := .creep }
    let o : OwnProposal := { id := { station := 7, count := 1 }, base := 0, target := .creep, phase := .queued }
    let q := { queued (.propose p) true with withdrawn := true }
    let s := { onLine with node.bus.queue := [q], node.line.own := some o }
    q.inTransmission = true ∧ q.ofWithdrawal = false ∧ q.withdrawn = true ∧ s.node.calm ∧
    s.node.linesFollow ∧ s.node.countersFollow ∧ s.node.line.own = some o ∧
    s.node.holdReasons o.target = [] :=
  ⟨rfl, rfl, rfl, ⟨rfl, rfl⟩,
    Node.linesFollow_congr (n := onLine.node) rfl rfl rfl rfl rfl rfl rfl test_onLine_quiet.2.1,
    countersFollow_of _ rfl, rfl, by decide⟩

theorem test_hyp_TransmitCompleteRemovesTheFrame_others :
    let h := queued (.handoff handoff) true
    let e := queued (.enact enact) true
    let s := { station 2 .active .standstill with node.bus.queue := [e] }
    let o : LastOutcome := { id := proposalId, outcome := .enacted .pending }
    let t := { s with node.line.lastOutcome := some o }
    h.inTransmission = true ∧ h.ofWithdrawal = false ∧ h.withdrawn = false ∧
    h.frame = .handoff handoff ∧ { onLine with node.bus.queue := [h] }.node.quiet ∧
    e.inTransmission = true ∧ e.frame = .enact enact ∧ s.node.quiet ∧
    t.node.line.lastOutcome = some o ∧ evNewer enact.number s.node.line.number = true ∧
    s.node.line.view ≠ .unknown ∧ s.node.line.view ≠ .trip :=
  ⟨rfl, rfl, rfl, rfl, quiet_of _ rfl rfl rfl rfl rfl rfl rfl, rfl, rfl,
    quiet_of _ rfl rfl rfl rfl rfl rfl rfl, rfl, by decide, by decide, by decide⟩

theorem test_hyp_TransmitCompleteRemovesTheFrame_alone :
    let p : ProposePayload := { id := { station := 7, count := 0 }, base := 0, target := .creep }
    let o : OwnProposal := { id := p.id, base := 0, target := .creep, phase := .queued }
    let s := { onLine with
      node.bus.queue := [queued (.propose p) true], node.line.own := some o }
    s.node.roster.electorate = [] ∧ s.node.linesFollow ∧ s.node.holdReasons o.target = [] ∧
    s.node.active = true ∧ ([] : List QueuedFrame).length + ([] : List QueuedFrame).length < 16 ∧
    s.node.line.own = some o ∧ o.id = p.id ∧ o.phase = .queued :=
  ⟨by decide, Node.linesFollow_congr (n := onLine.node) rfl rfl rfl rfl rfl rfl rfl test_onLine_quiet.2.1,
    by decide, by decide, by decide, rfl, rfl, rfl⟩

theorem test_hyp_OffersMeetTheQueue :
    let waiting (q : QueuedFrame) := { onLine.node with bus.queue := List.replicate 16 q }
    let own : OwnProposal :=
      { id := propose.id, base := 9, target := .creep, phase := .queued }
    (station 2 .listen .run).node.active = false ∧ onLine.node.active = true ∧
    onLine.node.bus.queue.length < 16 ∧ 16 ≤ (waiting (queued (.status status) false)).bus.queue.length ∧
    2 ≤ (Frame.handoff handoff).cls ∧ (Frame.stop announce).cls < 2 ∧
    (∀ x ∈ (waiting (queued (.stop announce) false)).bus.queue, ¬(2 ≤ x.frame.cls)) ∧
    (waiting (queued (.status status) false)).bus.queue =
      [] ++ queued (.status status) false :: List.replicate 15 (queued (.status status) false) ∧
    2 ≤ (queued (.status status) false).frame.cls ∧
    { onLine with node.line.own := some own }.node.line.own = some own ∧ own.id = propose.id ∧
    own.phase = .queued := by decide

/-- A line whose own driver sends a byte of zeros while another station drives. -/
def driving : LineBus :=
  { onLine.node.bus with lde := true, ltx := [0#8], idleCount := 9, tap.others := [true] }

theorem test_hyp_LineIsFollowedBitByBit :
    let n := { onLine.node with bus.tap.recessive := 10, bus.tap.heard := [false] }
    driving.level = true ∧ onLine.node.bus.level = false ∧
    onLine.node.bus.participation ≠ .unconfigured ∧ n.receiving = true ∧ n.bus.tap.recessive = 10 ∧
    n.bus.tap.heard ≠ [] ∧ (∀ q ∈ onLine.node.bus.queue, ¬(q.inTransmission = true)) ∧
    (∃ q ∈ [queued (.status status) true], q.inTransmission = true) := by decide

/-- The first bit time makes an event, or makes none. -/
theorem test_hyp_LineIsFollowedBitByBit_event :
    let next (b : LineBus) := b.bitTime true
    let heard := { onLine.node.bus with tap.heard := [false], tap.recessive := 9 }
    ((next heard).tap.recessive = 10 ∧ (next heard).tap.heard ≠ []) ∧
    ¬((next onLine.node.bus).lde = true ∨ 2020 < (next onLine.node.bus).busyCount ∨
      (next onLine.node.bus).tap.heard ≠ []) := by decide

theorem test_hyp_CollisionRetriesOrAbandons :
    let q := { queued (.status status) true with collisions := 15 }
    let s := { onLine with node.bus.queue := [queued (.stop announce) false] ++ q :: [] }
    s.node.bus.participation = .active ∧ s.node.quiet ∧ q.inTransmission = true ∧
    (∀ x ∈ [queued (.stop announce) false], x.inTransmission = false) ∧ q.withdrawn = false ∧
    16 ≤ q.collisions + 1 ∧ ({ q with collisions := 14 } : QueuedFrame).collisions + 1 < 16 ∧
    ({ q with withdrawn := true } : QueuedFrame).withdrawn = true :=
  ⟨by decide, quiet_of _ rfl rfl rfl rfl rfl rfl rfl, by decide, by decide, by decide, by decide,
    by decide, by decide⟩

theorem test_hyp_CollisionRetriesOrAbandons_withdrawing :
    let q := { QueuedFrame.fresh (.trip announce) true with collisions := 15, inTransmission := true }
    let s := { station 2 .withdrawing .trip with node.bus.queue := [q] }
    s.node.bus.participation = .withdrawing ∧ s.node.quiet ∧ s.node.bus.queue = [] ++ q :: [] ∧
    q.inTransmission = true ∧ q.withdrawn = false ∧ 16 ≤ q.collisions + 1 :=
  ⟨by decide, quiet_of _ rfl rfl rfl rfl rfl rfl rfl, rfl, rfl, rfl, by decide⟩

theorem test_hyp_ActiveReportsItsStatus_status :
    let q := queued (.status status) false
    let s := { onLine with node.bus.queue := [] ++ q :: [] }
    (station 2 .listen .run).node.active = false ∧ onLine.node.active = true ∧
    onLine.node.quiet ∧
    (∀ x ∈ onLine.node.bus.queue, x.isStatus = true → x.inTransmission = true) ∧
    onLine.node.bus.queue.length < 16 ∧ s.node.active = true ∧ s.node.quiet ∧
    q.isStatus = true ∧ q.inTransmission = false :=
  ⟨by decide, by decide, test_onLine_quiet, by decide, by decide, by decide,
    quiet_of _ rfl rfl rfl rfl rfl rfl rfl, by decide, by decide⟩

theorem test_hyp_StandstillCountsAndEndsInDwell_second :
    let s := { station 2 .active .standstill with node.prot.running := true, node.prot.timer := 89 }
    onLine.node.prot.running = false ∧ s.node.prot.running = true ∧ s.node.quiet ∧
    (s.node.prot.timer < s.node.config.dwell2 ∧
      s.node.config.dwell2 ≤ min 65535 (s.node.prot.timer + 1)) ∧
    ¬(88 < s.node.config.dwell2 ∧ s.node.config.dwell2 ≤ min 65535 (88 + 1)) :=
  ⟨by decide, by decide, quiet_of _ rfl rfl rfl rfl rfl rfl rfl, by decide, by decide⟩

theorem test_hyp_StandstillCountsAndEndsInDwell_end :
    let s := { withSheet 2500 (station 2 .active .standstill) with
      node.prot.running := true, node.prot.timer := 1 }
    View.trip.standing = true ∧ View.standstill.standing = true ∧ View.run.standing = false ∧
    View.unknown.standing = false ∧ View.creep.moving = true ∧ s.node.prot.timer ≠ 0 ∧
    onLine.node.prot.timer = 0 ∧ stationOk 3 = true ∧ frameOk (.enact enact) = true ∧
    3 ≠ s.node.config.station ∧ s.node.active = true ∧ s.node.line.view = .standstill ∧
    enact.target.moving = true ∧ evNewer enact.number s.node.line.number = true ∧ s.node.quiet :=
  ⟨by decide, by decide, by decide, by decide, by decide, by decide, by decide, by decide, by decide,
    by decide, by decide, by decide, by decide, by decide, quiet_of _ rfl rfl rfl rfl rfl rfl rfl⟩

theorem test_hyp_EnteringRecordIsCutOrDeclaredLate_late :
    let n := (withSheet 4301 onLine).node
    n.isOrigin = false ∧ n.window.entering = some enteringRecord ∧
    enteringRecord.expected = some 2000 ∧ n.lateMet n.len.tracking enteringRecord = true ∧
    (withSheet 4300 onLine).node.lateMet 4300 enteringRecord = false ∧
    n.window.closed.length < 47 := by decide

theorem test_hyp_EnteringRecordIsCutOrDeclaredLate_lateFull :
    let n := (fullSheet 4301 onLine).node
    n.window.entering = some enteringRecord ∧ n.lateMet n.len.tracking enteringRecord = true ∧
    47 ≤ n.window.closed.length := by decide

theorem test_hyp_EnteringRecordIsCutOrDeclaredLate_cut :
    let n (l : Nat) := (withSheet l (station 1 .active .run)).node
    let f := (fullSheet 4100 (station 1 .active .run)).node
    (n 4100).isOrigin = true ∧ (n 4100).window.entering = some enteringRecord ∧
    enteringRecord.expected = some 2000 ∧
    (n 4099).len.tracking - enteringRecord.expectFrom < 2000 ∧
    2000 ≤ (n 4100).len.tracking - enteringRecord.expectFrom ∧ (n 4100).window.closed.length < 47 ∧
    47 ≤ f.window.closed.length := by decide

theorem test_hyp_RecordsExitAndRetire :
    let n (role : Nat) (p : Participation) := (withSheet 14100 (station role p .run)).node
    (n 2 .active).window.closed = closedRecord :: [] ∧
    (withSheet 14099 onLine).node.len.tracking < closedRecord.tail + onLine.node.config.reach ∧
    closedRecord.tail + onLine.node.config.reach ≤ (n 2 .active).len.tracking ∧
    (n 3 .active).isTerminal = true ∧ (n 2 .active).isTerminal = false ∧ (n 2 .active).active = true ∧
    (n 2 .active).bus.queue.length < 16 ∧
    16 ≤ { (n 2 .active) with bus.queue := List.replicate 16 (queued (.stop announce) false) }.bus.queue.length ∧
    (n 1 .listen).isTerminal = false ∧ (n 1 .listen).active = false := by decide

def arrival (first last due : Nat) : Arrival :=
  { body := { body with first := first, last := last }, nextNominal := some 2000, bridged := false,
    due := due }

theorem test_hyp_ArrivalsAreApplied :
    let n := { (withSheet 2500 onLine).node with
      handover.arrivals := [arrival 102 102 2500, arrival 103 103 2501] }
    let full := { n with handover.arrivals := List.replicate 8 (arrival 102 102 2501) }
    n.handover.arrivals = arrival 102 102 2500 :: [arrival 103 103 2501] ∧
    (arrival 102 102 2500).due ≤ n.len.tracking ∧ n.len.tracking < (arrival 102 102 2501).due ∧
    full.handover.arrivals = arrival 102 102 2501 :: List.replicate 7 (arrival 102 102 2501) ∧
    full.handover.arrivals.length = 8 ∧ n.isOrigin = false ∧ n.window.entering = some enteringRecord ∧
    segNotOlder (arrival 102 102 0).body.last enteringRecord.body.first = true ∧
    n.window.closed.length < 47 ∧ 47 ≤ (fullSheet 2500 onLine).node.window.closed.length ∧
    onLine.node.isOrigin = false ∧ onLine.node.window.entering = none := by decide

theorem test_hyp_ArrivalsAreApplied_older :
    let provisional := { closedRecord with body.content := .provisional, body.origin := none }
    let n := { (withSheet 2500 onLine).node with window.closed := [provisional] }
    let overlaps (a : Arrival) (b : Body) := rangesOverlap a.body.first a.body.last b.first b.last
    segNotOlder (arrival 100 101 0).body.last enteringRecord.body.first = false ∧
    n.window.closed = [] ++ provisional :: [] ∧ provisional.body.content = .provisional ∧
    overlaps (arrival 100 101 0) provisional.body = true ∧
    (∀ b ∈ (withSheet 2500 onLine).node.window.bodies, ¬(b.content = .provisional)) ∧
    (∃ b ∈ (withSheet 2500 onLine).node.window.bodies, overlaps (arrival 100 101 0) b = true) ∧
    ∀ b ∈ n.window.bodies, overlaps (arrival 90 91 0) b = false := by decide

theorem test_hyp_ContentFillsAndMerges :
    let read := { body with pickup := some { value := 3, count := 65535 } }
    body.nominal ≠ none ∧ body.origin ≠ none ∧ ({ body with nominal := none } : Body).nominal = none ∧
    ({ body with origin := none } : Body).origin = none ∧
    ({ body with pickup := none } : Body).pickup = none ∧
    read.pickup = some { value := 3, count := 65535 } := by decide

/-! ### Small steps -/

/-- What a part of the state is once the command in front has run. -/
def seen {α : Type} (c : Instr) (s : State) (f : Node → α) : Option α :=
  match step (s.push c) with
  | .next t => some (f t.node)
  | _ => none

/-- Fraction 6 and a pulse of 3 eighths make one millimetre and leave 1 (R2, R5). -/
theorem test_step_forwardPulse :
    seen (.quadratureChange true false) { onLine with node.len.fraction := 6 }
      (fun n => (n.len.tracking, n.len.fraction, n.len.quadA)) = some (1, 1, true) := by decide
/-- A reverse pulse from fraction 2 borrows one millimetre (R3). -/
theorem test_step_reversePulse :
    seen (.quadratureChange false true) { onLine with node.len.fraction := 2 }
      (fun n => (n.len.tracking, n.len.fraction, n.len.debt)) = some (0, 7, 1) := by decide
/-- After START the station is JOINING and the response is DONE without data (R154, R178). -/
theorem test_step_start :
    seen (.start []) { State.reset with node.config := config }
      (fun n => (n.bus.participation, n.port.response, n.prot.driven)) =
      some (.joining, some [1#8, 0#8, 0#8, 0#8, 0#8], true) := by decide
/-- A record of zeros is refused at field 1 (R177). -/
theorem test_step_startZeros :
    seen (.start []) State.reset (fun n => (n.bus.participation, n.port.response)) =
      some (.unconfigured, some [1#8, 4#8, 1#8, 0#8, 0#8]) := by decide
/-- A trip from ACTIVE adopts the next number (R93). -/
theorem test_step_announceTrip :
    seen (.announceTrip [9#8]) onLine
      (fun n => (n.line.view, n.line.number, n.line.tripUnack, n.bus.queue.length)) =
      some (.trip, 1, true, 1) := by decide
/-- READ_NOTICES gives flags and mask (R182). -/
theorem test_step_readNotices :
    seen (.readNotices []) { onLine with node.port.notices := 0x0102#16, node.port.mask := 0x0304#16 }
      (fun n => n.port.response) =
      some (some [1#8, 0#8, 0#8, 0#8, 4#8, 1#8, 2#8, 3#8, 4#8]) := by decide
/-- A station that hears the levels of a good HOLD of station 3, byte by byte and the idle line behind
it, has the receive command of that frame due (R135, R137). -/
theorem test_line_frameHeard :
    let frame := Frame.hold { id := proposalId, reason := .busy }
    let levels := ((frameBytes 3 [0#8, 0#8, 0#8, 0#8] frame).flatMap lineBits).map fun b => !b
    let bus := LineBus.bitTimes true none 200 { onLine.node.bus with tap.others := List.replicate 10 false ++ levels }
    { onLine.node with bus := bus }.lineDue =
      [.receiveHold 3 { id := proposalId, reason := .busy }] := by decide +kernel
/-- A frame sent on a line that no other station drives is complete after its last bit (R142). -/
theorem test_line_frameSent :
    seen .transmitBegin { onLine with node.bus.queue := [queued (.assent proposalId) false] }
      (fun n => { n with bus := LineBus.bitTimes true none 200 n.bus }.lineDue) =
      some [.transmitComplete] := by decide +kernel
/-- An own frame begun by command on an idle line. -/
def begun (f : Frame) : State :=
  { onLine with
    node.bus.queue := [queued f true], node.bus.lde := true, node.bus.ltx := [7#8, 0xF0#8]
    node.bus.tap.recessive := 10 }

/-- After TRANSMIT_COMPLETE or COLLISION as a command the line is idle again only when it has been
recessive for ten bit times since the frame's last dominant level: 5 of the last byte have passed, or none;
so is it when RESTART cuts the start bit (R135). -/
theorem test_step_lineNotIdle :
    let ended (k : Nat) (n : Node) : Nat × Nat :=
      let bus := LineBus.bitTimes true none k n.bus
      (bus.tap.recessive, bus.idleCount)
    let s := begun (.assent proposalId)
    seen .transmitComplete s (fun n => (ended 0 n, ended 4 n, ended 5 n, ended 7 n)) =
      some ((5, 0), (9, 0), (10, 0), (10, 2)) ∧
    seen .collision s (fun n => (ended 0 n, ended 9 n, ended 10 n, ended 12 n)) =
      some ((0, 0), (9, 0), (10, 0), (10, 2)) ∧
    seen (.restart []) s (fun n => ended 0 n) = some (0, 0) := by decide +kernel
/-- Bit by bit the line comes to the same recessive run at the end of a frame (R135, R142). -/
theorem test_line_sentRun :
    seen .transmitBegin { onLine with
        node.bus.queue := [queued (.assent proposalId) false], node.bus.tap.recessive := 10 }
      (fun n =>
        let m := { n with bus := LineBus.bitTimes true none 200 n.bus }
        (m.bus.sentWhole, decide (m.lineSent.bus.tap = { m.bus.tap with heard := [] }))) =
      some (true, true) := by decide +kernel
/-- A wrap sets COUNTER_OVERFLOW, and one while the overflow flag stands shows nothing more (R172). -/
theorem test_report_wraps :
    let overflowed (n : Node) :=
      let m := n.report (CounterEvent.boundary 0 5)
      ((m.counters.cells.get 0).value, (m.counters.cells.get 0).overflow, m.noticed Notice.counterOverflow)
    overflowed counting.node = (0, true, true) ∧
    overflowed { counting.node with counters.cells.q0 :=
      { counting.node.counters.cells.get 0 with overflow := true } } = (0, true, false) := by decide
/-- A bit driven recessive and read back dominant is a collision (R143). -/
theorem test_line_collision :
    ({ driving with ltx := [255#8], tap.driven := 1 }.bitTime true).collides = true := by decide
/-- ACT0 is high for a negated line of polarity ACTIVE_LOW (R115). -/
theorem test_pins_act : ({ onLine.node with
    config.lines := Quad.same { line with polarity := 1 } }.actPin 0) = some true := by decide
/-- A line that an open mark alone asserts in RUN, with the latch option, stays asserted through OFFLINE,
where the mark is gone (R119). -/
theorem test_step_latchOffline :
    seen (.setParticipation [5#8]) latching
      (fun n => (n.bus.participation, n.marks.table, (n.prot.lines.get 0).latch,
        (n.prot.lines.get 0).asserted)) = some (.offline, [], true, true) := by decide
/-- RESTART on an idle line leaves it idle (R135). -/
theorem test_step_restartIdle :
    seen (.restart []) { onLine with node.bus.tap.recessive := 10 }
      (fun n => (n.bus.participation, n.bus.tap.recessive)) = some (.joining, 10) := by decide
/-- In WITHDRAWING each of the three targets is IGNORED and another refused with field index 1 (log 44). -/
theorem test_step_withdrawingTarget :
    let s := station 2 .withdrawing .trip
    seen (.setParticipation [5#8]) s (fun n => n.port.response) =
      some (some (responseBytes Result.ignored 0 [])) ∧
    seen (.setParticipation [4#8]) s (fun n => n.port.response) =
      some (some (responseBytes Result.refusedArgument 1 [])) := by decide
/-- While RESET_N stays asserted READ_STATUS is not taken; at the next power-on reset it may be (R180). -/
theorem test_step_held :
    seen (.readStatus []) held (fun n => n.port.response) = some none ∧
    seen (.powerOnReset { a := true, b := false } false) held (fun n => (n.inReset, n.len.quadA)) =
      some (false, true) := by decide

end Sys2Proof.Tests
end

/-! PROOFS. What an event leaves alone: two readings of a node, and for each operation of the model that
it leaves the reading as it was. -/

namespace Sys2Proof.Machine

/-! ### Two readings of a node -/

/-- The Length Unit without what a change of view, a reference and their timers set (R7, R10). -/
def LengthUnit.lasting (l : LengthUnit) : LengthUnit :=
  { l with stallTimer := 0, reference := none, absenceTimer := 0 }

/-- What nothing but the Length Unit's own events and the setup of the part changes. -/
structure Standing where
  config : ConfigRecord
  len : LengthUnit
  driven : Bool
  started : Bool
  lost : Bool
  resumed : Bool

/-- The reading of a node that frames, timers of other blocks and requests leave. -/
def Node.standing (n : Node) : Standing :=
  { config := n.config, len := n.len.lasting, driven := n.prot.driven, started := n.configured
    lost := n.noticed Notice.encoderLost, resumed := n.noticed Notice.encoderResumed }

/-- What the turns at an advance and the taking of faults leave besides: the whole Length Unit and the
arrivals. -/
structure Held where
  standing : Standing
  len : LengthUnit
  arrivals : List Arrival

/-- The reading of a node that the taking of faults and the followers leave. -/
def Node.held (n : Node) : Held :=
  { standing := n.standing, len := n.len, arrivals := n.handover.arrivals }

/-- The coarser reading is part of the finer. -/
theorem Node.standing_of_held {m n : Node} (h : m.held = n.held) : m.standing = n.standing :=
  congrArg Held.standing h

/-- What the taking of faults leaves: the record, the Length Unit, the arrivals, START. -/
theorem Node.of_held {m n : Node} (h : m.held = n.held) :
    m.config = n.config ∧ m.len = n.len ∧ m.handover.arrivals = n.handover.arrivals ∧
    m.configured = n.configured :=
  ⟨congrArg (fun o : Held => o.standing.config) h, congrArg Held.len h, congrArg Held.arrivals h,
    congrArg (fun o : Held => o.standing.started) h⟩

/-! ### Notices, faults, counters -/

/-- The flags that stand after a notice. -/
theorem Node.noticed_notice (i j : Nat) (n : Node) (hi : i < 16) :
    (n.notice i).noticed j = (n.noticed j || decide (i = j)) := by
  simp only [Node.noticed, Node.notice, BitVec.getLsbD_or, BitVec.getLsbD_shiftLeft,
    BitVec.getLsbD_one]
  congr 1
  by_cases h : i = j
  · simp [h]; omega
  · by_cases h2 : j < i
    · simp [h2, h]
    · have : ¬ j - i = 0 := by omega
      simp [this, h]

/-- A notice other than those of the encoder leaves both readings. -/
theorem Node.notice_held (i : Nat) (n : Node) (h : 2 ≤ i ∧ i < 16) : (n.notice i).held = n.held := by
  have h0 := Node.noticed_notice i Notice.encoderLost n h.2
  have h1 := Node.noticed_notice i Notice.encoderResumed n h.2
  have e0 : ¬ i = Notice.encoderLost := by unfold Notice.encoderLost; omega
  have e1 : ¬ i = Notice.encoderResumed := by unfold Notice.encoderResumed; omega
  simp only [e0, e1, decide_false, Bool.or_false] at h0 h1
  simp [Node.held, Node.standing, h0, h1, Node.configured]

@[simp] theorem Node.fault_held (k : FaultKind) (n : Node) : (n.fault k).held = n.held := rfl

@[simp] theorem Node.faultSilent_held (k : FaultKind) (n : Node) :
    (n.faultSilent k).held = n.held := rfl

@[simp] theorem Node.respond_held (r f : Nat) (d : List Byte) (n : Node) :
    (n.respond r f d).held = n.held := rfl

@[simp] theorem Node.spendOrder_held (k : Nat) (n : Node) : (n.spendOrder k).held = n.held := rfl

@[simp] theorem Node.spend_held (k : Nat) (n : Node) : (n.spend k).held = n.held := by
  unfold Node.spend
  split <;> rfl

@[simp] theorem Node.faultTimes_held (k : FaultKind) (c : Nat) (n : Node) :
    (n.faultTimes k c).held = n.held := by
  induction c generalizing n with
  | zero => rfl
  | succ c ih => exact (ih _).trans rfl

@[simp] theorem Node.addCounters_held (f : Counter → Option Nat) (n : Node) :
    (n.addCounters f).held = n.held := by
  unfold Node.addCounters
  split
  · rfl
  · split
    · rw [Node.notice_held _ _ (by decide)]; rfl
    · rfl

@[simp] theorem Node.report_held (e : CounterEvent) (n : Node) : (n.report e).held = n.held :=
  Node.addCounters_held _ n

@[simp] theorem Node.followConditions_held (n : Node) : n.followConditions.held = n.held := by
  unfold Node.followConditions
  exact Eq.trans rfl (Node.addCounters_held _ n)

@[simp] theorem Node.evalLines_held (n : Node) : n.evalLines.held = n.held := by
  unfold Node.evalLines
  split <;> rfl

/-! ### The own proposal and the queue -/

@[simp] theorem Node.endOwn_held (e : ProposalEnd) (n : Node) : (n.endOwn e).held = n.held := by
  unfold Node.endOwn
  split
  · rfl
  · rw [Node.report_held, Node.notice_held _ _ (by decide)]; rfl

@[simp] theorem Node.endAndWithdraw_held (e : ProposalEnd) (n : Node) :
    (n.endAndWithdraw e).held = n.held := by
  unfold Node.endAndWithdraw
  split
  · rw [Node.endOwn_held]; rfl
  · rfl

@[simp] theorem Node.denyOwn_held (n : Node) : n.denyOwn.held = n.held := by
  unfold Node.denyOwn
  split
  · rfl
  · split <;> simp

@[simp] theorem Node.settle_held (n : Node) : n.settle.held = n.held := by
  simp [Node.settle]

@[simp] theorem Node.proposeLost_held (i : ProposalId) (n : Node) :
    (n.proposeLost i).held = n.held := by
  unfold Node.proposeLost
  split
  · split <;> simp
  · rfl

@[simp] theorem Node.frameLost_held (q : QueuedFrame) (n : Node) :
    (n.frameLost q).held = n.held := by
  unfold Node.frameLost
  split
  · simp
  · split <;> simp
  · rfl
  · rfl

@[simp] theorem Node.dropFault_held (f : Frame) (n : Node) : (n.dropFault f).held = n.held := by
  unfold Node.dropFault
  split <;> rfl

@[simp] theorem Node.joinQueue_held (q : QueuedFrame) (n : Node) :
    (n.joinQueue q).held = n.held := rfl

@[simp] theorem Node.offerToFull_held (f : Frame) (n : Node) : (n.offerToFull f).held = n.held := by
  unfold Node.offerToFull
  split
  · split
    · rw [Node.joinQueue_held, Node.frameLost_held, Node.dropFault_held]; rfl
    · simp
  · simp

@[simp] theorem Node.offer_held (f : Frame) (n : Node) : (n.offer f).held = n.held := by
  unfold Node.offer
  split
  · simp
  · split <;> simp

@[simp] theorem Node.offerWithdrawal_held (p : AnnouncePayload) (n : Node) :
    (n.offerWithdrawal p).held = n.held := by
  unfold Node.offerWithdrawal
  split
  · split
    · rw [Node.joinQueue_held, Node.frameLost_held]; rfl
    · rfl
  · rfl

/-- A fold of steps that each leave a reading leaves it. -/
theorem foldl_keeps {α β γ : Type} (read : α → γ) (f : α → β → α)
    (h : ∀ a b, read (f a b) = read a) (l : List β) (a : α) : read (l.foldl f a) = read a := by
  induction l generalizing a with
  | nil => rfl
  | cons b l ih => exact (ih _).trans (h a b)

@[simp] theorem Node.purge_held (n : Node) : n.purge.held = n.held := by
  unfold Node.purge
  rw [foldl_keeps Node.held _ (fun m q => Node.frameLost_held q m)]
  rfl

@[simp] theorem Node.abandonOwn_held (n : Node) : n.abandonOwn.held = n.held :=
  Node.endAndWithdraw_held _ n

@[simp] theorem Node.generateStatus_held (n : Node) : n.generateStatus.held = n.held := by
  unfold Node.generateStatus
  split
  · rfl
  · simp

/-! ### A change of view -/

@[simp] theorem Node.openSpan_held (k : MarkKind) (id : Nat) (n : Node) :
    (n.openSpan k id).held = n.held := by
  unfold Node.openSpan
  simp only [Node.report_held, Node.faultTimes_held]
  split <;> rfl

@[simp] theorem Node.marksOnView_held (before after : View) (number : Nat) (n : Node) :
    (n.marksOnView before after number).held = n.held := by
  unfold Node.marksOnView
  split
  · rfl
  · split
    · rfl
    · split
      · simp
      · split <;> simp

@[simp] theorem Node.claimDwell_held (n : Node) : n.claimDwell.held = n.held := by
  unfold Node.claimDwell
  split <;> rfl

@[simp] theorem Node.timerOnView_held (before after : View) (n : Node) :
    (n.timerOnView before after).held = n.held := by
  unfold Node.timerOnView
  split
  · rfl
  · split
    · split <;> rfl
    · split
      · exact Eq.trans rfl (Node.claimDwell_held n)
      · rfl

/-- A view that is not CREEP or RUN restarts no stall timer (R7). -/
theorem Node.stallOnView_still (before after : View) (n : Node) (h : after.moving = false) :
    n.stallOnView before after = n := by
  simp [Node.stallOnView, h]

/-- The stall timer alone may be restarted by a change of view (R7). -/
@[simp] theorem Node.stallOnView_standing (before after : View) (n : Node) :
    (n.stallOnView before after).standing = n.standing := by
  unfold Node.stallOnView
  split <;> rfl

theorem Node.viewReported_held (before after : View) (number : Nat) (n : Node)
    (h : after.moving = false) : (n.viewReported before after number).held = n.held := by
  unfold Node.viewReported
  rw [Node.stallOnView_still _ _ _ h]
  simp only [Node.timerOnView_held, Node.marksOnView_held]
  exact Node.notice_held _ _ (by decide)

@[simp] theorem Node.viewReported_standing (before after : View) (number : Nat) (n : Node) :
    (n.viewReported before after number).standing = n.standing := by
  unfold Node.viewReported
  rw [Node.stallOnView_standing]
  refine Node.standing_of_held ?_
  simp only [Node.timerOnView_held, Node.marksOnView_held]
  exact Node.notice_held _ _ (by decide)

@[simp] theorem Node.numberChanged_held (n : Node) : n.numberChanged.held = n.held :=
  Eq.trans rfl (Node.abandonOwn_held n)

/-- The pair as it is before an adoption is reported (R88). -/
theorem Node.adoptPair_begun_held (m : Nat) (s : View) (n : Node) :
    ({ (if m = n.line.number then n else n.numberChanged) with
        line.view := s, line.number := m } : Node).held = n.held := by
  split
  · rfl
  · exact Eq.trans rfl (Node.numberChanged_held n)

theorem Node.adoptPair_held (m : Nat) (s : View) (n : Node) (h : s.moving = false) :
    (n.adoptPair m s).held = n.held := by
  unfold Node.adoptPair
  dsimp only
  split
  · rw [Node.settle_held]; exact Node.adoptPair_begun_held m s n
  · rw [Node.settle_held, Node.viewReported_held _ _ _ _ h]
    exact Node.adoptPair_begun_held m s n

@[simp] theorem Node.adoptPair_standing (m : Nat) (s : View) (n : Node) :
    (n.adoptPair m s).standing = n.standing := by
  unfold Node.adoptPair
  dsimp only
  split
  · rw [Node.standing_of_held (Node.settle_held _)]
    exact Node.standing_of_held (Node.adoptPair_begun_held m s n)
  · rw [Node.standing_of_held (Node.settle_held _), Node.viewReported_standing]
    exact Node.standing_of_held (Node.adoptPair_begun_held m s n)

/-! ### Faults taken -/

/-- Participation changed within what START began. -/
theorem Node.leaveFor_held (p : Participation) (n : Node) (hn : n.configured = true)
    (hp : p ≠ .unconfigured) : (n.leaveFor p).held = n.held := by
  have hb : (Node.notice Notice.participationChanged
      { n with bus.participation := p, bus.joinRunning := false, bus.statusRunning := false
               bus.statusTimer := 0 }).held = n.held := by
    rw [Node.notice_held _ _ (by decide)]
    simp [Node.held, Node.standing, Node.noticed, hn]
    simp [Node.configured, hp]
  unfold Node.leaveFor
  dsimp only
  split
  · rw [Node.purge_held]
    split <;> simp only [Node.abandonOwn_held, Node.settle_held, Node.spend_held, hb]
  · rw [Node.purge_held, hb]

@[simp] theorem Node.recordFatal_held (k : FaultKind) (n : Node) :
    (n.recordFatal k).held = n.held := by
  unfold Node.recordFatal
  split <;> rfl

@[simp] theorem Node.faultNotice_held (c : FaultClass) (n : Node) :
    (n.faultNotice c).held = n.held := by
  unfold Node.faultNotice
  split
  · exact Node.notice_held _ _ (by cases c <;> decide)
  · rfl

@[simp] theorem Node.fatalTrip_held (k : FaultKind) (n : Node) : (n.fatalTrip k).held = n.held := by
  have h : ((n.offerWithdrawal { number := evSucc n.line.number, source := .fault, detail := k.code
      }).adoptPair (evSucc n.line.number) .trip).held = n.held := by
    rw [Node.adoptPair_held _ _ _ rfl, Node.offerWithdrawal_held]
  exact Eq.trans rfl h

/-- From START onward a withdrawal leaves the Length Unit (R94, R149). -/
theorem Node.withdraw_held (k : FaultKind) (n : Node) (hn : n.configured = true) :
    (n.withdraw k).held = n.held := by
  have hr : ((n.recordFatal k).faultNotice .fatal).held = n.held := by simp
  have hc : ((n.recordFatal k).faultNotice .fatal).configured = true := by
    rw [(Node.of_held hr).2.2.2, hn]
  unfold Node.withdraw
  rw [Node.settle_held, Node.fatalTrip_held, Node.leaveFor_held _ _ hc (by decide), hr]

@[simp] theorem Node.countFault_held (k : FaultKind) (n : Node) :
    (n.countFault k).held = n.held := rfl

@[simp] theorem Node.reportClass_held (frames : Bool) (c : FaultClass) (k : FaultKind) (n : Node) :
    (n.reportClass frames c k).held = n.held := by
  unfold Node.reportClass
  dsimp only
  split <;> simp

/-- A station on the line has been started. -/
theorem Node.configured_of_onLine (n : Node) (h : n.onLine = true) : n.configured = true := by
  revert h
  unfold Node.onLine Node.configured
  cases n.bus.participation <;> simp

@[simp] theorem Node.takeFault_held (n : Node) (r : FaultReport) : (n.takeFault r).held = n.held := by
  unfold Node.takeFault
  dsimp only
  split
  · split
    · rename_i ho
      exact Node.withdraw_held _ (n.countFault r.kind) (Node.configured_of_onLine n ho)
    · rfl
  · simp

@[simp] theorem Node.takeFollowing_held (n : Node) (r : FaultReport) :
    (n.takeFollowing r).held = n.held := by
  unfold Node.takeFollowing
  dsimp only
  split
  · split
    · rename_i ho
      exact Node.withdraw_held _ (n.countFault r.kind) (Node.configured_of_onLine n ho)
    · rfl
  · simp

@[simp] theorem Node.takeCounted_held (n : Node) (r : FaultReport) :
    (n.takeCounted r).held = n.held := by
  unfold Node.takeCounted
  dsimp only
  split
  · rfl
  · simp

theorem Node.takeReported_held (take : Node → FaultReport → Node)
    (h : ∀ n r, (take n r).held = n.held) (n : Node) : (n.takeReported take).held = n.held := by
  unfold Node.takeReported
  rw [foldl_keeps Node.held take h]
  rfl

/-- Taking faults leaves the Length Unit, the arrivals and the encoder's notices (R183, R184). -/
@[simp] theorem Node.takeFaults_held (n : Node) : n.takeFaults.held = n.held := by
  unfold Node.takeFaults
  split
  · rfl
  · have h1 := Node.takeReported_held _ Node.takeFault_held n
    have h2 := Node.takeReported_held _ Node.takeFollowing_held (n.takeReported Node.takeFault)
    have h3 := Node.takeReported_held _ Node.takeCounted_held
      ((n.takeReported Node.takeFault).takeReported Node.takeFollowing)
    exact Eq.trans rfl (h3.trans (h2.trans h1))

/-- A block that has done with an event leaves them too (R100, R183). -/
@[simp] theorem Node.finish_held (n : Node) : n.finish.held = n.held := by
  unfold Node.finish
  split
  · split <;> simp
  · simp

end Sys2Proof.Machine

/-! ### The followers: what they read, and that they stand when they have settled (R100, R114, R171) -/

namespace Sys2Proof.Machine

/-- The lines follow when they are driven from START on and an evaluation leaves them (R114 to R116). -/
theorem Node.linesFollow_iff (n : Node) : n.linesFollow ↔ n.prot.driven = n.configured ∧
    (n.prot.driven = true → n.config.lines.zip n.evalLine n.prot.lines = n.prot.lines) := by
  unfold Node.linesFollow Node.evalLines
  refine and_congr_right fun _ => ?_
  split
  · rename_i hd
    constructor
    · intro h _
      simpa using congrArg (fun k : Node => k.prot.lines) h
    · intro h
      rw [h hd]
  · rename_i hd
    simp [hd]

/-- What a counter selects and the value it has recorded (R169, R171). -/
def Counter.recorded (c : Counter) : Nat × BitVec 16 × Bool := (c.code, c.mask, c.lastCondition)

/-- The followers, and the parts of a node that their conditions read. -/
structure Followers where
  config : ConfigRecord
  view : View
  source : LengthSource
  arrivals : List Arrival
  timer : Nat
  driven : Bool
  lines : Quad ActionLine
  marks : List SpanMark
  channels : Quad (Bool × Bool)
  participation : Participation
  counters : Quad (Nat × BitVec 16 × Bool)

/-- The reading of a node that says whether its lines and counters follow. -/
def Node.followers (n : Node) : Followers :=
  { config := n.config, view := n.line.view, source := n.len.source
    arrivals := n.handover.arrivals, timer := n.prot.timer, driven := n.prot.driven
    lines := n.prot.lines, marks := n.marks.table
    channels := n.sensor.channels.map fun c => (c.out, c.failed)
    participation := n.bus.participation
    counters := n.counters.cells.map Counter.recorded }

/-- Equal pairs of flags for each channel (R160). -/
theorem channelFlags_eq {q r : Quad Channel}
    (h : q.map (fun c => (c.out, c.failed)) = r.map fun c => (c.out, c.failed)) (i : Nat) :
    (q.get i).out = (r.get i).out ∧ (q.get i).failed = (r.get i).failed := by
  have hi := congrArg (fun p : Quad (Bool × Bool) => p.get i) h
  simpa [Quad.get_map] using hi

/-- A line's condition is a matter of the reading (R113). -/
theorem Node.lineCondition_of_followers {m n : Node} (h : m.followers = n.followers)
    (a : ActionConfig) : m.lineCondition a = n.lineCondition a := by
  simp only [Node.followers, Followers.mk.injEq] at h
  obtain ⟨hc, hv, hs, -, ht, -, -, hm, hch, hp, -⟩ := h
  unfold Node.lineCondition
  split <;> simp [Node.dwell1, Node.dwell2, Node.spanOpen, Node.sensorOut, Node.sensorFailed,
    Node.lengthDerived, Node.active, Node.configured, hc, hv, hs, ht, hm, hp,
    (channelFlags_eq hch a.parameter).1, (channelFlags_eq hch a.parameter).2]

/-- Whether the lines follow is a matter of the reading (R114). -/
theorem Node.linesFollow_of_followers {m n : Node} (h : m.followers = n.followers)
    (hn : n.linesFollow) : m.linesFollow := by
  have hcond := Node.lineCondition_of_followers h
  simp only [Node.followers, Followers.mk.injEq] at h
  obtain ⟨hc, hv, -, -, -, hd, hl, -, -, hp, -⟩ := h
  have heval : m.evalLine = n.evalLine := by
    funext a l
    simp [Node.evalLine, hcond, hv]
  rw [Node.linesFollow_iff] at hn ⊢
  rw [heval, hc, hl, hd, Node.configured, hp]
  exact hn

/-- The counters follow when each of the four does (R171). -/
theorem Node.countersFollow_iff_get (n : Node) : n.countersFollow ↔ ∀ i,
    conditionCode (n.counters.cells.get i).code = true →
      (n.counters.cells.get i).lastCondition = n.conditionOf (n.counters.cells.get i) := by
  have hmem : ∀ c, c ∈ n.counters.cells.toList ↔ ∃ i, n.counters.cells.get i = c := by
    intro c
    simp only [Quad.toList, List.mem_cons, List.not_mem_nil, or_false]
    constructor
    · rintro (rfl | rfl | rfl | rfl)
      exacts [⟨0, rfl⟩, ⟨1, rfl⟩, ⟨2, rfl⟩, ⟨3, rfl⟩]
    · rintro ⟨i, rfl⟩
      unfold Quad.get
      split <;> simp
  rw [Node.countersFollow_iff]
  simp only [hmem]
  constructor
  · exact fun h i => h _ ⟨i, rfl⟩
  · rintro h c ⟨i, rfl⟩
    exact h i

/-- Whether the counters follow is a matter of what they have recorded and of what their conditions
read (R171). -/
theorem Node.countersFollow_of_recorded {m n : Node} (hv : m.line.view = n.line.view)
    (hs : m.len.source = n.len.source) (ha : m.handover.arrivals = n.handover.arrivals)
    (hc : m.counters.cells.map Counter.recorded = n.counters.cells.map Counter.recorded)
    (hn : n.countersFollow) : m.countersFollow := by
  rw [Node.countersFollow_iff_get] at hn ⊢
  intro i hk
  have hi := congrArg (fun q : Quad (Nat × BitVec 16 × Bool) => q.get i) hc
  simp only [Quad.get_map, Counter.recorded, Prod.mk.injEq] at hi
  obtain ⟨hcode, hmask, hlast⟩ := hi
  have hcond : n.conditionOf (m.counters.cells.get i) = n.conditionOf (n.counters.cells.get i) := by
    simp [Node.conditionOf, hcode, hmask]
  rw [Node.conditionOf_congr _ hv hs ha, hcond, hlast]
  exact hn i (hcode ▸ hk)

/-- The same as a matter of the reading. -/
theorem Node.countersFollow_of_followers {m n : Node} (h : m.followers = n.followers)
    (hn : n.countersFollow) : m.countersFollow := by
  simp only [Node.followers, Followers.mk.injEq] at h
  obtain ⟨-, hv, hs, ha, -, -, -, -, -, -, hc⟩ := h
  exact Node.countersFollow_of_recorded hv hs ha hc hn

/-! ### What leaves the reading -/

/-- An addition leaves what a counter has recorded (R172). -/
@[simp] theorem Counter.addBy_recorded (f : Counter → Option Nat) (c : Counter) :
    (c.addBy f).recorded = c.recorded := by
  unfold Counter.addBy Counter.add
  split
  · split <;> simp [Counter.recorded]
  · rfl

/-- Additions leave what the counters have recorded (R172). -/
@[simp] theorem Node.addCounters_recorded (f : Counter → Option Nat) (n : Node) :
    (n.addCounters f).counters.cells.map Counter.recorded =
      n.counters.cells.map Counter.recorded := by
  have h : (n.counters.cells.map (Counter.addBy f)).map Counter.recorded =
      n.counters.cells.map Counter.recorded := by simp [Quad.map]
  unfold Node.addCounters
  split
  · rfl
  · split
    · simpa using h
    · exact h

@[simp] theorem Node.addCounters_followers (f : Counter → Option Nat) (n : Node) :
    (n.addCounters f).followers = n.followers := by
  simp only [Node.followers, Node.addCounters_recorded, Node.addCounters_frame]

@[simp] theorem Node.report_followers (e : CounterEvent) (n : Node) :
    (n.report e).followers = n.followers := Node.addCounters_followers _ n

@[simp] theorem Node.notice_followers (i : Nat) (n : Node) : (n.notice i).followers = n.followers :=
  rfl

@[simp] theorem Node.respond_followers (r f : Nat) (d : List Byte) (n : Node) :
    (n.respond r f d).followers = n.followers := rfl

@[simp] theorem Node.spend_followers (k : Nat) (n : Node) : (n.spend k).followers = n.followers := by
  simp [Node.followers]

@[simp] theorem Node.endOwn_followers (e : ProposalEnd) (n : Node) :
    (n.endOwn e).followers = n.followers := by
  unfold Node.endOwn
  split
  · rfl
  · rw [Node.report_followers, Node.notice_followers]; rfl

@[simp] theorem Node.denyOwn_followers (n : Node) : n.denyOwn.followers = n.followers := by
  have hw : ∀ e (m : Node), (m.endAndWithdraw e).followers = m.followers := by
    intro e m
    unfold Node.endAndWithdraw
    split
    · rw [Node.endOwn_followers]; rfl
    · rfl
  unfold Node.denyOwn
  split
  · rfl
  · split
    · rw [hw, Node.spend_followers]
    · rfl

/-! ### Settling -/

/-- The conditions followed are those that stand (R171). -/
theorem Node.followConditions_follow (n : Node) : n.followConditions.countersFollow := by
  rw [Node.countersFollow_iff_get]
  intro i
  have hcond : ∀ c, n.followConditions.conditionOf c = n.conditionOf c := fun c =>
    Node.conditionOf_congr c (by simp) (by simp) (by simp)
  rw [hcond]
  unfold Node.followConditions
  simp only [Quad.get_map]
  split
  · intro _
    rfl
  · rename_i hk
    exact fun h => absurd h hk

/-- A line evaluated once more is as it was (R114, R116). -/
theorem Node.evalLine_idem (n : Node) (a : ActionConfig) (l : ActionLine) :
    n.evalLine a (n.evalLine a l) = n.evalLine a l := by
  simp only [Node.evalLine, latchAfter, ActionLine.mk.injEq]
  cases n.lineCondition a <;> simp

/-- The lines evaluated stand as their conditions and latches make them (R114 to R116). -/
theorem Node.evalLines_follow (n : Node) (h : n.prot.driven = n.configured) :
    n.evalLines.linesFollow := by
  have hcond : ∀ a, n.evalLines.lineCondition a = n.lineCondition a := fun a => by
    unfold Node.lineCondition
    split <;> simp [Node.dwell1, Node.dwell2, Node.spanOpen, Node.sensorOut, Node.sensorFailed,
      Node.lengthDerived, Node.active, Node.configured]
  have heval : n.evalLines.evalLine = n.evalLine := by
    funext a l
    simp [Node.evalLine, hcond]
  rw [Node.linesFollow_iff, heval]
  refine ⟨by simpa [Node.configured] using h, fun hd => ?_⟩
  have hd' : n.prot.driven = true := by simpa using hd
  simp [Node.evalLines, hd', Quad.zip, Node.evalLine_idem]

/-- A line evaluated leaves what the counters follow. -/
theorem Node.evalLines_countersFollow (n : Node) (h : n.countersFollow) :
    n.evalLines.countersFollow :=
  Node.countersFollow_of_recorded (by simp) (by simp) (by simp) (by simp) h

/-- After settling the counters follow (R171). -/
theorem Node.settle_countersFollow (n : Node) : n.settle.countersFollow :=
  Node.countersFollow_of_followers (Node.denyOwn_followers _)
    (Node.evalLines_countersFollow _ (Node.followConditions_follow n))

/-- After settling the lines follow where they are driven from START on (R114, R115). -/
theorem Node.settle_linesFollow (n : Node) (h : n.prot.driven = n.configured) :
    n.settle.linesFollow :=
  Node.linesFollow_of_followers (Node.denyOwn_followers _)
    (Node.evalLines_follow _ (by simpa [Node.configured] using h))

/-- A block has done with an event when the followers have settled (R100, R183). -/
theorem Node.finish_settles (n : Node) : ∃ m : Node, n.finish = m.settle ∧ m.held = n.held := by
  unfold Node.finish
  split
  · split
    · exact ⟨_, rfl, by simp⟩
    · exact ⟨_, rfl, by simp⟩
  · exact ⟨_, rfl, by simp⟩

/-- Once a block has done with an event the counters follow (R171). -/
theorem Node.finish_countersFollow (n : Node) : n.finish.countersFollow := by
  obtain ⟨m, hm, -⟩ := n.finish_settles
  rw [hm]
  exact m.settle_countersFollow

/-- Once a block has done with an event the lines follow where they are driven from START on. -/
theorem Node.finish_linesFollow (n : Node) (h : n.prot.driven = n.configured) :
    n.finish.linesFollow := by
  obtain ⟨m, hm, hh⟩ := n.finish_settles
  have hs := Node.standing_of_held hh
  rw [hm]
  refine m.settle_linesFollow ?_
  exact (congrArg Standing.driven hs).trans (h.trans (congrArg Standing.started hs).symm)

end Sys2Proof.Machine

/-! ### The advance: what its turns leave, and that every block has its turn (R5, R31, R50, R73, R171) -/

namespace Sys2Proof.Machine

/-! #### The window's turn -/

@[simp] theorem Node.coalesce_held (x : Nat) (e : EnteringRecord) (b : Body) (brought next : Option Nat)
    (n : Node) : (n.coalesce x e b brought next).held = n.held := by
  unfold Node.coalesce
  rw [Node.report_held, Node.fault_held]
  rfl

@[simp] theorem Node.closeEntering_held (x : Nat) (e : EnteringRecord) (b : Body)
    (brought next : Option Nat) (n : Node) : (n.closeEntering x e b brought next).held = n.held := rfl

@[simp] theorem Node.cut_held (x : Nat) (e : EnteringRecord) (n : Node) :
    (n.cut x e).held = n.held := by
  unfold Node.cut
  split <;> simp

@[simp] theorem Node.declareLate_held (x : Nat) (e : EnteringRecord) (n : Node) :
    (n.declareLate x e).held = n.held := by
  unfold Node.declareLate
  rw [Node.report_held, Node.fault_held]
  split <;> simp

@[simp] theorem Node.testEntering_held (n : Node) : n.testEntering.held = n.held := by
  unfold Node.testEntering
  split
  · rfl
  · split
    · split <;> simp
    · split <;> simp

@[simp] theorem Node.retire_held (b : Body) (len : Nat) (n : Node) :
    (n.retire b len).held = n.held := by
  unfold Node.retire
  rw [Node.notice_held _ _ (by decide)]
  split <;> rfl

@[simp] theorem Node.dispose_held (b : Body) (len : Nat) (following : Option Nat) (n : Node) :
    (n.dispose b len following).held = n.held := by
  unfold Node.dispose
  split
  · simp
  · split <;> simp

@[simp] theorem Node.exitRecord_held (r : ClosedRecord) (following : Option Nat) (n : Node) :
    (n.exitRecord r following).held = n.held := by
  unfold Node.exitRecord Node.reportStretch
  rw [Node.dispose_held]
  split <;> simp

@[simp] theorem Node.takeExits_held (k : Nat) (n : Node) : (n.takeExits k).held = n.held := by
  induction k generalizing n with
  | zero => rfl
  | succ k ih =>
    unfold Node.takeExits
    split
    · rfl
    · split
      · rw [ih, Node.takeFaults_held, Node.exitRecord_held]; rfl
      · rfl

/-! #### The other turns -/

@[simp] theorem Node.sweepMarks_held (mm : Nat) (n : Node) : (n.sweepMarks mm).held = n.held := by
  unfold Node.sweepMarks
  rw [Node.faultTimes_held]
  rfl

@[simp] theorem Node.countLength_held (mm : Nat) (n : Node) : (n.countLength mm).held = n.held :=
  Node.addCounters_held _ n

@[simp] theorem Node.reportSkip_held (count : Nat) (n : Node) :
    (n.reportSkip count).held = n.held := by
  unfold Node.reportSkip
  split <;> simp

/-- An arrival applied leaves the arrivals that wait and the Length Unit (Table 4-3). -/
@[simp] theorem Node.applyArrival_held (early : Bool) (a : Arrival) (n : Node) :
    (n.applyArrival early a).held = n.held := by
  have hb : ∀ e, (n.applyBoundary early a e).held = n.held := by
    intro e
    unfold Node.applyBoundary
    dsimp only
    rw [Node.reportSkip_held, Node.marksLost, Node.faultTimes_held]
    split <;> simp
  have ho : (n.applyOlder early a).held = n.held := by
    unfold Node.applyOlder
    split
    · rw [Node.report_held, Node.marksLost, Node.faultTimes_held]; rfl
    · split <;> simp
  unfold Node.applyArrival
  split
  · unfold Node.applyFirst
    rw [Node.report_held]; rfl
  · split
    · exact hb _
    · exact ho

/-- The head arrival applied: it alone leaves the queue (R72, R73). -/
theorem Node.applyHead_held (early : Bool) (n : Node) :
    (n.applyHead early).held = { n.held with arrivals := n.handover.arrivals.tail } := by
  unfold Node.applyHead
  split
  · rename_i h
    simp [Node.held, h]
  · rename_i a rest h
    rw [Node.applyArrival_held, h]
    rfl

/-- Whether an arrival is due is a matter of the arrivals and the tracking length (R73). -/
theorem Node.arrivalDue_congr {m n : Node} (ha : m.handover.arrivals = n.handover.arrivals)
    (hl : m.len = n.len) : m.arrivalDue = n.arrivalDue := by
  unfold Node.arrivalDue
  rw [ha, hl]

/-- The arrivals that wait after a block's turn: the Handover Engine's takes a due one (R73). -/
def Node.arrivalsAfter (t : Taker) (n : Node) : List Arrival :=
  if t = .handover ∧ n.arrivalDue = true then n.handover.arrivals.tail else n.handover.arrivals

/-- A block's turn at an advance leaves the Length Unit, and the arrivals but for the one applied. -/
theorem Node.takerTurn_held (t : Taker) (mm : Nat) (n : Node) :
    (n.takerTurn t mm).held = { n.held with arrivals := n.arrivalsAfter t } := by
  unfold Node.arrivalsAfter
  cases t with
  | handover =>
    unfold Node.takerTurn Node.handoverTurn
    by_cases hd : n.arrivalDue = true
    · simp [hd, Node.applyHead_held]
    · simp [hd, Node.held]
  | window => exact (Node.testEntering_held _).trans (Node.takeExits_held _ n)
  | marks => exact Node.sweepMarks_held mm n
  | counters => exact Node.countLength_held mm n

/-! #### The turns one after another -/

/-- A turn of the advance: the choice spent, the block's turn, what follows from it. -/
def Node.turnOf (t : Taker) (k mm : Nat) (n : Node) : Node := ((n.spend k).takerTurn t mm).finish

theorem Node.turnOf_held (t : Taker) (k mm : Nat) (n : Node) :
    (n.turnOf t k mm).held = { n.held with arrivals := n.arrivalsAfter t } := by
  have hs : (n.spend k).arrivalsAfter t = n.arrivalsAfter t := by
    simp [Node.arrivalsAfter, Node.arrivalDue_congr (m := n.spend k) (n := n) (by simp) (by simp)]
  unfold Node.turnOf
  rw [Node.finish_held, Node.takerTurn_held, Node.spend_held, hs]

/-- The arrivals after a turn. -/
theorem Node.turnOf_arrivals (t : Taker) (k mm : Nat) (n : Node) :
    (n.turnOf t k mm).handover.arrivals = n.arrivalsAfter t :=
  congrArg Held.arrivals (n.turnOf_held t k mm)

/-- The Length Unit after a turn. -/
theorem Node.turnOf_len (t : Taker) (k mm : Nat) (n : Node) : (n.turnOf t k mm).len = n.len :=
  congrArg Held.len (n.turnOf_held t k mm)

/-- One turn more of an advance (R5). -/
theorem Node.advanceTurns_cons (k mm i : Nat) (l : List Taker) (t : Taker) (n : Node)
    (hi : i = n.choice l.length) (ht : l[i]? = some t) :
    n.advanceTurns (k + 1) mm l =
      (n.turnOf t l.length mm).advanceTurns k mm (takersLeft l i t (n.turnOf t l.length mm)) := by
  subst hi
  simp [Node.advanceTurns, ht, Node.turnOf]

/-- The choice among some is one of them (log 4). -/
theorem Node.choice_lt (k : Nat) (n : Node) (h : 0 < k) : n.choice k < k := by
  unfold Node.choice
  split
  · exact h
  · exact Nat.mod_lt _ h

/-- While blocks are left one of them has the next turn. -/
theorem Node.exists_turn (l : List Taker) (n : Node) (h : l ≠ []) :
    ∃ t, l[n.choice l.length]? = some t :=
  ⟨_, List.getElem?_eq_getElem (n.choice_lt _ (List.length_pos_iff.2 h))⟩

/-- With no block left the advance is over. -/
theorem Node.advanceTurns_nil (k mm : Nat) (n : Node) : n.advanceTurns k mm [] = n := by
  cases k <;> simp [Node.advanceTurns]

/-- The turns leave the Length Unit and what stands (R5). -/
theorem Node.advanceTurns_kept (k mm : Nat) (l : List Taker) (n : Node) :
    (n.advanceTurns k mm l).len = n.len ∧ (n.advanceTurns k mm l).standing = n.standing := by
  induction k generalizing l n with
  | zero => exact ⟨rfl, rfl⟩
  | succ k ih =>
    by_cases hl : l = []
    · subst hl
      rw [Node.advanceTurns_nil]
      exact ⟨rfl, rfl⟩
    · obtain ⟨t, ht⟩ := n.exists_turn l hl
      rw [Node.advanceTurns_cons _ _ _ _ _ _ rfl ht]
      obtain ⟨h1, h2⟩ := ih (takersLeft l (n.choice l.length) t (n.turnOf t l.length mm))
        (n.turnOf t l.length mm)
      exact ⟨h1.trans (n.turnOf_len t _ mm),
        h2.trans (congrArg Held.standing (n.turnOf_held t _ mm))⟩

/-- An arrival is due only while one waits (R73). -/
theorem Node.arrivals_of_due (n : Node) (h : n.arrivalDue = true) : n.handover.arrivals ≠ [] := by
  intro h0
  simp [Node.arrivalDue, h0] at h

/-- The turns still to come are bounded by the blocks left and the arrivals that wait: the Handover Engine
stays only where its turn has taken an arrival (R73). -/
theorem Node.turns_left (l : List Taker) (i k mm : Nat) (t : Taker) (n : Node) (ht : l[i]? = some t)
    (hk : l.length + n.handover.arrivals.length ≤ k + 1) :
    (takersLeft l i t (n.turnOf t l.length mm)).length +
      (n.turnOf t l.length mm).handover.arrivals.length ≤ k := by
  obtain ⟨hi, -⟩ := List.getElem?_eq_some_iff.1 ht
  rw [Node.turnOf_arrivals]
  unfold takersLeft Node.arrivalsAfter
  split
  · rename_i h
    obtain ⟨rfl, hdue⟩ := h
    have hnow : n.arrivalDue = true := by
      by_contra hno
      have harr := n.turnOf_arrivals .handover l.length mm
      simp only [Node.arrivalsAfter, hno, and_false, if_false] at harr
      exact hno (Node.arrivalDue_congr harr (n.turnOf_len ..) ▸ hdue)
    have hpos := List.length_pos_iff.2 (n.arrivals_of_due hnow)
    simp [hnow]
    omega
  · have htail : n.handover.arrivals.tail.length ≤ n.handover.arrivals.length := by simp
    rw [List.length_eraseIdx_of_lt hi]
    split <;> omega

/-- With turns enough every block acts: the others once each, the Handover Engine as often as it takes
(R27, R31, R50, R73, R171). -/
theorem Node.advanceTurns_acts (k mm : Nat) (l : List Taker) (n : Node)
    (hk : l.length + n.handover.arrivals.length ≤ k) :
    ∃ ts : List Taker, (∀ t, t ≠ .handover → ts.count t = l.count t) ∧
      l.count .handover ≤ ts.count .handover ∧ Node.actsInTurn mm ts n (n.advanceTurns k mm l) := by
  induction k generalizing l n with
  | zero =>
    have hl : l = [] := List.length_eq_zero_iff.1 (by omega)
    subst hl
    exact ⟨[], fun _ _ => rfl, le_rfl, rfl⟩
  | succ k ih =>
    by_cases hl : l = []
    · subst hl
      rw [Node.advanceTurns_nil]
      exact ⟨[], fun _ _ => rfl, le_rfl, rfl⟩
    · obtain ⟨t, ht⟩ := n.exists_turn l hl
      rw [Node.advanceTurns_cons _ _ _ _ _ _ rfl ht]
      obtain ⟨ts, hc, hh, ha⟩ := ih (takersLeft l (n.choice l.length) t (n.turnOf t l.length mm))
        (n.turnOf t l.length mm) (Node.turns_left l _ k mm t n ht hk)
      obtain ⟨hi, hget⟩ := List.getElem?_eq_some_iff.1 ht
      have hperm : (t :: l.eraseIdx (n.choice l.length)).Perm l := by
        rw [← hget]
        exact List.getElem_cons_eraseIdx_perm hi
      have hcount : ∀ u, (if t = u then 1 else 0) + (l.eraseIdx (n.choice l.length)).count u =
          l.count u := by
        intro u
        rw [← hperm.count_eq u, List.count_cons]
        simp [add_comm]
      refine ⟨t :: ts, fun u hu => ?_, ?_, (n.spend l.length).turns, ?_⟩
      · rw [List.count_cons, hc u hu, ← hcount u]
        unfold takersLeft
        split
        · rename_i h
          have hne : ¬ t = u := fun e => hu (e ▸ h.1)
          rw [← hcount u]
          simp [hne]
        · simp [add_comm]
      · rw [List.count_cons]
        unfold takersLeft at hh
        split at hh
        · omega
        · have := hcount .handover
          simp only [beq_iff_eq]
          omega
      · have hs : n.spend l.length = { n with turns := (n.spend l.length).turns } := by
          unfold Node.spend
          split <;> rfl
        rw [← hs]
        exact ha

/-- With turns enough no arrival is due when every block has acted (R73). -/
theorem Node.advanceTurns_noneDue (k mm : Nat) (l : List Taker) (n : Node)
    (hk : l.length + n.handover.arrivals.length ≤ k)
    (hd : .handover ∈ l ∨ n.arrivalDue = false) : (n.advanceTurns k mm l).arrivalDue = false := by
  induction k generalizing l n with
  | zero =>
    have hl : l = [] := List.length_eq_zero_iff.1 (by omega)
    subst hl
    exact hd.resolve_left List.not_mem_nil
  | succ k ih =>
    by_cases hl : l = []
    · subst hl
      rw [Node.advanceTurns_nil]
      exact hd.resolve_left List.not_mem_nil
    · obtain ⟨t, ht⟩ := n.exists_turn l hl
      rw [Node.advanceTurns_cons _ _ _ _ _ _ rfl ht]
      refine ih _ _ (Node.turns_left l _ k mm t n ht hk) ?_
      obtain ⟨hi, hget⟩ := List.getElem?_eq_some_iff.1 ht
      unfold takersLeft
      split
      · rename_i h
        exact .inl (h.1 ▸ List.mem_of_getElem? ht)
      · rename_i h
        by_cases hh : t = .handover
        · right
          simpa [hh] using h
        · rcases hd with hm | hn
          · left
            have hperm := List.getElem_cons_eraseIdx_perm hi
            have := hperm.mem_iff.2 hm
            rw [hget] at this
            exact (List.mem_cons.1 this).resolve_left fun e => hh e.symm
          · right
            have harr := n.turnOf_arrivals t l.length mm
            simp only [Node.arrivalsAfter, hh, false_and, if_false] at harr
            rw [Node.arrivalDue_congr harr (n.turnOf_len ..), hn]

end Sys2Proof.Machine

/-! ### Frames, timers and requests of other blocks leave what stands -/

namespace Sys2Proof.Machine

/-- A node with the same standing has been started as well. -/
theorem Node.configured_of_standing {m n : Node} (h : m.standing = n.standing) :
    m.configured = n.configured := congrArg Standing.started h

/-- What leaves the finer reading leaves the coarser. -/
theorem Node.standing_of_held_trans {m n k : Node} (h : m.held = n.held)
    (hn : n.standing = k.standing) : m.standing = k.standing := (Node.standing_of_held h).trans hn

@[simp] theorem Node.fault_standing (k : FaultKind) (n : Node) :
    (n.fault k).standing = n.standing := rfl

@[simp] theorem Node.respond_standing (r f : Nat) (d : List Byte) (n : Node) :
    (n.respond r f d).standing = n.standing := rfl

@[simp] theorem Node.report_standing (e : CounterEvent) (n : Node) :
    (n.report e).standing = n.standing := Node.standing_of_held (Node.report_held e n)

@[simp] theorem Node.addCounters_standing (f : Counter → Option Nat) (n : Node) :
    (n.addCounters f).standing = n.standing := Node.standing_of_held (Node.addCounters_held f n)

@[simp] theorem Node.offer_standing (f : Frame) (n : Node) : (n.offer f).standing = n.standing :=
  Node.standing_of_held (Node.offer_held f n)

@[simp] theorem Node.spend_standing (k : Nat) (n : Node) : (n.spend k).standing = n.standing :=
  Node.standing_of_held (Node.spend_held k n)

@[simp] theorem Node.faultTimes_standing (k : FaultKind) (c : Nat) (n : Node) :
    (n.faultTimes k c).standing = n.standing := Node.standing_of_held (Node.faultTimes_held k c n)

@[simp] theorem Node.frameLost_standing (q : QueuedFrame) (n : Node) :
    (n.frameLost q).standing = n.standing := Node.standing_of_held (Node.frameLost_held q n)

@[simp] theorem Node.endOwn_standing (e : ProposalEnd) (n : Node) :
    (n.endOwn e).standing = n.standing := Node.standing_of_held (Node.endOwn_held e n)

@[simp] theorem Node.endAndWithdraw_standing (e : ProposalEnd) (n : Node) :
    (n.endAndWithdraw e).standing = n.standing := Node.standing_of_held (Node.endAndWithdraw_held e n)

@[simp] theorem Node.settle_standing (n : Node) : n.settle.standing = n.standing :=
  Node.standing_of_held n.settle_held

@[simp] theorem Node.takeFaults_standing (n : Node) : n.takeFaults.standing = n.standing :=
  Node.standing_of_held n.takeFaults_held

@[simp] theorem Node.finish_standing (n : Node) : n.finish.standing = n.standing :=
  Node.standing_of_held n.finish_held

/-- A notice other than those of the encoder. -/
theorem Node.notice_standing (i : Nat) (n : Node) (h : 2 ≤ i ∧ i < 16) :
    (n.notice i).standing = n.standing := Node.standing_of_held (Node.notice_held i n h)

/-! #### The Line State Unit -/

@[simp] theorem Node.announce_standing (trip : Bool) (p : AnnouncePayload) (n : Node) :
    (n.announce trip p).standing = n.standing := by
  have h : ((n.offer (if trip then .trip p else .stop p)).adoptPair p.number
      (if trip then .trip else .standstill)).standing = n.standing := by simp
  exact Eq.trans rfl h

@[simp] theorem Node.takePair_standing (sender m : Nat) (s : View) (clears : Bool)
    (ann : Option Announcement) (n : Node) : (n.takePair sender m s clears ann).standing = n.standing := by
  unfold Node.takePair
  split
  · rfl
  · unfold Node.relayTrip
    split <;> simp
  · dsimp only
    split
    · exact Eq.trans rfl (n.adoptPair_standing m s)
    · simp

@[simp] theorem Node.standstillIfUnknown_standing (n : Node) :
    n.standstillIfUnknown.standing = n.standing := by
  unfold Node.standstillIfUnknown
  split <;> simp

@[simp] theorem Node.enactOwn_standing (n : Node) : n.enactOwn.standing = n.standing := by
  unfold Node.enactOwn
  split
  · rfl
  · rw [Node.offer_standing]
    exact Eq.trans rfl (Node.endOwn_standing _ n)

@[simp] theorem Node.proposeSent_standing (i : ProposalId) (n : Node) :
    (n.proposeSent i).standing = n.standing := by
  unfold Node.proposeSent
  split
  · rfl
  · split
    · dsimp only
      split
      · rw [Node.enactOwn_standing]; rfl
      · rfl
    · rfl

@[simp] theorem Node.takePropose_standing (p : ProposePayload) (n : Node) :
    (n.takePropose p).standing = n.standing := by
  have ha : ∀ r (m : Node), (m.answer p.id r).standing = m.standing := by
    intro r m
    unfold Node.answer
    split <;> simp
  have hm : (if n.queuedOwn then n.abandonOwn else n).standing = n.standing := by
    split
    · exact Node.endAndWithdraw_standing _ n
    · rfl
  have hk : ∀ m : Node, (if m.line.proposalView.isSome || m.voting then m.answer p.id (some .busy)
      else Node.answer p.id (m.answerReason p) { m with
        line.proposalView := some { id := p.id, base := p.base, target := p.target, timer := 0 }
        }).standing = m.standing := by
    intro m
    split
    · exact ha _ m
    · exact (ha _ _).trans rfl
  exact (hk _).trans hm

@[simp] theorem Node.takeAssent_standing (sender : Nat) (i : ProposalId) (n : Node) :
    (n.takeAssent sender i).standing = n.standing := by
  unfold Node.takeAssent
  split
  · split
    · dsimp only
      split
      · rw [Node.enactOwn_standing]; rfl
      · rfl
    · rfl
  · rfl

@[simp] theorem Node.takeHold_standing (sender : Nat) (p : HoldPayload) (n : Node) :
    (n.takeHold sender p).standing = n.standing := by
  unfold Node.takeHold
  split
  · split <;> simp
  · rfl

@[simp] theorem Node.closeViewOf_standing (i : ProposalId) (n : Node) :
    (n.closeViewOf i).standing = n.standing := by
  unfold Node.closeViewOf
  split
  · split <;> rfl
  · rfl

@[simp] theorem Node.enactSent_standing (p : EnactPayload) (n : Node) :
    (n.enactSent p).standing = n.standing := by
  unfold Node.enactSent
  rw [Node.takePair_standing]
  rfl

/-! #### The Roster -/

@[simp] theorem Node.remakeChoices_standing (n : Node) : n.remakeChoices.standing = n.standing := by
  have hu : n.remakeUpstream.standing = n.standing := by
    unfold Node.remakeUpstream
    split
    · rfl
    · exact (Node.notice_standing _ _ (by decide)).trans rfl
  have hr : ∀ m : Node, m.refreshReference.standing = m.standing := by
    intro m
    unfold Node.refreshReference
    split <;> rfl
  unfold Node.remakeChoices Node.remakeReference
  rw [hr]
  exact Eq.trans rfl hu

/-! #### Participation -/

@[simp] theorem Node.endJoining_standing (n : Node) : n.endJoining.standing = n.standing := by
  have ho : n.openFirst.standing = n.standing := by
    unfold Node.openFirst
    split <;> rfl
  unfold Node.endJoining
  rw [Node.standstillIfUnknown_standing, ho]

theorem Node.leaveFor_standing (p : Participation) (n : Node) (hn : n.configured = true)
    (hp : p ≠ .unconfigured) : (n.leaveFor p).standing = n.standing :=
  Node.standing_of_held (n.leaveFor_held p hn hp)

/-- Participation set within what START began. -/
theorem Node.setParticipation_standing (b : LineBus) (n : Node) (hn : n.configured = true)
    (hp : b.participation ≠ .unconfigured) : ({ n with bus := b } : Node).standing = n.standing := by
  have hc : ({ n with bus := b } : Node).configured = n.configured := by
    rw [hn]
    simp [Node.configured, hp]
  simp only [Node.standing, hc]
  rfl

theorem Node.enterActive_standing (n : Node) (hn : n.configured = true) :
    n.enterActive.standing = n.standing := by
  unfold Node.enterActive
  dsimp only
  rw [Node.standing_of_held (Node.generateStatus_held _), Node.endJoining_standing,
    Node.notice_standing _ _ (by decide)]
  exact Node.setParticipation_standing _ n hn (by simp)

theorem Node.enterListen_standing (n : Node) (hn : n.configured = true) :
    n.enterListen.standing = n.standing := by
  unfold Node.enterListen
  dsimp only
  split <;> simp [Node.leaveFor_standing _ n hn]

/-- In service the station has been started. -/
theorem Node.configured_of_inService (n : Node) (h : n.inService = true) : n.configured = true := by
  revert h
  unfold Node.inService Node.active Node.configured
  cases n.bus.participation <;> simp

@[simp] theorem Node.creelConflict_standing (n : Node) : n.creelConflict.standing = n.standing := by
  unfold Node.creelConflict
  dsimp only
  split
  · rename_i h
    rw [Node.enterListen_standing _ (Node.configured_of_inService _ h)]
    simp
  · simp

theorem Node.enterJoining_standing (n : Node) (hn : n.configured = true) :
    n.enterJoining.standing = n.standing := by
  have hj : (Node.remakeChoices
      (Node.notice Notice.participationChanged
        { n with bus.participation := .joining, bus.joinTimer := 0, bus.joinRunning := true
                 roster.highest := none })).standing = n.standing := by
    rw [Node.remakeChoices_standing, Node.notice_standing _ _ (by decide)]
    exact Eq.trans rfl (Node.setParticipation_standing
      { n.bus with participation := .joining, joinTimer := 0, joinRunning := true } n hn (by simp))
  unfold Node.enterJoining
  dsimp only
  split
  · rw [Node.creelConflict_standing, hj]
  · exact hj

@[simp] theorem Node.forgetView_standing (n : Node) : n.forgetView.standing = n.standing := by
  unfold Node.forgetView
  dsimp only
  split
  · rfl
  · rw [Node.viewReported_standing]
    rfl

theorem Node.enterOffline_standing (n : Node) (hn : n.configured = true) :
    n.enterOffline.standing = n.standing := by
  unfold Node.enterOffline
  dsimp only
  rw [Node.settle_standing, Node.remakeChoices_standing]
  refine Eq.trans rfl ((Node.forgetView_standing _).trans ?_)
  exact Eq.trans rfl (n.leaveFor_standing .offline hn (by decide))

/-! #### The Line Bus Interface -/

theorem Node.frameSent_standing (q : QueuedFrame) (n : Node) (hn : n.configured = true) :
    (n.frameSent q).standing = n.standing := by
  unfold Node.frameSent
  split
  · exact n.enterOffline_standing hn
  · split
    · rfl
    · split <;> simp

@[simp] theorem Node.collided_standing (n : Node) : n.collided.standing = n.standing := by
  simp [Node.collided]

/-- A station that receives has been started. -/
theorem Node.configured_of_receiving (n : Node) (h : n.receiving = true) : n.configured = true := by
  revert h
  unfold Node.receiving Node.configured
  cases n.bus.participation <;> simp

/-- A station that sends has been started (R142). -/
theorem Node.configured_of_sending (n : Node) (q : QueuedFrame) (h : n.sending = some q) :
    n.configured = true := by
  unfold Node.sending at h
  split at h
  · assumption
  · cases h

/-! #### Frames received -/

@[simp] theorem Node.changeEntries_standing (station : Nat) (entries : List RosterEntry) (n : Node) :
    (n.changeEntries station entries).standing = n.standing := by
  have ho : ∀ b a (m : Node), (m.testOrder b a).standing = m.standing := by
    intro b a m
    unfold Node.testOrder
    split <;> simp
  have hl : ∀ b a (m : Node), (m.testLost b a).standing = m.standing := by
    intro b a m
    unfold Node.testLost
    split
    · split <;> simp
    · rfl
  have hc : ∀ b (m : Node), (m.testCreel b).standing = m.standing := by
    intro b m
    unfold Node.testCreel
    split <;> simp
  unfold Node.changeEntries
  dsimp only
  rw [hc, Node.remakeChoices_standing, hl, ho]
  rfl

@[simp] theorem Node.rosterTake_standing (sender : Nat) (f : Frame) (n : Node) :
    (n.rosterTake sender f).standing = n.standing := by
  unfold Node.rosterTake
  dsimp only
  split
  · rw [Node.changeEntries_standing]; rfl
  · rfl

@[simp] theorem Node.silence_standing (station : Nat) (n : Node) :
    (n.silence station).standing = n.standing := by
  unfold Node.silence
  split
  · rfl
  · split <;> simp

@[simp] theorem Node.takeHandoff_standing (sender : Nat) (p : HandoffPayload) (n : Node) :
    (n.takeHandoff sender p).standing = n.standing := by
  have hh : (n.applyHead true).standing = n.standing := congrArg Held.standing (n.applyHead_held true)
  unfold Node.takeHandoff
  split
  · rfl
  · split
    · exact Node.standing_of_held (Node.applyArrival_held _ _ n)
    · unfold Node.joinArrivals
      dsimp only
      split
      · exact Eq.trans rfl hh
      · rfl

@[simp] theorem Node.deliver_standing (sender : Nat) (f : Frame) (n : Node) :
    (n.deliver sender f).standing = n.standing := by
  unfold Node.deliver
  cases f <;> simp [Node.takeEnact]

/-! #### The Mark Unit and the Sensor Port -/

@[simp] theorem Node.stampPoint_standing (c : Claim) (k : MarkKind) (id p : Nat) (n : Node) :
    (n.stampPoint c k id p).standing = n.standing := by
  unfold Node.stampPoint
  rw [Node.faultTimes_standing]
  rfl

@[simp] theorem Node.knotClaim_standing (x : Nat) (n : Node) :
    (n.knotClaim x).standing = n.standing := by
  unfold Node.knotClaim
  split
  · rfl
  · split
    · exact Node.standing_of_held (n.cut_held _ _)
    · rfl

@[simp] theorem Node.openSpan_standing (k : MarkKind) (id : Nat) (n : Node) :
    (n.openSpan k id).standing = n.standing := Node.standing_of_held (n.openSpan_held k id)

@[simp] theorem Node.beginPoll_standing (n : Node) : n.beginPoll.standing = n.standing := by
  unfold Node.beginPoll
  split
  · split <;> rfl
  · rfl

@[simp] theorem Node.changeMode_standing (n : Node) : n.changeMode.standing = n.standing := by
  unfold Node.changeMode
  split <;> rfl

@[simp] theorem Node.useReply_standing (t : Transaction) (reply : List Byte) (n : Node) :
    (n.useReply t reply).standing = n.standing := by
  have hi : ∀ ch, (n.invalidReading ch).standing = n.standing := by
    intro ch
    unfold Node.invalidReading
    dsimp only
    rw [Node.report_standing]
    split <;> rfl
  have hv : ∀ ch v, (n.validReading ch v).standing = n.standing := by
    intro ch v
    unfold Node.validReading
    dsimp only
    rw [Node.report_standing]
    rfl
  unfold Node.useReply
  split
  · exact (Node.notice_standing _ _ (by decide)).trans rfl
  · unfold Node.judgeReply
    split
    · exact hi _
    · exact hv _ _

@[simp] theorem Node.timerSecond_standing (n : Node) : n.timerSecond.standing = n.standing := by
  unfold Node.timerSecond
  dsimp only
  split <;> rfl

end Sys2Proof.Machine

/-! ### Every step keeps the followers in step (R15, R114 to R116, R171) -/

namespace Sys2Proof.Machine

/-- What holds of the encoder flags, the lines and the counters of `n` holds of those of `m`. -/
structure Node.FollowsOn (m n : Node) : Prop where
  flags : n.flagsAgree → m.flagsAgree
  lines : n.linesFollow → m.linesFollow
  counters : n.countersFollow → m.countersFollow

theorem Node.FollowsOn.refl (n : Node) : n.FollowsOn n := ⟨id, id, id⟩

theorem Node.FollowsOn.trans {l m n : Node} (h : l.FollowsOn m) (k : m.FollowsOn n) : l.FollowsOn n :=
  ⟨h.flags ∘ k.flags, h.lines ∘ k.lines, h.counters ∘ k.counters⟩

/-- The same standing means the same encoder flags and the same drive from START on (R15, R115). -/
theorem Node.of_standing {m n : Node} (h : m.standing = n.standing) :
    m.len.lostFlag = n.len.lostFlag ∧ m.len.resumedFlag = n.len.resumedFlag ∧
    m.prot.driven = n.prot.driven ∧ m.configured = n.configured :=
  ⟨congrArg (fun o : Standing => o.len.lostFlag) h, congrArg (fun o : Standing => o.len.resumedFlag) h,
    congrArg Standing.driven h, congrArg Standing.started h⟩

/-- The encoder flags are a matter of what stands. -/
theorem Node.flagsAgree_of_standing {m n : Node} (h : m.standing = n.standing) (hn : n.flagsAgree) :
    m.flagsAgree := by
  obtain ⟨h1, h2, -, -⟩ := Node.of_standing h
  have h3 := congrArg Standing.lost h
  have h4 := congrArg Standing.resumed h
  exact ⟨h1.trans (hn.1.trans h3.symm), h2.trans (hn.2.trans h4.symm)⟩

/-- An update that leaves both readings. -/
theorem Node.followsOn_of_same {m n : Node} (hs : m.standing = n.standing)
    (hf : m.followers = n.followers) : m.FollowsOn n :=
  ⟨Node.flagsAgree_of_standing hs, Node.linesFollow_of_followers hf,
    Node.countersFollow_of_followers hf⟩

/-- A block that has done with an event, where drive and START are as they were. -/
theorem Node.followsOn_finish {m n : Node} (hf : n.flagsAgree → m.flagsAgree)
    (hd : m.prot.driven = n.prot.driven) (hc : m.configured = n.configured) : m.finish.FollowsOn n :=
  ⟨fun h => Node.flagsAgree_of_standing m.finish_standing (hf h),
    fun h => m.finish_linesFollow (by rw [hd, hc]; exact h.1), fun _ => m.finish_countersFollow⟩

/-- The same for an event of another block than the Length Unit. -/
theorem Node.followsOn_finish_of_standing {m n : Node} (h : m.standing = n.standing) :
    m.finish.FollowsOn n :=
  Node.followsOn_finish (Node.flagsAgree_of_standing h) (congrArg Standing.driven h)
    (Node.configured_of_standing h)

/-- A response follows on from what it answers (R175). -/
theorem Node.respond_followsOn (r f : Nat) (d : List Byte) (n : Node) :
    (n.respond r f d).FollowsOn n := Node.followsOn_of_same rfl rfl

/-- A response to what follows on. -/
theorem Node.FollowsOn.respond {m n : Node} (h : m.FollowsOn n) (r f : Nat) (d : List Byte) :
    (m.respond r f d).FollowsOn n := (m.respond_followsOn r f d).trans h

/-- The answer DONE to what follows on (R154). -/
theorem Node.FollowsOn.done (d : List Byte) {m n : Node} (h : m.FollowsOn n) :
    (m.done d).FollowsOn n := h.respond ..

/-! #### Requests -/

theorem Node.takeRequest_followsOn {act : Node → Node} (h : ∀ n, (act n).FollowsOn n) (n : Node) :
    (n.takeRequest act).FollowsOn n := by
  unfold Node.takeRequest
  split
  · exact .refl n
  · exact h n

theorem Node.request_followsOn (len : Nat) (args : List Byte) {act : Node → Node}
    (h : ∀ n, (act n).FollowsOn n) (n : Node) : (n.request len args act).FollowsOn n := by
  refine Node.takeRequest_followsOn (fun n => ?_) n
  split
  · exact h n
  · exact n.respond_followsOn ..

theorem Node.whenConfigured_followsOn {act : Node → Node} (h : ∀ n, (act n).FollowsOn n) (n : Node) :
    (n.whenConfigured act).FollowsOn n := by
  unfold Node.whenConfigured
  split
  · exact h n
  · exact n.respond_followsOn ..

theorem Node.whenTracking_followsOn {act : Node → Node} (h : ∀ n, (act n).FollowsOn n) (n : Node) :
    (n.whenTracking act).FollowsOn n := by
  unfold Node.whenTracking
  split
  · exact n.respond_followsOn ..
  · exact h n

/-- A request of one length that is refused before START. -/
theorem Node.configuredRequest_followsOn (len : Nat) (args : List Byte) {act : Node → Node}
    (h : ∀ n, (act n).FollowsOn n) (n : Node) :
    (n.request len args (Node.whenConfigured act)).FollowsOn n :=
  Node.request_followsOn len args (Node.whenConfigured_followsOn h) n

/-- A read answers and a use of the free bytes is over. -/
theorem Node.answerRead_followsOn (data : List Byte) (n : Node) : (n.answerRead data).FollowsOn n :=
  Node.followsOn_of_same rfl rfl

theorem Node.ranged_followsOn (last : Nat) (args : List Byte) (data : Nat → Nat → List Byte)
    (n : Node) : (n.ranged last args data).FollowsOn n := by
  unfold Node.ranged
  split
  · exact n.respond_followsOn ..
  · split
    · exact n.respond_followsOn ..
    · exact n.answerRead_followsOn _

theorem Node.readLog_followsOn (n : Node) : n.readLog.FollowsOn n := by
  unfold Node.readLog
  split
  · exact n.respond_followsOn ..
  · split
    · exact n.respond_followsOn ..
    · exact Node.followsOn_of_same rfl rfl

/-! #### Power-on, CONFIGURE, START, RESTART -/

/-- A part just reset follows: nothing is driven and no counter selects a condition (R115, R168, R180). -/
theorem Node.reset_followsOn (enc : EncoderLevels) (held : Bool) (n : Node) :
    (n.reset enc held).FollowsOn n := by
  refine ⟨fun _ => ⟨BitVec.getLsbD_zero.symm, BitVec.getLsbD_zero.symm⟩,
    fun _ => ⟨rfl, rfl⟩, fun _ => ?_⟩
  rw [Node.countersFollow_iff]
  intro c hc hk
  have hc : c = Counter.initial := by
    simpa [Node.reset, Node.powerOn, Counters.initial, Quad.same, Quad.toList] using hc
  subst hc
  simp [Counter.initial, conditionCode] at hk

/-- Before START the lines follow while they are not driven (R115). -/
theorem Node.linesFollow_unconfigured (n : Node) (h : n.configured = false) :
    n.linesFollow ↔ n.prot.driven = false := by
  rw [Node.linesFollow_iff, h]
  exact ⟨And.left, fun hd => ⟨hd, fun ht => absurd (hd.symm.trans ht) (by decide)⟩⟩

theorem Node.configure_followsOn (args : List Byte) (n : Node) :
    (n.configure args).FollowsOn n := by
  unfold Node.configure
  split
  · exact n.respond_followsOn ..
  · rename_i hc
    have hc : n.configured = false := by simpa using hc
    have hl : n.linesFollow → ({ n with config := parseConfig args } : Node).linesFollow := fun h =>
      (Node.linesFollow_unconfigured { n with config := parseConfig args } hc).2
        ((Node.linesFollow_unconfigured n hc).1 h)
    exact .done [] ⟨id, hl, Node.countersFollow_of_recorded rfl rfl rfl rfl⟩

@[simp] theorem Node.beginPoll_followers (n : Node) : n.beginPoll.followers = n.followers := by
  unfold Node.beginPoll
  split
  · split
    · rfl
    · rename_i i _
      simp only [Node.followers, Followers.mk.injEq, true_and, and_true]
      unfold Quad.set Quad.map
      split <;> simp [Quad.get]
  · rfl

/-- The conditions taken anew are those that stand (R168). -/
theorem Node.retakeConditions_follow (n : Node) : n.retakeConditions.countersFollow := by
  rw [Node.countersFollow_iff_get]
  intro i
  have hcond : ∀ c, n.retakeConditions.conditionOf c = n.conditionOf c := fun c =>
    Node.conditionOf_congr c rfl rfl rfl
  rw [hcond]
  unfold Node.retakeConditions
  simp only [Quad.get_map]
  split
  · exact fun _ => rfl
  · rename_i hk
    exact fun h => absurd h hk

/-- The conditions taken anew leave the lines (R168). -/
theorem Node.retakeConditions_lines (n : Node) (h : n.linesFollow) :
    n.retakeConditions.linesFollow :=
  Node.linesFollow_congr (n := n) rfl rfl rfl rfl rfl rfl rfl h

/-- Once the blocks have settled at START the lines and the counters follow (R115, R168). -/
theorem Node.settled_follows (n : Node) (h : n.prot.driven = n.configured) :
    n.settled.linesFollow ∧ n.settled.countersFollow := by
  obtain ⟨-, -, hdr, hco⟩ := Node.of_standing n.remakeChoices_standing
  have hd : n.remakeChoices.prot.driven = n.remakeChoices.configured := hdr.trans (h.trans hco.symm)
  have hp := Node.beginPoll_followers n.remakeChoices.evalLines.retakeConditions
  exact ⟨Node.linesFollow_of_followers hp
      (Node.retakeConditions_lines _ (Node.evalLines_follow _ hd)),
    Node.countersFollow_of_followers hp (Node.retakeConditions_follow _)⟩

/-- Settling at START leaves what stands. -/
theorem Node.settled_standing (n : Node) : n.settled.standing = n.standing := by
  have hr : ∀ m : Node, m.retakeConditions.standing = m.standing := fun _ => rfl
  unfold Node.settled
  rw [Node.beginPoll_standing, hr, Node.standing_of_held (Node.evalLines_held _),
    Node.remakeChoices_standing]

/-- START leaves the encoder flags; lines and counters follow from it on (R115, R168, R178). -/
theorem Node.started_followsOn (n : Node) : n.started.FollowsOn n := by
  unfold Node.started
  refine .done [] ?_
  have hb := (n.begun (LineTap.initial n.bus.tap.others)).settled_follows rfl
  have hs := (n.begun (LineTap.initial n.bus.tap.others)).settled_standing
  refine ⟨fun h => ?_, fun _ => Node.linesFollow_of_followers (Node.notice_followers _ _) hb.1,
    fun _ => Node.countersFollow_of_followers (Node.notice_followers _ _) hb.2⟩
  exact Node.flagsAgree_of_standing ((Node.notice_standing _ _ (by decide)).trans hs) h

theorem Node.start_followsOn (n : Node) : n.start.FollowsOn n := by
  unfold Node.start
  split
  · exact n.respond_followsOn ..
  · split
    · exact n.respond_followsOn ..
    · exact n.started_followsOn

/-- Of the notice flags RESTART leaves PARTICIPATION_CHANGED alone set (R179). -/
theorem Node.onlyParticipation_noticed (n : Node) :
    n.onlyParticipation.noticed Notice.encoderLost = false ∧
    n.onlyParticipation.noticed Notice.encoderResumed = false := by
  have h : ∀ i < 2, (1#16 <<< Notice.participationChanged).getLsbD i = false := by decide
  exact ⟨h 0 (by decide), h 1 (by decide)⟩

/-- With both encoder flags clear they agree with the notices that RESTART leaves. -/
theorem Node.onlyParticipation_flags (n : Node)
    (h : n.len.lostFlag = false ∧ n.len.resumedFlag = false) : n.onlyParticipation.flagsAgree :=
  ⟨h.1.trans n.onlyParticipation_noticed.1.symm, h.2.trans n.onlyParticipation_noticed.2.symm⟩

/-- The notices that RESTART leaves are nothing that a line or a counter follows. -/
theorem Node.onlyParticipation_followers (n : Node) : n.onlyParticipation.followers = n.followers :=
  rfl

/-- RESTART clears the encoder flags and every notice but PARTICIPATION_CHANGED (R17, R179). -/
theorem Node.restart_followsOn (n : Node) : n.restart.FollowsOn n := by
  unfold Node.restart
  split
  · refine .done [] ?_
    have hb := n.cleared.settled_follows rfl
    obtain ⟨hlost, hres, -⟩ := Node.of_standing n.cleared.settled_standing
    have hf := n.cleared.settled.onlyParticipation_followers
    exact ⟨fun _ => Node.onlyParticipation_flags _ ⟨hlost, hres⟩,
      fun _ => Node.linesFollow_of_followers hf hb.1,
      fun _ => Node.countersFollow_of_followers hf hb.2⟩
  · exact n.respond_followsOn ..

theorem Node.setParticipation_followsOn (args : List Byte) (n : Node) (hn : n.configured = true) :
    (n.setParticipation args).FollowsOn n := by
  have hj : n.enterJoining.finish.doneParticipation.FollowsOn n :=
    .done _ (Node.followsOn_finish_of_standing (n.enterJoining_standing hn))
  have hl : n.enterListen.finish.doneParticipation.FollowsOn n :=
    .done _ (Node.followsOn_finish_of_standing (n.enterListen_standing hn))
  have ho : n.enterOffline.finish.doneParticipation.FollowsOn n :=
    .done _ (Node.followsOn_finish_of_standing (n.enterOffline_standing hn))
  unfold Node.setParticipation
  split
  · exact n.respond_followsOn ..
  · unfold Node.moveTo
    split
    · exact hj
    · exact hj
    · exact hl
    · exact hl
    · exact ho
    · exact ho
    · exact ho
    · exact n.respond_followsOn ..

/-! #### The Length Unit -/

theorem Node.returnToEncoder_followsOn (n : Node) : n.returnToEncoder.FollowsOn n := by
  unfold Node.returnToEncoder
  split
  · exact n.respond_followsOn ..
  · split
    · exact n.respond_followsOn ..
    · exact .done [] (Node.followsOn_finish id rfl rfl)

/-- Where the encoder flags agree and a notice is raised with its flag, they agree (R15). -/
theorem Node.setLost_flags (n : Node) (h : n.flagsAgree) : n.setLost.flagsAgree := by
  have hl := n.noticed_notice Notice.encoderLost Notice.encoderLost (by decide)
  have hr := n.noticed_notice Notice.encoderLost Notice.encoderResumed (by decide)
  unfold Node.setLost
  split
  · exact h
  · refine ⟨Eq.trans ?_ hl.symm, Eq.trans h.2 (Eq.trans ?_ hr.symm)⟩
    · simp
    · simp [Notice.encoderLost, Notice.encoderResumed]

theorem Node.setResumed_flags (n : Node) (h : n.flagsAgree) : n.setResumed.flagsAgree := by
  have hl := n.noticed_notice Notice.encoderResumed Notice.encoderLost (by decide)
  have hr := n.noticed_notice Notice.encoderResumed Notice.encoderResumed (by decide)
  unfold Node.setResumed
  split
  · exact h
  · refine ⟨Eq.trans h.1 (Eq.trans ?_ hl.symm), Eq.trans ?_ hr.symm⟩
    · simp [Notice.encoderLost, Notice.encoderResumed]
    · simp

@[simp] theorem Node.setLost_prot (n : Node) : n.setLost.prot = n.prot ∧ n.setLost.bus = n.bus := by
  unfold Node.setLost
  split <;> exact ⟨rfl, rfl⟩

@[simp] theorem Node.setResumed_prot (n : Node) :
    n.setResumed.prot = n.prot ∧ n.setResumed.bus = n.bus := by
  unfold Node.setResumed
  split <;> exact ⟨rfl, rfl⟩

end Sys2Proof.Machine

/-! #### The events of the Length Unit -/

namespace Sys2Proof.Machine

/-- An advance changes the tracking length and the speed sum of what stands (R5, R6). -/
theorem Node.advance_flags (mm : Nat) (n : Node) (h : n.flagsAgree) : (n.advance mm).flagsAgree := by
  unfold Node.advance
  dsimp only
  split
  · exact h
  · exact Node.flagsAgree_of_standing (Node.advanceTurns_kept ..).2 h

/-- An advance leaves the drive and START. -/
theorem Node.advance_drive (mm : Nat) (n : Node) :
    (n.advance mm).prot.driven = n.prot.driven ∧ (n.advance mm).configured = n.configured := by
  unfold Node.advance
  dsimp only
  split
  · exact ⟨rfl, rfl⟩
  · obtain ⟨-, -, hd, hc⟩ := Node.of_standing (Node.advanceTurns_kept
      (4 + n.handover.arrivals.length) (min mm (Config.maxLength - n.len.tracking))
      [.window, .handover, .marks, .counters]
      { n with
        len.tracking := n.len.tracking + min mm (Config.maxLength - n.len.tracking)
        len.speedSum :=
          addHold Config.maxLength n.len.speedSum (min mm (Config.maxLength - n.len.tracking)) }).2
    exact ⟨hd, hc⟩

/-- The blocks that follow take in what an advance leaves. -/
theorem Node.advance_followsOn (mm : Nat) {m n : Node} (hf : n.flagsAgree → m.flagsAgree)
    (hd : m.prot.driven = n.prot.driven) (hc : m.configured = n.configured) :
    (m.advance mm).finish.FollowsOn n :=
  Node.followsOn_finish (fun h => Node.advance_flags mm m (hf h))
    ((m.advance_drive mm).1.trans hd) ((m.advance_drive mm).2.trans hc)

/-- A pulse keeps the encoder flags with their notices, the drive and START (R1 to R4, R13, R15). -/
theorem Node.pulse_followsOn (forward : Bool) {m n : Node} (hf : n.flagsAgree → m.flagsAgree)
    (hd : m.prot.driven = n.prot.driven) (hc : m.configured = n.configured) :
    (m.pulse forward).finish.FollowsOn n := by
  unfold Node.pulse
  dsimp only
  split
  · unfold Node.derivedPulse
    split
    · refine Node.followsOn_finish (fun h => Node.setResumed_flags _ (hf h)) ?_ ?_
      · simp [hd]
      · simpa [Node.configured] using hc
    · exact Node.followsOn_finish hf hd hc
  · split
    · exact Node.advance_followsOn _ hf hd hc
    · unfold Node.reversePulse
      dsimp only
      split
      · exact Node.followsOn_finish hf hd hc
      · exact Node.followsOn_finish hf hd hc

theorem Node.quadrature_followsOn (a b : Bool) (n : Node) : (n.quadrature a b).FollowsOn n := by
  have hm : ({ n with len.quadA := a, len.quadB := b } : Node).FollowsOn n :=
    ⟨id, Node.linesFollow_of_followers rfl, Node.countersFollow_of_followers rfl⟩
  unfold Node.quadrature
  dsimp only
  split
  · exact hm
  · split
    · exact Node.pulse_followsOn true id rfl rfl
    · exact Node.pulse_followsOn false id rfl rfl
    · exact hm

theorem Node.stall_followsOn (n : Node) : n.stall.FollowsOn n := by
  unfold Node.stall
  split
  · have hb : ∀ m : Node, m.fallBack.prot = m.prot ∧ m.fallBack.bus = m.bus ∧
        (m.flagsAgree → m.fallBack.flagsAgree) := by
      intro m
      unfold Node.fallBack
      split
      · exact ⟨rfl, rfl, id⟩
      · exact ⟨rfl, rfl, id⟩
    have hs : ∀ m : Node, m.prot = n.prot → m.bus = n.bus → (n.flagsAgree → m.flagsAgree) →
        (Node.fault .encoderLost m.setLost).finish.FollowsOn n := by
      intro m hp hbus hf
      refine Node.followsOn_finish (fun h => ?_) (by simp [hp]) (by simp [Node.configured, hbus])
      exact Node.flagsAgree_of_standing (Node.fault_standing _ _) (m.setLost_flags (hf h))
    unfold Node.declareStall
    dsimp only
    split
    · obtain ⟨hp, hbus, hf⟩ := hb { n with len.stalled := true, len.stallTimer := n.config.stallTime }
      exact hs _ hp hbus hf
    · exact hs _ rfl rfl id
  · exact .refl n

theorem Node.derivedPoint_followsOn (n : Node) : n.derivedPoint.FollowsOn n := by
  unfold Node.derivedPoint
  split
  · unfold Node.deriveAdvance
    dsimp only
    split
    · exact Node.followsOn_finish id rfl rfl
    · exact Node.advance_followsOn _ id rfl rfl
  · exact .refl n

theorem Node.referenceLapse_followsOn (n : Node) : n.referenceLapse.FollowsOn n := by
  unfold Node.referenceLapse
  split
  · exact Node.followsOn_of_same rfl rfl
  · exact .refl n

theorem Node.intervalPoint_followsOn (n : Node) : n.intervalPoint.FollowsOn n := by
  unfold Node.intervalPoint
  split
  · exact ⟨id, Node.linesFollow_of_followers rfl, Node.countersFollow_of_followers rfl⟩
  · exact .refl n

/-! #### The line and its requests -/

theorem Node.transmitBegin_followsOn (n : Node) : n.transmitBegin.FollowsOn n := by
  unfold Node.transmitBegin
  split
  · exact .refl n
  · split
    · exact .refl n
    · exact Node.followsOn_of_same rfl rfl

theorem Node.transmitComplete_followsOn (n : Node) : n.transmitComplete.FollowsOn n := by
  unfold Node.transmitComplete
  split
  · exact .refl n
  · rename_i q h
    have hn := n.configured_of_sending q h
    exact Node.followsOn_finish_of_standing
      (Eq.trans (Node.frameSent_standing q n.lineSent.leaveQueue hn) rfl)

theorem Node.abandonFrame_followsOn (q : QueuedFrame) {m n : Node} (hm : m.standing = n.standing)
    (hn : n.configured = true) : (m.abandonFrame q).FollowsOn n := by
  have ha : ((((m.leaveQueue.collided).frameLost q).fault .transmitAbandoned).finish).standing =
      n.standing := by
    simp only [Node.finish_standing, Node.fault_standing, Node.frameLost_standing,
      Node.collided_standing]
    exact Eq.trans rfl hm
  have hc := (Node.configured_of_standing ha).trans hn
  unfold Node.abandonFrame
  dsimp only
  split
  · exact Node.followsOn_finish_of_standing ((Node.enterOffline_standing _ hc).trans ha)
  · split
    · exact Node.followsOn_finish_of_standing ((Node.enterListen_standing _ hc).trans ha)
    · refine Node.followsOn_finish_of_standing ?_
      rw [← ha, Node.finish_standing]

theorem Node.collision_followsOn (n : Node) : n.collision.FollowsOn n := by
  unfold Node.collision
  split
  · exact .refl n
  · rename_i q h
    have hn := n.configured_of_sending q h
    unfold Node.frameCollided
    split
    · exact Node.followsOn_finish_of_standing ((Node.collided_standing _).trans rfl)
    · split
      · exact Node.abandonFrame_followsOn q rfl hn
      · exact Node.followsOn_finish_of_standing ((Node.collided_standing _).trans rfl)

theorem Node.lineJam_followsOn (n : Node) : n.lineJam.FollowsOn n := by
  unfold Node.lineJam
  split
  · rename_i h
    exact Node.followsOn_finish_of_standing
      ((Node.fault_standing _ _).trans (n.enterOffline_standing (n.configured_of_receiving h)))
  · exact .refl n

theorem Node.statusPoint_followsOn (n : Node) : n.statusPoint.FollowsOn n := by
  unfold Node.statusPoint
  split
  · exact Node.followsOn_finish_of_standing
      (Node.standing_of_held_trans (Node.generateStatus_held _) rfl)
  · exact .refl n

theorem Node.joinExpired_followsOn (n : Node) : n.joinExpired.FollowsOn n := by
  unfold Node.joinExpired
  split
  · rename_i h
    exact Node.followsOn_finish_of_standing (n.enterActive_standing (by simp [Node.configured, h]))
  · exact .refl n

theorem Node.lineIdle_followsOn (n : Node) : n.lineIdle.FollowsOn n := Node.followsOn_of_same rfl rfl

theorem Node.deliverGood_followsOn (sender : Nat) (f : Frame) (n : Node) :
    (n.deliverGood sender f).FollowsOn n := by
  have hr : ∀ m : Node, (m.deliverRoster sender f).FollowsOn m := fun m =>
    Node.followsOn_finish_of_standing (m.rosterTake_standing sender f)
  have hb : ∀ m : Node, (m.deliverBlock sender f).FollowsOn m := fun m =>
    Node.followsOn_finish_of_standing (m.deliver_standing sender f)
  have hs : ∀ k, (n.spend k).FollowsOn n := fun k =>
    Node.followsOn_of_same (n.spend_standing k) (n.spend_followers k)
  unfold Node.deliverGood
  split
  · exact (hb _).trans ((hr _).trans (hs 2))
  · exact (hr _).trans ((hb _).trans (hs 2))

theorem Node.malformed_followsOn (n : Node) : n.malformed.FollowsOn n :=
  Node.followsOn_finish_of_standing (Node.report_standing _ _)

theorem Node.checkFailed_followsOn (n : Node) : n.checkFailed.FollowsOn n :=
  Node.followsOn_finish_of_standing (Node.report_standing _ _)

theorem Node.receive_followsOn (sender : Nat) (f : Frame) (n : Node) :
    (n.receive sender f).FollowsOn n := by
  have hi := n.lineIdle_followsOn
  unfold Node.receive
  split
  · exact .refl n
  · split
    · exact hi
    · split
      · exact n.lineIdle.malformed_followsOn.trans hi
      · split
        · exact Node.FollowsOn.trans
            (Node.followsOn_finish_of_standing
              ((Node.fault_standing _ _).trans (Node.report_standing _ _))) hi
        · exact (Node.deliverGood_followsOn _ _ _).trans
            ((Node.followsOn_of_same (Node.report_standing _ _) (Node.report_followers _ _)).trans hi)

theorem Node.discard_followsOn (bytes : List Byte) (badStop : Option Nat) (n : Node) :
    (n.discard bytes badStop).FollowsOn n := by
  have hi := n.lineIdle_followsOn
  unfold Node.discard
  split
  · exact .refl n
  · split
    · exact hi
    · split
      · exact n.lineIdle.checkFailed_followsOn.trans hi
      · exact n.lineIdle.malformed_followsOn.trans hi
      · exact .refl n

theorem Node.announceStop_followsOn (cause : Nat) (n : Node) : (n.announceStop cause).FollowsOn n := by
  unfold Node.announceStop
  split
  · exact n.respond_followsOn ..
  · exact .done _ (Node.followsOn_finish_of_standing (n.announce_standing _ _))

theorem Node.announceTrip_followsOn (cause : Nat) (n : Node) : (n.announceTrip cause).FollowsOn n := by
  unfold Node.announceTrip
  split
  · exact n.respond_followsOn ..
  · exact .done _ (Node.followsOn_finish_of_standing (Eq.trans rfl (n.announce_standing true _)))

theorem Node.propose_followsOn (code : Nat) (n : Node) : (n.propose code).FollowsOn n := by
  have hm : ∀ v, (n.makeProposal v).standing = n.standing := fun v =>
    (Node.offer_standing _ _).trans rfl
  unfold Node.propose
  split
  · exact n.respond_followsOn ..
  · split
    · exact n.respond_followsOn ..
    · split
      · exact n.respond_followsOn ..
      · split
        · exact n.respond_followsOn ..
        · split
          · exact n.respond_followsOn ..
          · exact .done _ (Node.followsOn_finish_of_standing (hm _))

theorem Node.setHold_followsOn (n : Node) : n.setHold.FollowsOn n := by
  unfold Node.setHold
  split
  · exact n.respond_followsOn ..
  · exact .done _ (Node.followsOn_finish_of_standing rfl)

theorem Node.clearHold_followsOn (n : Node) : n.clearHold.FollowsOn n := by
  unfold Node.clearHold
  split
  · exact Node.followsOn_of_same rfl rfl
  · exact n.respond_followsOn ..

theorem Node.ackTrip_followsOn (n : Node) : n.ackTrip.FollowsOn n := by
  unfold Node.ackTrip
  split
  · exact Node.followsOn_of_same rfl rfl
  · exact n.respond_followsOn ..

/-! #### Marks -/

theorem Node.postPoint_followsOn (c : Claim) (k : MarkKind) (id p beam : Nat) {m n : Node}
    (h : m.standing = n.standing) : (m.postPoint c k id p beam).FollowsOn n := by
  unfold Node.postPoint
  exact .done _ (Node.followsOn_finish_of_standing
    ((Node.report_standing _ _).trans ((Node.stampPoint_standing ..).trans h)))

theorem Node.postMark_followsOn (kind id : Nat) (n : Node) : (n.postMark kind id).FollowsOn n := by
  have hk : (n.postKnot id).FollowsOn n :=
    Node.postPoint_followsOn _ _ _ _ _ ((Node.knotClaim_standing _ _).trans rfl)
  have hc : n.postCut.FollowsOn n := Node.postPoint_followsOn _ _ _ _ _ rfl
  have ha : ∀ k, (n.postAtPoint k id).FollowsOn n := fun k => Node.postPoint_followsOn _ _ _ _ _ rfl
  unfold Node.postMark
  split
  · split
    · exact n.respond_followsOn ..
    · split
      · exact n.respond_followsOn ..
      · exact hk
  · split
    · exact n.respond_followsOn ..
    · exact hc
  · split
    · exact n.respond_followsOn ..
    · exact ha _
  · split
    · exact n.respond_followsOn ..
    · exact ha _
  · exact n.respond_followsOn ..

theorem Node.openMark_followsOn (id : Nat) (n : Node) : (n.openMark id).FollowsOn n := by
  unfold Node.openMark
  split
  · exact n.respond_followsOn ..
  · exact .done _ (Node.followsOn_finish_of_standing (n.openSpan_standing _ _))

theorem Node.closeMark_followsOn (id : Nat) (n : Node) : (n.closeMark id).FollowsOn n := by
  unfold Node.closeMark
  split
  · exact n.respond_followsOn ..
  · split
    · exact n.respond_followsOn ..
    · exact .done _ (Node.followsOn_finish_of_standing rfl)

/-! #### The Sensor Port -/

theorem Node.beginPoll_followsOn {m n : Node} (h : m.FollowsOn n) : m.beginPoll.FollowsOn n :=
  (Node.followsOn_of_same m.beginPoll_standing m.beginPoll_followers).trans h

theorem Node.pollPoint_followsOn (ch : Nat) (n : Node) : (n.pollPoint ch).FollowsOn n := by
  unfold Node.pollPoint
  split
  · refine Node.beginPoll_followsOn (Node.followsOn_of_same rfl ?_)
    simp only [Node.followers, Followers.mk.injEq, true_and, and_true]
    unfold Quad.set Quad.map
    split <;> simp [Quad.get]
  · exact .refl n

theorem Node.completeTransaction_followsOn (ssdi : BitVec 64) (n : Node) :
    (n.completeTransaction ssdi).FollowsOn n := by
  unfold Node.completeTransaction
  split
  · exact .refl n
  · refine Node.followsOn_finish_of_standing ?_
    rw [Node.beginPoll_standing, Node.changeMode_standing, Node.useReply_standing]
    rfl

theorem Node.setMode_followsOn (code : Nat) (n : Node) : (n.setMode code).FollowsOn n := by
  have ha : ∀ r {m : Node}, m.FollowsOn n → (m.answerMode r).FollowsOn n := fun _ _ h => h.respond ..
  unfold Node.setMode
  split
  · exact n.respond_followsOn ..
  · unfold Node.requestMode
    split
    · split
      · exact ha _ (.refl n)
      · split
        · exact ha _ (Node.followsOn_of_same rfl rfl)
        · exact ha _ (Node.beginPoll_followsOn (Node.followsOn_of_same rfl rfl))
    · split
      · exact ha _ (.refl n)
      · exact ha _ (Node.beginPoll_followsOn (Node.followsOn_of_same rfl rfl))

theorem Node.transact_followsOn (args : List Byte) (n : Node) : (n.transact args).FollowsOn n := by
  have hb : ∀ i k c, (n.beginManual i k c).FollowsOn n := fun _ _ _ =>
    Node.followsOn_of_same rfl rfl
  unfold Node.transact
  dsimp only
  split_ifs
  case neg => exact .done _ (hb _ _ _)
  all_goals exact n.respond_followsOn ..

theorem Node.sensorRead_followsOn (n : Node) : n.sensorRead.FollowsOn n := by
  unfold Node.sensorRead
  split
  · exact n.respond_followsOn ..
  · split
    · exact n.respond_followsOn ..
    · exact n.respond_followsOn ..

/-! #### Counters and notices -/

/-- A counter selected follows the condition that it selects (R169). -/
theorem Node.selected_follows (code : Nat) (mask : BitVec 16) (m : CounterMode) (n : Node)
    (c : Counter) (h : conditionCode (n.selected code mask m c).code = true) :
    (n.selected code mask m c).lastCondition = n.conditionOf (n.selected code mask m c) := by
  unfold Node.selected at h ⊢
  dsimp only at h ⊢
  split
  · rfl
  · rename_i hk
    rw [if_neg hk] at h
    exact absurd h hk

/-- A counter of a group in which one has been replaced. -/
theorem Quad.mem_set {α : Type} (q : Quad α) (i : Nat) (a c : α) (h : c ∈ (q.set i a).toList) :
    c = a ∨ c ∈ q.toList := by
  revert h
  unfold Quad.set Quad.toList
  split <;> simp <;> tauto

/-- The counters once a selection is made (R169). -/
theorem Node.select_followsOn (i code : Nat) (mask : BitVec 16) (m : CounterMode) (n : Node) :
    ({ n with counters := { n.counters with
      cells := n.counters.cells.set i (n.selected code mask m (n.counters.cells.get i)) } } :
      Node).FollowsOn n := by
  refine ⟨id, fun h => Node.linesFollow_congr (n := n) rfl rfl rfl rfl rfl rfl rfl h, fun h => ?_⟩
  rw [Node.countersFollow_iff] at h ⊢
  intro c hc hk
  refine Eq.trans ?_ (Node.conditionOf_congr (n := n) c rfl rfl rfl).symm
  rcases Quad.mem_set _ _ _ _ hc with rfl | hc
  · exact n.selected_follows _ _ _ _ hk
  · exact h c hc hk

theorem Node.counterSelect_followsOn (args : List Byte) (n : Node) :
    (n.counterSelect args).FollowsOn n := by
  unfold Node.counterSelect
  dsimp only
  split
  · exact n.respond_followsOn ..
  · split
    · exact n.respond_followsOn ..
    · split
      · exact n.respond_followsOn ..
      · split
        · exact n.respond_followsOn ..
        · split
          · exact n.respond_followsOn ..
          · exact .done _ (n.select_followsOn _ _ _ _)

theorem Node.freeze_followsOn (n : Node) : n.freeze.FollowsOn n := by
  unfold Node.freeze
  split
  · exact n.respond_followsOn ..
  · exact Node.followsOn_of_same rfl rfl

theorem Node.thaw_followsOn (n : Node) : n.thaw.FollowsOn n := by
  unfold Node.thaw
  split
  · exact Node.followsOn_of_same rfl rfl
  · exact n.respond_followsOn ..

/-- A flag that a set of notices names is cleared with its notice (R182). -/
theorem getLsbD_cleared (a : BitVec 16) (v i : Nat) (h : i < 16) :
    (a &&& ~~~(BitVec.ofNat 16 v)).getLsbD i = (a.getLsbD i && !v.testBit i) := by
  simp only [BitVec.getLsbD_and, BitVec.getLsbD_not, BitVec.getLsbD_ofNat, h, decide_true, Bool.true_and]

/-- A flag cleared takes its notice with it (R15, R182). -/
theorem Node.clearNotices_followsOn (v : Nat) (n : Node) : (n.clearNotices v).FollowsOn n := by
  unfold Node.clearNotices
  split
  · exact n.respond_followsOn ..
  · refine .done _ ⟨fun h => ?_, Node.linesFollow_of_followers rfl, Node.countersFollow_of_followers rfl⟩
    obtain ⟨hl, hr⟩ := h
    simp only [Node.noticed] at hl hr
    constructor
    · simp only [Node.noticed, hl]
      exact (getLsbD_cleared _ _ _ (by decide)).symm
    · simp only [Node.noticed, hr]
      exact (getLsbD_cleared _ _ _ (by decide)).symm

theorem Node.setNoticeMask_followsOn (v : Nat) (n : Node) : (n.setNoticeMask v).FollowsOn n := by
  unfold Node.setNoticeMask
  split
  · exact n.respond_followsOn ..
  · exact Node.followsOn_of_same rfl rfl

/-! #### Timers -/

theorem Node.voteTimeout_followsOn (n : Node) : n.voteTimeout.FollowsOn n := by
  unfold Node.voteTimeout
  split
  · exact Node.followsOn_finish_of_standing (n.endOwn_standing _)
  · exact .refl n

theorem Node.standstillSecond_followsOn (n : Node) : n.standstillSecond.FollowsOn n := by
  unfold Node.standstillSecond
  split
  · exact Node.followsOn_finish_of_standing n.timerSecond_standing
  · exact .refl n

theorem Node.timeBase_followsOn (n : Node) : n.timeBase.FollowsOn n := by
  unfold Node.timeBase
  split
  · exact Node.followsOn_of_same (n.addCounters_standing _) (n.addCounters_followers _)
  · exact .refl n

theorem Node.unknownRequest_followsOn (kind : Byte) (n : Node) : (n.unknownRequest kind).FollowsOn n := by
  unfold Node.unknownRequest
  split
  · exact .refl n
  · exact n.respond_followsOn ..

end Sys2Proof.Machine


/-! #### The step -/

namespace Sys2Proof.Machine


/-- A command whose effect on the part follows on. -/
theorem State.act_followsOn {f : Node → Node} (hf : ∀ n, (f n).FollowsOn n) {s t : State}
    (h : s.act f = .next t) : t.node.FollowsOn s.node := by
  cases h
  exact hf s.node

theorem Node.clearFaults_followsOn (n : Node) : n.clearFaults.FollowsOn n :=
  Node.followsOn_of_same rfl rfl

/-- A proposal view closed (R99). -/
theorem Node.closeView_followsOn (n : Node) :
    ({ n with line.proposalView := none } : Node).FollowsOn n := Node.followsOn_of_same rfl rfl

/-- An event that was due is taken (log 2). -/
theorem Node.takingDue_followsOn (k : Nat) (c : Instr) (n : Node) : (n.takingDue k c).FollowsOn n :=
  Node.FollowsOn.trans (m := n.spend k) (Node.followsOn_of_same rfl rfl)
    (Node.followsOn_of_same (n.spend_standing k) (n.spend_followers k))

/-- Every command keeps the followers in step. -/
theorem exec_followsOn (c : Instr) (s t : State) (h : exec c s = .next t) :
    t.node.FollowsOn s.node := by
  cases c with
  | powerOnReset enc held => exact State.act_followsOn (Node.reset_followsOn enc held) h
  | configure args =>
    exact State.act_followsOn (Node.request_followsOn 168 args (Node.configure_followsOn args)) h
  | start args => exact State.act_followsOn (Node.request_followsOn 0 args Node.start_followsOn) h
  | restart args => exact State.act_followsOn (Node.request_followsOn 0 args Node.restart_followsOn) h
  | readStatus args =>
    exact State.act_followsOn (Node.request_followsOn 0 args fun n => n.answerRead_followsOn _) h
  | readWindow args =>
    exact State.act_followsOn
      (Node.configuredRequest_followsOn 2 args fun n => n.ranged_followsOn 47 args _) h
  | readRoster args =>
    exact State.act_followsOn
      (Node.configuredRequest_followsOn 2 args fun n => n.ranged_followsOn 23 args _) h
  | readLog args =>
    exact State.act_followsOn (Node.configuredRequest_followsOn 0 args Node.readLog_followsOn) h
  | readFaults args =>
    exact State.act_followsOn
      (Node.configuredRequest_followsOn 0 args fun n => n.answerRead_followsOn _) h
  | clearFaults args =>
    exact State.act_followsOn
      (Node.configuredRequest_followsOn 0 args Node.clearFaults_followsOn) h
  | postMark args =>
    exact State.act_followsOn
      (Node.request_followsOn 3 args (Node.whenTracking_followsOn (Node.postMark_followsOn _ _))) h
  | openMark args =>
    exact State.act_followsOn
      (Node.request_followsOn 2 args (Node.whenTracking_followsOn (Node.openMark_followsOn _))) h
  | closeMark args =>
    exact State.act_followsOn
      (Node.request_followsOn 2 args (Node.whenTracking_followsOn (Node.closeMark_followsOn _))) h
  | announceStop args =>
    exact State.act_followsOn (Node.configuredRequest_followsOn 1 args (Node.announceStop_followsOn _)) h
  | announceTrip args =>
    exact State.act_followsOn (Node.configuredRequest_followsOn 1 args (Node.announceTrip_followsOn _)) h
  | propose args =>
    exact State.act_followsOn (Node.configuredRequest_followsOn 1 args (Node.propose_followsOn _)) h
  | setHold args =>
    exact State.act_followsOn (Node.configuredRequest_followsOn 0 args Node.setHold_followsOn) h
  | clearHold args =>
    exact State.act_followsOn (Node.configuredRequest_followsOn 0 args Node.clearHold_followsOn) h
  | ackTrip args =>
    exact State.act_followsOn (Node.configuredRequest_followsOn 0 args Node.ackTrip_followsOn) h
  | setParticipation args =>
    refine State.act_followsOn (Node.request_followsOn 1 args fun n => ?_) h
    unfold Node.whenConfigured
    split
    · rename_i hn
      exact n.setParticipation_followsOn args hn
    · exact n.respond_followsOn ..
  | returnToEncoder args =>
    exact State.act_followsOn
      (Node.configuredRequest_followsOn 0 args Node.returnToEncoder_followsOn) h
  | sensorMode args =>
    exact State.act_followsOn (Node.configuredRequest_followsOn 1 args (Node.setMode_followsOn _)) h
  | sensorTransact args =>
    refine State.act_followsOn (Node.takeRequest_followsOn fun n => ?_) h
    split
    · exact Node.whenConfigured_followsOn (Node.transact_followsOn args) n
    · exact n.respond_followsOn ..
  | sensorRead args =>
    exact State.act_followsOn (Node.configuredRequest_followsOn 0 args Node.sensorRead_followsOn) h
  | counterSelect args =>
    exact State.act_followsOn
      (Node.configuredRequest_followsOn 5 args (Node.counterSelect_followsOn args)) h
  | counterRead args =>
    exact State.act_followsOn
      (Node.configuredRequest_followsOn 0 args fun n => n.respond_followsOn ..) h
  | freeze args =>
    exact State.act_followsOn (Node.configuredRequest_followsOn 0 args Node.freeze_followsOn) h
  | thaw args =>
    exact State.act_followsOn (Node.configuredRequest_followsOn 0 args Node.thaw_followsOn) h
  | readNotices args =>
    exact State.act_followsOn (Node.request_followsOn 0 args fun n => n.respond_followsOn ..) h
  | clearNotices args =>
    exact State.act_followsOn (Node.request_followsOn 2 args (Node.clearNotices_followsOn _)) h
  | setNoticeMask args =>
    exact State.act_followsOn (Node.request_followsOn 2 args (Node.setNoticeMask_followsOn _)) h
  | unknownRequest kind args =>
    exact State.act_followsOn (Node.takeRequest_followsOn (Node.unknownRequest_followsOn kind)) h
  | quadratureChange a b => exact State.act_followsOn (Node.quadrature_followsOn a b) h
  | stall => exact State.act_followsOn Node.stall_followsOn h
  | derivedAdvance => exact State.act_followsOn Node.derivedPoint_followsOn h
  | referenceAbsent => exact State.act_followsOn Node.referenceLapse_followsOn h
  | speedIntervalEnd => exact State.act_followsOn Node.intervalPoint_followsOn h
  | receiveStatus sender p => exact State.act_followsOn (Node.receive_followsOn sender _) h
  | receiveHandoff sender p => exact State.act_followsOn (Node.receive_followsOn sender _) h
  | receiveStop sender p => exact State.act_followsOn (Node.receive_followsOn sender _) h
  | receiveTrip sender p => exact State.act_followsOn (Node.receive_followsOn sender _) h
  | receivePropose sender p => exact State.act_followsOn (Node.receive_followsOn sender _) h
  | receiveAssent sender i => exact State.act_followsOn (Node.receive_followsOn sender _) h
  | receiveHold sender p => exact State.act_followsOn (Node.receive_followsOn sender _) h
  | receiveEnact sender p => exact State.act_followsOn (Node.receive_followsOn sender _) h
  | receiveFault sender p => exact State.act_followsOn (Node.receive_followsOn sender _) h
  | frameDiscarded bytes badStop => exact State.act_followsOn (Node.discard_followsOn bytes badStop) h
  | entrySilent station =>
    exact State.act_followsOn
      (fun n => Node.followsOn_finish_of_standing (n.silence_standing station)) h
  | transmitBegin => exact State.act_followsOn Node.transmitBegin_followsOn h
  | transmitComplete => exact State.act_followsOn Node.transmitComplete_followsOn h
  | collision => exact State.act_followsOn Node.collision_followsOn h
  | lineJam => exact State.act_followsOn Node.lineJam_followsOn h
  | statusTimer => exact State.act_followsOn Node.statusPoint_followsOn h
  | joinTimerExpiry => exact State.act_followsOn Node.joinExpired_followsOn h
  | voteTimeout => exact State.act_followsOn Node.voteTimeout_followsOn h
  | proposalViewTimeout => exact State.act_followsOn Node.closeView_followsOn h
  | standstillSecond => exact State.act_followsOn Node.standstillSecond_followsOn h
  | pollTimerExpiry ch => exact State.act_followsOn (Node.pollPoint_followsOn ch) h
  | transactionComplete ssdi => exact State.act_followsOn (Node.completeTransaction_followsOn ssdi) h
  | timeBaseMillisecond => exact State.act_followsOn Node.timeBase_followsOn h

/-- The timers that count while time passes are nothing that a line or a counter follows (log 2). -/
theorem Node.pass_followsOn (n : Node) : n.pass.FollowsOn n := by
  obtain ⟨bus, hb, hp⟩ := n.pass_cases
  have hpart : bus.participation = n.bus.participation := by rw [hb]
  have hbus : ({ n with bus := bus } : Node).FollowsOn n := by
    refine Node.followsOn_of_same ?_ ?_
    · simp only [Node.standing, Node.configured, hpart]
      rfl
    · simp only [Node.followers, hpart]
  have ht : ∀ m : Node, m.tick.FollowsOn m := by
    intro m
    have hprot : m.prot.tick.timer = m.prot.timer ∧ m.prot.tick.driven = m.prot.driven ∧
        m.prot.tick.lines = m.prot.lines := by
      unfold Protection.tick
      split <;> exact ⟨rfl, rfl, rfl⟩
    have hch : ∀ cfg (c : Channel), ((c.tick cfg).out, (c.tick cfg).failed) = (c.out, c.failed) := by
      intro cfg c
      unfold Channel.tick
      split <;> rfl
    obtain ⟨htimer, hdriven, hlines⟩ := hprot
    refine ⟨id, Node.linesFollow_of_followers ?_, Node.countersFollow_of_followers ?_⟩ <;>
    · simp only [Node.followers, Node.tick, htimer, hdriven, hlines, Quad.zip, Quad.map, hch]
      rfl
  rcases hp with hp | hp
  · rw [hp]
    exact hbus
  · rw [hp]
    exact (ht _).trans hbus

/-- A step keeps the followers in step, with a command or without one (log 2). -/
theorem step_followsOn (s t : State) (h : step s = .next t) : t.node.FollowsOn s.node := by
  unfold step at h
  split at h
  · unfold State.idleStep at h
    split at h
    · cases h
      exact .refl _
    · split at h
      · exact (exec_followsOn _ _ _ h).trans (s.node.takingDue_followsOn _ _)
      · cases h
        exact s.node.pass_followsOn
  · rename_i c rest _
    exact exec_followsOn c { s with pending := rest } t h

/-- Settles O7: what a block's event may have moved is taken in when the block has done with it
(`Node.finish_linesFollow`, `Node.finish_countersFollow`), and what is not taken in moves none of it. -/
theorem stepsKeepFollowersInStep : Obligations.StepsKeepFollowersInStep :=
  ⟨fun s t hn h => (step_followsOn s t h).flags hn, fun s t hn h => (step_followsOn s t h).lines hn,
    fun s t hn h => (step_followsOn s t h).counters hn⟩

end Sys2Proof.Machine

/-! ### Power-on, the requests before START and the reads -/

namespace Sys2Proof.Machine

/-- Settles O9: nothing is held, driven or selected at reset. -/
theorem resetMeetsInvariants : Obligations.ResetMeetsInvariants := by
  refine ⟨by unfold Node.withinCapacity; decide, rfl, ⟨BitVec.getLsbD_zero.symm, BitVec.getLsbD_zero.symm⟩,
    ⟨rfl, rfl⟩, ?_, fun h => absurd h (by decide)⟩
  exact (Node.countersFollow_iff _).2 (by decide)

/-- Settles O13: both sides of each equation are written out field by field. -/
theorem powerOnResetSetsEverything : Obligations.PowerOnResetSetsEverything :=
  ⟨rfl, fun _ _ _ _ => ⟨_, rfl, rfl, rfl⟩⟩

/-! #### What a request comes to -/

/-- A command that leaves the part as it is. -/
theorem State.act_same {f : Node → Node} {s : State} (h : f s.node = s.node) : s.act f = .next s := by
  simp [State.act, h]

/-- A command whose effect on this part is `m`. -/
theorem State.act_eq {f : Node → Node} {s : State} {m : Node} (h : f s.node = m) :
    s.act f = .next { s with node := m } := by
  simp [State.act, h]

/-- The participation that tells START has not been accepted. -/
theorem Node.configured_eq_false (n : Node) :
    n.configured = false ↔ n.bus.participation = .unconfigured := by
  simp [Node.configured]

theorem Node.configured_eq_true (n : Node) :
    n.configured = true ↔ n.bus.participation ≠ .unconfigured := by
  simp [Node.configured]

/-- A request of the right length, taken where RESET_N is negated (R176, R180). -/
theorem Node.request_taken {len : Nat} {args : List Byte} (act : Node → Node) {n : Node}
    (h : n.inReset = false) (hl : args.length = len) : n.request len args act = act n := by
  subst hl
  exact Node.request_right args act n h

/-- From START onward a request of the right length comes to its effect (R176). -/
theorem Node.request_configured {len : Nat} {args : List Byte} (act : Node → Node) {n : Node}
    (h : n.configured = true) (hl : args.length = len) :
    n.request len args (Node.whenConfigured act) = act n := by
  rw [Node.request_taken _ (n.inReset_configured h) hl, Node.whenConfigured, if_pos h]

/-- Before START it is refused with REFUSED_STATE (Table 11-1). -/
theorem Node.request_unconfigured {len : Nat} {args : List Byte} (act : Node → Node) {n : Node}
    (h : n.configured = false) (hh : n.port.held = false) (hl : args.length = len) :
    n.request len args (Node.whenConfigured act) = n.refuseState := by
  rw [Node.request_taken _ (by simp [Node.inReset, hh]) hl, Node.whenConfigured]
  simp [h]

/-- Before START a mark request is refused too (R55, R56, R58). -/
theorem Node.request_untracked {len : Nat} {args : List Byte} (act : Node → Node) {n : Node}
    (h : n.configured = false) (hh : n.port.held = false) (hl : args.length = len) :
    n.request len args (Node.whenTracking act) = n.refuseState := by
  rw [Node.request_taken _ (by simp [Node.inReset, hh]) hl, Node.whenTracking]
  simp [h]

/-! #### UNCONFIGURED -/

/-- Before START a station neither receives nor is ACTIVE. -/
theorem Node.receiving_unconfigured (n : Node) (h : n.bus.participation = .unconfigured) :
    n.receiving = false ∧ n.active = false := by
  simp [Node.receiving, Node.active, h]

/-- The requests that Table 11-1 does not take in UNCONFIGURED are refused there. -/
theorem unconfigured_refuses (args : List Byte) (s : State) (hc : s.node.configured = false)
    (hh : s.node.port.held = false) :
    let refused : Host.Outcome State Fault Refusal :=
      .next { s with node.port.response := some (responseBytes Result.refusedState 0 []) }
    (args.length = 5 → exec (.counterSelect args) s = refused) ∧
    (args.length = 3 → exec (.postMark args) s = refused) ∧
    (args.length = 2 →
      exec (.readWindow args) s = refused ∧ exec (.readRoster args) s = refused ∧
      exec (.openMark args) s = refused ∧ exec (.closeMark args) s = refused) ∧
    (args.length = 1 →
      exec (.announceStop args) s = refused ∧ exec (.announceTrip args) s = refused ∧
      exec (.propose args) s = refused ∧ exec (.setParticipation args) s = refused ∧
      exec (.sensorMode args) s = refused) ∧
    (3 ≤ args.length ∧ args.length ≤ 11 → exec (.sensorTransact args) s = refused) ∧
    (exec (.restart []) s = refused ∧ exec (.readLog []) s = refused ∧
      exec (.readFaults []) s = refused ∧ exec (.clearFaults []) s = refused ∧
      exec (.setHold []) s = refused ∧ exec (.clearHold []) s = refused ∧
      exec (.ackTrip []) s = refused ∧ exec (.returnToEncoder []) s = refused ∧
      exec (.sensorRead []) s = refused ∧ exec (.counterRead []) s = refused ∧
      exec (.freeze []) s = refused ∧ exec (.thaw []) s = refused) := by
  have hr : s.node.inReset = false := by simp [Node.inReset, hh]
  have hreq : ∀ {len} {as : List Byte} (act : Node → Node), as.length = len →
      s.act (Node.request len as (Node.whenConfigured act)) =
        .next { s with node := s.node.refuseState } := fun act hl =>
    State.act_eq (Node.request_unconfigured act hc hh hl)
  have hmark : ∀ {len} (act : Node → Node), args.length = len →
      s.act (Node.request len args (Node.whenTracking act)) =
        .next { s with node := s.node.refuseState } := fun act hl =>
    State.act_eq (Node.request_untracked act hc hh hl)
  have hrestart : s.node.request 0 [] Node.restart = s.node.refuseState := by
    refine (Node.request_taken (len := 0) _ hr rfl).trans ?_
    simp [Node.restart, hc]
  have htransact : 3 ≤ args.length ∧ args.length ≤ 11 → s.node.takeRequest (fun n =>
      if 3 ≤ args.length ∧ args.length ≤ 11 then n.whenConfigured (Node.transact args)
      else n.refuseArgument 0) = s.node.refuseState := by
    intro hl
    rw [Node.takeRequest_taken _ _ hr, if_pos hl, Node.whenConfigured]
    simp [hc]
  exact ⟨hreq _, hmark _, fun hl => ⟨hreq _ hl, hreq _ hl, hmark _ hl, hmark _ hl⟩,
    fun hl => ⟨hreq _ hl, hreq _ hl, hreq _ hl, hreq _ hl, hreq _ hl⟩,
    fun hl => State.act_eq (htransact hl),
    State.act_eq hrestart, hreq _ rfl, hreq _ rfl, hreq _ rfl, hreq _ rfl, hreq _ rfl, hreq _ rfl,
    hreq _ rfl, hreq _ rfl, hreq _ rfl, hreq _ rfl, hreq _ rfl⟩

/-- Before START no frame is received (R137). -/
theorem Node.receive_unconfigured (sender : Nat) (f : Frame) (n : Node) (h : n.configured = false) :
    n.receive sender f = n := by
  simp [Node.receive, h]

/-- Before START no timer runs and nothing is sent: these events change nothing (log 8). -/
theorem Node.event_unconfigured (n : Node) (h : n.bus.participation = .unconfigured) :
    n.stall = n ∧ n.derivedPoint = n ∧ n.referenceLapse = n ∧ n.intervalPoint = n ∧
    n.transmitComplete = n ∧ n.collision = n ∧ n.lineJam = n ∧ n.statusPoint = n ∧
    n.joinExpired = n ∧ n.timeBase = n := by
  have hc := n.configured_eq_false.2 h
  have hs : n.sending = none := by simp [Node.sending, hc]
  obtain ⟨hr, ha⟩ := n.receiving_unconfigured h
  refine ⟨?_, ?_, ?_, ?_, ?_, ?_, ?_, ?_, ?_, ?_⟩
  · simp [Node.stall, Node.stallable, hc]
  · simp [Node.derivedPoint, hc]
  · simp [Node.referenceLapse, hc]
  · simp [Node.intervalPoint, hc]
  · simp [Node.transmitComplete, hs]
  · simp [Node.collision, hs]
  · simp [Node.lineJam, hr]
  · simp [Node.statusPoint, ha]
  · simp [Node.joinExpired, h]
  · simp [Node.timeBase, hc]

/-- Settles O11. -/
theorem unconfiguredTakesSetupAlone : Obligations.UnconfiguredTakesSetupAlone := by
  refine ⟨fun args s hu hh => unconfigured_refuses args s (s.node.configured_eq_false.2 hu) hh,
    fun s hu => ?_, fun args s hu hh => ?_⟩
  · have hc := s.node.configured_eq_false.2 hu
    have hrec : ∀ sender f, s.act (Node.receive sender f) = .next s := fun sender f =>
      State.act_same (Node.receive_unconfigured sender f _ hc)
    have hdis : ∀ bytes badStop, s.act (Node.discard bytes badStop) = .next s := fun _ _ =>
      State.act_same (by simp [Node.discard, hc])
    have hpoll : ∀ ch, s.act (Node.pollPoint ch) = .next s := fun _ =>
      State.act_same (by simp [Node.pollPoint, hc])
    obtain ⟨h1, h2, h3, h4, h5, h6, h7, h8, h9, h10⟩ := s.node.event_unconfigured hu
    refine ⟨fun _ _ => hrec _ _, fun _ _ => hrec _ _, fun _ _ => hrec _ _, fun _ _ => hrec _ _,
      fun _ _ => hrec _ _, fun _ _ => hrec _ _, fun _ _ => hrec _ _, fun _ _ => hrec _ _,
      fun _ _ => hrec _ _, hdis, hpoll, ?_⟩
    simp only [List.forall_mem_cons, List.not_mem_nil, false_implies, implies_true, and_true]
    exact ⟨State.act_same h1, State.act_same h2, State.act_same h3, State.act_same h4,
      State.act_same h5, State.act_same h6, State.act_same h7, State.act_same h8,
      State.act_same h9, State.act_same h10⟩
  · have hr : s.node.inReset = true := by
      simp [Node.inReset, hh, s.node.configured_eq_false.2 hu]
    have hreq : ∀ len (act : Node → Node), s.act (Node.request len args act) = .next s :=
      fun _ _ => State.act_same (Node.takeRequest_held _ _ hr)
    have htake : ∀ act : Node → Node, s.act (Node.takeRequest act) = .next s :=
      fun act => State.act_same (Node.takeRequest_held act _ hr)
    refine ⟨?_, fun kind => htake _⟩
    simp only [List.forall_mem_cons, List.not_mem_nil, false_implies, implies_true, and_true]
    exact ⟨hreq _ _, hreq _ _, hreq _ _, hreq _ _, hreq _ _, hreq _ _, hreq _ _, hreq _ _, hreq _ _,
      hreq _ _, hreq _ _, hreq _ _, hreq _ _, hreq _ _, hreq _ _, hreq _ _, hreq _ _, hreq _ _,
      hreq _ _, hreq _ _, hreq _ _, htake _, hreq _ _, hreq _ _, hreq _ _, hreq _ _, hreq _ _,
      hreq _ _, hreq _ _, hreq _ _⟩

/-! #### The reads -/

/-- A start index above the last is refused at field 1 (R43, R134, log 35). -/
theorem Node.ranged_start (last : Nat) (args : List Byte) (data : Nat → Nat → List Byte) (n : Node)
    (h : last < fieldAt args 0 1) : n.ranged last args data = n.refuseArgument 1 := by
  simp [Node.ranged, h]

/-- A count outside 1 to 8 is refused at field 2 (R43, R134). -/
theorem Node.ranged_count (last : Nat) (args : List Byte) (data : Nat → Nat → List Byte) (n : Node)
    (h : fieldAt args 0 1 ≤ last) (hc : fieldAt args 1 1 = 0 ∨ 8 < fieldAt args 1 1) :
    n.ranged last args data = n.refuseArgument 2 := by
  simp [Node.ranged, Nat.not_lt.2 h, hc]

/-- Both in range: the read is answered. -/
theorem Node.ranged_answer (last : Nat) (args : List Byte) (data : Nat → Nat → List Byte) (n : Node)
    (h : fieldAt args 0 1 ≤ last) (h1 : 1 ≤ fieldAt args 1 1) (h8 : fieldAt args 1 1 ≤ 8) :
    n.ranged last args data = n.answerRead (data (fieldAt args 0 1) (fieldAt args 1 1)) := by
  have hc : ¬ (fieldAt args 1 1 = 0 ∨ 8 < fieldAt args 1 1) := by omega
  simp [Node.ranged, Nat.not_lt.2 h, hc]

/-- The cases of READ_LOG (R83). -/
theorem Node.readLog_cases (n : Node) :
    (n.isTerminal = false → n.readLog = n.refuseState) ∧
    (n.isTerminal = true → n.handover.log = [] → n.readLog = n.ignored (be 1 0)) ∧
    (∀ e rest, n.isTerminal = true → n.handover.log = e :: rest →
      n.readLog = Node.answerRead (n.logImage e ++ be 1 rest.length)
        { n with handover.log := rest }) := by
  unfold Node.readLog
  refine ⟨fun h => ?_, fun h hl => ?_, fun e rest h hl => ?_⟩
  · simp [h]
  · simp [h, hl]
  · simp [h, hl]

/-- Settles O18. -/
theorem readsAnswerTheirImages : Obligations.ReadsAnswerTheirImages := by
  intro args s
  dsimp only
  refine ⟨fun h => State.act_eq (Node.request_taken _ h rfl), fun hu hl => ?_, fun hu => ?_⟩
  · have hc := s.node.configured_eq_true.2 hu
    have hreq : ∀ (act : Node → Node) {m}, act s.node = m →
        s.act (Node.request 2 args (Node.whenConfigured act)) = .next { s with node := m } :=
      fun act _ hm => State.act_eq ((Node.request_configured act hc hl).trans hm)
    exact ⟨fun h h1 h8 => hreq _ (Node.ranged_answer _ _ _ _ h h1 h8),
      fun h h1 h8 => hreq _ (Node.ranged_answer _ _ _ _ h h1 h8),
      fun h => hreq _ (Node.ranged_start _ _ _ _ h), fun h => hreq _ (Node.ranged_start _ _ _ _ h),
      fun h hr => hreq _ (Node.ranged_count _ _ _ _ h hr),
      fun h hr => hreq _ (Node.ranged_count _ _ _ _ h hr)⟩
  · have hc := s.node.configured_eq_true.2 hu
    obtain ⟨hpath, hempty, hlog⟩ := s.node.readLog_cases
    have hreq : ∀ {m}, s.node.readLog = m →
        s.act (Node.request 0 [] (Node.whenConfigured Node.readLog)) = .next { s with node := m } :=
      fun hm => State.act_eq ((Node.request_configured _ hc rfl).trans hm)
    exact ⟨fun h => hreq (hpath h), fun h hl => hreq (hempty h hl),
      fun e rest h hl => hreq (hlog e rest h hl)⟩

end Sys2Proof.Machine

/-! ### The Length Unit: pulses and advances (R1 to R6, R11, R13) -/

namespace Sys2Proof.Machine

/-- An event that touched nothing that the followers of a quiet node read, and brought no fault, is done
with as it is. -/
theorem Node.finish_still {m n : Node} (hq : n.quiet) (hf : m.followers = n.followers)
    (ho : m.line.own = none) (hr : m.faults.reported = []) : m.finish = m := by
  obtain ⟨-, hl, hc, -⟩ := hq
  rw [Node.finish_nil m hr]
  exact Node.settle_same m (Node.countersFollow_of_followers hf hc)
    (Node.linesFollow_of_followers hf hl).2 ho

/-- A quiet node has no own proposal open and no fault waiting. -/
theorem Node.of_quiet {n : Node} (h : n.quiet) :
    n.faults.escalation = 0 ∧ n.faults.reported = [] ∧ n.line.own = none :=
  ⟨h.1.1, h.1.2, h.2.2.2⟩

/-! #### What a change of level is (R1) -/

theorem judgeQuadrature_forward (qa qb : Bool) : judgeQuadrature qa qb (!qb) qa = .forward := by
  cases qa <;> cases qb <;> rfl

theorem judgeQuadrature_reverse (qa qb : Bool) : judgeQuadrature qa qb qb (!qa) = .reverse := by
  cases qa <;> cases qb <;> rfl

theorem judgeQuadrature_none (qa qb a b : Bool)
    (h : (a = qa ∧ b = qb) ∨ (a = !qa ∧ b = !qb)) : judgeQuadrature qa qb a b = .none := by
  revert h
  cases qa <;> cases qb <;> cases a <;> cases b <;> decide

/-- The quadrature state follows the levels (R1). -/
def Node.withLevels (a b : Bool) (n : Node) : Node := { n with len.quadA := a, len.quadB := b }

/-- Where the levels are no count, or none is taken, the quadrature state alone follows (R1). -/
theorem Node.quadrature_uncounted (a b : Bool) (n : Node)
    (h : n.configured = false ∨ judgeQuadrature n.len.quadA n.len.quadB a b = .none) :
    n.quadrature a b = n.withLevels a b := by
  unfold Node.quadrature
  rcases h with h | h
  · simp [h, Node.withLevels]
  · simp [h, Node.withLevels]

/-- A count from START onward is a pulse (R1). -/
theorem Node.quadrature_forward (n : Node) (hc : n.configured = true) :
    n.quadrature (!n.len.quadB) n.len.quadA =
      ((n.withLevels (!n.len.quadB) n.len.quadA).pulse true).finish := by
  simp [Node.quadrature, hc, judgeQuadrature_forward, Node.withLevels]

theorem Node.quadrature_reverse (n : Node) (hc : n.configured = true) :
    n.quadrature n.len.quadB (!n.len.quadA) =
      ((n.withLevels n.len.quadB (!n.len.quadA)).pulse false).finish := by
  simp [Node.quadrature, hc, judgeQuadrature_reverse, Node.withLevels]

/-- A pulse while DERIVED is counted into nothing (R13). -/
theorem Node.pulse_derived (forward : Bool) (n : Node) (h : n.len.source = .derived) :
    n.pulse forward = Node.derivedPulse { n with len.stallTimer := 0 } := by
  simp [Node.pulse, Node.lengthDerived, h]

/-- A pulse in ENCODER is counted by its direction (R2, R3). -/
theorem Node.pulse_encoder (forward : Bool) (n : Node) (h : n.len.source = .encoder) :
    n.pulse forward =
      if forward then Node.forwardPulse { n with len.stallTimer := 0, len.stalled := false }
      else Node.reversePulse { n with len.stallTimer := 0, len.stalled := false } := by
  simp [Node.pulse, Node.lengthDerived, h]

/-- Settles O36. -/
theorem pulsesNotCounted : Obligations.PulsesNotCounted := by
  refine ⟨fun a b s h => ?_, fun a b s hu hd hq hdir => ?_⟩
  · refine State.act_eq (s.node.quadrature_uncounted a b ?_)
    rcases h with h | h
    · exact .inl (s.node.configured_eq_false.2 h)
    · exact .inr (judgeQuadrature_none _ _ _ _ h)
  · have hc := s.node.configured_eq_true.2 hu
    obtain ⟨-, hr, ho⟩ := Node.of_quiet hq
    have hpulse : s.node.quadrature a b =
        (Node.derivedPulse { s.node.withLevels a b with len.stallTimer := 0 }).finish := by
      rcases hdir with ⟨rfl, rfl⟩ | ⟨rfl, rfl⟩
      · exact (s.node.quadrature_forward hc).trans (congrArg Node.finish (Node.pulse_derived true _ hd))
      · exact (s.node.quadrature_reverse hc).trans (congrArg Node.finish (Node.pulse_derived false _ hd))
    have hstill : ∀ m : Node, Node.derivedPulse { s.node.withLevels a b with len.stallTimer := 0 } = m →
        m.followers = s.node.followers → m.line = s.node.line → m.faults = s.node.faults →
        exec (.quadratureChange a b) s = .next { s with node := m } := by
      intro m hm hf hl hfl
      refine State.act_eq (hpulse.trans ?_)
      rw [hm]
      exact Node.finish_still hq hf (by rw [hl, ho]) (by rw [hfl, hr])
    refine ⟨fun hs => hstill _ ?_ rfl rfl rfl, fun hs hres => hstill _ ?_ rfl rfl rfl,
      fun hs hres => hstill _ ?_ rfl rfl rfl⟩
    · simp [Node.derivedPulse, Node.withLevels, hs]
    · simp [Node.derivedPulse, Node.withLevels, hs, Node.setResumed, hres, Node.notice]
    · simp [Node.derivedPulse, Node.withLevels, hs, Node.setResumed, hres]

/-! #### The advance -/

/-- The tracking length and the speed sum grown by `d` (R5, R6). -/
def Node.grown (d : Nat) (n : Node) : Node :=
  { n with
    len.tracking := n.len.tracking + d
    len.speedSum := min 4294967295 (n.len.speedSum + d) }

/-- An advance of 0 mm is none, also one that the limit holds at 0 (R5, log 34). -/
theorem Node.advance_none (mm : Nat) (n : Node) (h : min mm (4294967295 - n.len.tracking) = 0) :
    n.advance mm = n := by
  unfold Node.advance
  exact if_pos h

/-- An advance is the turns of the blocks on the grown length (R5). -/
theorem Node.advance_turns (mm : Nat) (n : Node) (h : min mm (4294967295 - n.len.tracking) ≠ 0) :
    n.advance mm = (n.grown (min mm (4294967295 - n.len.tracking))).advanceTurns
      (4 + n.handover.arrivals.length) (min mm (4294967295 - n.len.tracking))
      [.window, .handover, .marks, .counters] := by
  unfold Node.advance
  exact if_neg h

/-- The Length Unit after an advance (R5, R6). -/
theorem Node.advance_len (mm : Nat) (n : Node) (ht : n.len.tracking ≤ 4294967295)
    (hs : n.len.speedSum ≤ 4294967295) :
    (n.advance mm).len = { n.len with
      tracking := min 4294967295 (n.len.tracking + mm)
      speedSum := min 4294967295
        (n.len.speedSum + (min 4294967295 (n.len.tracking + mm) - n.len.tracking)) } := by
  have hd : min 4294967295 (n.len.tracking + mm) =
      n.len.tracking + min mm (4294967295 - n.len.tracking) := by omega
  rw [hd, Nat.add_sub_cancel_left]
  by_cases h0 : min mm (4294967295 - n.len.tracking) = 0
  · rw [Node.advance_none mm n h0, h0, Nat.add_zero, Nat.add_zero, Nat.min_eq_right hs]
  · rw [Node.advance_turns mm n h0]
    exact (Node.advanceTurns_kept ..).1

/-- Every block acts at an advance, and no arrival is left due (R27, R31, R50, R73, R171). -/
theorem Node.advance_reaches (mm : Nat) (n : Node) (h : min mm (4294967295 - n.len.tracking) ≠ 0) :
    let d := min mm (4294967295 - n.len.tracking)
    (∃ ts : List Taker, ts.count .window = 1 ∧ ts.count .marks = 1 ∧ ts.count .counters = 1 ∧
      1 ≤ ts.count .handover ∧ Node.actsInTurn d ts (n.grown d) (n.advance mm)) ∧
    (n.advance mm).len = (n.grown d).len ∧ (n.advance mm).arrivalDue = false := by
  intro d
  have hk : [Taker.window, .handover, .marks, .counters].length + (n.grown d).handover.arrivals.length ≤
      4 + n.handover.arrivals.length := le_rfl
  rw [Node.advance_turns mm n h]
  obtain ⟨ts, hcount, hhand, hacts⟩ := Node.advanceTurns_acts _ d _ _ hk
  exact ⟨⟨ts, hcount .window (by decide), hcount .marks (by decide), hcount .counters (by decide),
      hhand, hacts⟩, (Node.advanceTurns_kept ..).1, Node.advanceTurns_noneDue _ _ _ _ hk (.inl (by decide))⟩

/-- The Length Unit as a forward pulse leaves it before its advance (R1, R2, R7). -/
def Node.counted (n : Node) : Node :=
  { n with
    len.quadA := !n.len.quadB
    len.quadB := n.len.quadA
    len.stalled := false
    len.stallTimer := 0
    len.fraction := (n.len.fraction + n.config.m) % n.config.p
    len.debt := n.len.debt - (n.len.fraction + n.config.m) / n.config.p }

/-- A forward pulse in ENCODER advances by what its whole millimetres leave of the debt (R2). -/
theorem Node.quadrature_advance (n : Node) (hc : n.configured = true) (hs : n.len.source = .encoder) :
    n.quadrature (!n.len.quadB) n.len.quadA =
      (Node.advance ((n.len.fraction + n.config.m) / n.config.p - n.len.debt) n.counted).finish :=
  (n.quadrature_forward hc).trans (congrArg Node.finish (Node.pulse_encoder true _ hs))

/-- The Length Unit as a derived advance at reference speed `v` leaves it before its advance (R11). -/
def Node.derivedBy (v : Nat) (n : Node) : Node :=
  { n with len.derivedPhase := 0, len.remainder := (n.len.remainder + v) % 100 }

/-- A derived advance makes the advance of its whole hundreds (R11). -/
theorem Node.derivedPoint_advance (n : Node) (v : Nat) (hc : n.configured = true)
    (hd : n.len.source = .derived) (hv : n.len.reference = some v) :
    n.derivedPoint = (Node.advance ((n.len.remainder + v) / 100) (n.derivedBy v)).finish := by
  simp [Node.derivedPoint, hc, Node.lengthDerived, hd, Node.deriveAdvance, hv, Node.derivedBy]

/-- Settles O37: the turns of an advance, their order and their number (`Node.advanceTurns_acts`). -/
theorem advanceReachesEveryBlock : Obligations.AdvanceReachesEveryBlock := by
  refine ⟨fun n mm _ => ⟨n.advance_none mm, fun h => ?_⟩, fun n mm => ⟨rfl, rfl, rfl, rfl⟩,
    fun s hu => ⟨fun hs => ?_, fun v hd hv => ?_⟩⟩
  · obtain ⟨hacts, hlen, hdue⟩ := n.advance_reaches mm h
    refine ⟨hacts, by rw [hlen]; rfl, by rw [hlen]; rfl, fun a rest ha => ?_⟩
    simp only [Node.arrivalDue, ha, hlen, decide_eq_false_iff_not, not_le] at hdue
    exact hdue
  · exact State.act_eq (s.node.quadrature_advance (s.node.configured_eq_true.2 hu) hs)
  · exact ⟨0, State.act_eq (s.node.derivedPoint_advance v (s.node.configured_eq_true.2 hu) hd hv)⟩

end Sys2Proof.Machine

/-! ### What the followers and a fault that is not FATAL leave (R114, R171, R183) -/

namespace Sys2Proof.Machine

/-! #### Settling, up to reports -/

theorem faultFrames_nil : FaultFrames [] := fun _ h => absurd h List.not_mem_nil

theorem faultFrames_append {l k : List QueuedFrame} (hl : FaultFrames l) (hk : FaultFrames k) :
    FaultFrames (l ++ k) := fun q hq => (List.mem_append.1 hq).elim (hl q) (hk q)

/-- The counters of `m` have the selections of those of `n`. -/
def Node.sameSelections (m n : Node) : Prop :=
  ∀ i, (m.counters.cells.get i).sameSelection (n.counters.cells.get i)

/-- The notices that are set in `n` are set in `m`. -/
def Node.keepsNotices (m n : Node) : Prop := ∀ i, n.noticed i = true → m.noticed i = true

theorem Node.keepsNotices_trans {l m n : Node} (h : l.keepsNotices m) (k : m.keepsNotices n) :
    l.keepsNotices n := fun i hi => h i (k i hi)

/-- A notice keeps those that are set (R181). -/
theorem Node.notice_keepsNotices (i : Nat) (n : Node) : (n.notice i).keepsNotices n := by
  intro j hj
  simp only [Node.noticed, Node.notice] at hj ⊢
  simp [hj]

/-- A counter's selection is code, mask and mode (R169). -/
theorem Counter.sameSelection_iff (a b : Counter) :
    a.sameSelection b ↔ a.code = b.code ∧ a.mask = b.mask ∧ a.mode = b.mode := by
  cases a
  cases b
  simp [Counter.sameSelection]

/-- An addition keeps the selection (R172). -/
theorem Counter.addBy_selection (f : Counter → Option Nat) (c : Counter) :
    (c.addBy f).sameSelection c := by
  rw [Counter.sameSelection_iff]
  unfold Counter.addBy Counter.add
  split
  · split <;> simp
  · simp

/-- Additions keep the selections and change, besides, values, overflow flags and notices (R172). -/
theorem Node.addCounters_reports (f : Counter → Option Nat) (n : Node) :
    n.addCounters f = { n with
      counters.cells := (n.addCounters f).counters.cells
      port.notices := (n.addCounters f).port.notices } ∧
    (n.addCounters f).sameSelections n ∧ (n.addCounters f).keepsNotices n := by
  have hmap : ∀ i, ((n.counters.cells.map (Counter.addBy f)).get i).sameSelection
      (n.counters.cells.get i) := fun i => by
    rw [Quad.get_map]
    exact Counter.addBy_selection f _
  unfold Node.addCounters
  split
  · exact ⟨rfl, fun i => (Counter.sameSelection_iff _ _).2 ⟨rfl, rfl, rfl⟩, fun _ h => h⟩
  · split
    · exact ⟨rfl, hmap, Node.notice_keepsNotices _ _⟩
    · exact ⟨rfl, hmap, fun _ h => h⟩

/-- The conditions followed: the same, and last condition values (R171). -/
theorem Node.followConditions_reports (n : Node) :
    n.followConditions = { n with
      counters.cells := n.followConditions.counters.cells
      port.notices := n.followConditions.port.notices } ∧
    n.followConditions.sameSelections n ∧ n.followConditions.keepsNotices n := by
  unfold Node.followConditions
  dsimp only
  obtain ⟨he, hs, hn⟩ := n.addCounters_reports fun c =>
    if conditionCode c.code && decide (c.mode = .occurrences) && n.conditionOf c && !c.lastCondition
    then some 1 else none
  generalize (n.addCounters fun c =>
    if conditionCode c.code && decide (c.mode = .occurrences) && n.conditionOf c && !c.lastCondition
    then some 1 else none) = m at he hs hn
  refine ⟨?_, fun i => ?_, hn⟩
  · rw [he]
  · have hi := hs i
    rw [Counter.sameSelection_iff] at hi ⊢
    simp only [Quad.get_map]
    split <;> exact hi

/-- Settling without an own proposal is up to reports and the lines (R114, R171). -/
theorem Node.settle_reports (n : Node) (ho : n.line.own = none) :
    n.settle.upToReports { n with prot.lines := n.settle.prot.lines } := by
  have hd : n.settle = n.followConditions.evalLines := Node.denyOwn_none _ (by simpa using ho)
  have hl : n.followConditions.evalLines =
      { n.followConditions with prot.lines := n.followConditions.evalLines.prot.lines } := by
    unfold Node.evalLines
    split <;> rfl
  obtain ⟨he, hs, hn⟩ := n.followConditions_reports
  rw [hd]
  generalize n.followConditions.evalLines.prot.lines = lines at hl
  rw [hl]
  refine ⟨⟨[], faultFrames_nil, ?_⟩, hs, hn⟩
  rw [he, List.append_nil]

/-- Lines that follow are left by settling (R114). -/
theorem Node.settle_lines (n : Node) (hl : n.linesFollow) : n.settle.prot.lines = n.prot.lines := by
  have hf : n.followConditions.linesFollow :=
    Node.linesFollow_congr (by simp) (by simp) (by simp) (by simp) (by simp) (by simp) (by simp) hl
  unfold Node.settle
  rw [hf.2]
  simp

/-- A response takes part in the reports (R175). -/
theorem Node.upToReports_respond {m n : Node} (h : m.upToReports n) (r f : Nat) (d : List Byte) :
    (m.respond r f d).upToReports n := by
  obtain ⟨⟨frames, hf, he⟩, hs, hn⟩ := h
  refine ⟨⟨frames, hf, ?_⟩, hs, hn⟩
  rw [he]
  rfl

/-- Every node is itself up to reports. -/
theorem Node.upToReports_refl (n : Node) : n.upToReports n :=
  ⟨⟨[], faultFrames_nil, by rw [List.append_nil]⟩, fun _ =>
    (Counter.sameSelection_iff _ _).2 ⟨rfl, rfl, rfl⟩, fun _ h => h⟩

/-! #### One fault taken -/

/-- `m` is `n` but for notices that are set, detected counts, faults that wait, FAULT frames behind the
queue and the model's choices (R183). -/
def Node.upToFaults (m n : Node) : Prop :=
  (∃ frames, FaultFrames frames ∧
    m = { n with
      port.notices := m.port.notices
      faults.counts := m.faults.counts
      faults.reported := m.faults.reported
      bus.queue := n.bus.queue ++ frames
      turns := m.turns }) ∧
  m.keepsNotices n

theorem Node.upToFaults_trans {l m n : Node} (h : l.upToFaults m) (k : m.upToFaults n) :
    l.upToFaults n := by
  obtain ⟨⟨f1, hf1, he1⟩, hn1⟩ := h
  obtain ⟨⟨f2, hf2, he2⟩, hn2⟩ := k
  refine ⟨⟨f2 ++ f1, faultFrames_append hf2 hf1, ?_⟩,
    Node.keepsNotices_trans hn1 hn2⟩
  rw [he1, he2]
  simp

/-- Detected counts alone, or faults that wait, or choices: nothing else moves. -/
theorem Node.upToFaults_of_eq {m n : Node} (h : m = { n with
    faults.counts := m.faults.counts, faults.reported := m.faults.reported, turns := m.turns }) :
    m.upToFaults n := by
  refine ⟨⟨[], faultFrames_nil, ?_⟩, fun i hi => ?_⟩
  · rw [h, List.append_nil]
  · rw [h]
    exact hi

/-- The notice of a fault's class (R183). -/
theorem Node.faultNotice_upToFaults (c : FaultClass) (n : Node) :
    (n.faultNotice c).upToFaults n ∧ (n.faultNotice c).faults = n.faults ∧
    (n.faultNotice c).bus = n.bus := by
  unfold Node.faultNotice
  split
  · exact ⟨⟨⟨[], faultFrames_nil, by rw [List.append_nil]; rfl⟩, Node.notice_keepsNotices _ n⟩, rfl, rfl⟩
  · exact ⟨Node.upToFaults_of_eq rfl, rfl, rfl⟩

/-- A FAULT frame offered in ACTIVE joins the queue; a full one drops it, which is a FRAME_DROPPED without
a frame of its own (R139, R140). -/
theorem Node.offerFault_upToFaults (p : FaultPayload) (n : Node) (ha : n.active = true) :
    (n.offer (.fault p)).upToFaults n ∧ (n.offer (.fault p)).faults.counts = n.faults.counts ∧
    ((n.offer (.fault p)).faults.reported = n.faults.reported ∨
      (n.offer (.fault p)).faults.reported =
        n.faults.reported ++ [{ kind := .frameDropped, silent := true }]) := by
  by_cases hq : n.queueFull = true
  · have he : n.offer (.fault p) = n.faultSilent .frameDropped := by
      simp [Node.offer, ha, hq, Node.offerToFull, Frame.cls, Node.dropFault, Node.frameLost,
        QueuedFrame.fresh]
    rw [he]
    exact ⟨Node.upToFaults_of_eq rfl, rfl, .inr rfl⟩
  · rw [Node.offer_room _ _ ha (by simpa using hq)]
    exact ⟨⟨⟨_, fun q hm => ⟨p, List.mem_singleton.1 hm⟩, rfl⟩, fun _ h => h⟩, rfl, .inl rfl⟩

/-- A fault counted and its class reported, with a FAULT frame where `frames` allows one (R183). -/
theorem Node.reportFault_upToFaults (frames : Bool) (c : FaultClass) (k : FaultKind) (n : Node) :
    ((n.countFault k).reportClass frames c k).upToFaults n ∧
    ((n.countFault k).reportClass frames c k).faults.counts = (n.countFault k).faults.counts ∧
    (((n.countFault k).reportClass frames c k).faults.reported = n.faults.reported ∨ frames = true ∧
      ((n.countFault k).reportClass frames c k).faults.reported =
        n.faults.reported ++ [{ kind := .frameDropped, silent := true }]) := by
  obtain ⟨hu, hf, hb⟩ := (n.countFault k).faultNotice_upToFaults c
  have hcount : (n.countFault k).upToFaults n := Node.upToFaults_of_eq rfl
  have hun := Node.upToFaults_trans hu hcount
  unfold Node.reportClass
  dsimp only
  split
  · rename_i h
    simp only [Bool.and_eq_true] at h
    obtain ⟨⟨hfr, ha⟩, -⟩ := h
    have hact : ((n.countFault k).faultNotice c).active = true := by
      simpa only [Node.active, hb] using ha
    obtain ⟨ho, hoc, hor⟩ := Node.offerFault_upToFaults { cls := c, kind := k } _ hact
    rw [hf] at hoc hor
    exact ⟨Node.upToFaults_trans ho hun, hoc, hor.imp id fun h => ⟨hfr, h⟩⟩
  · exact ⟨hun, by rw [hf], .inl (by rw [hf]; rfl)⟩

/-- No fault waits any more. -/
def Node.noneReported (n : Node) : Node := { n with faults.reported := [] }

theorem Node.noneReported_of_nil (n : Node) (h : n.faults.reported = []) : n.noneReported = n := by
  unfold Node.noneReported
  rw [← h]

theorem Node.noneReported_upToFaults (n : Node) : n.noneReported.upToFaults n :=
  Node.upToFaults_of_eq rfl

/-- A list of one has one order (log 4). -/
theorem Node.inOrder_singleton {α : Type} (a : α) (n : Node) : n.inOrder [a] = [a] := by
  simp only [Node.inOrder, permute, List.length_singleton]
  rw [Nat.mod_one]
  rfl

/-- With no fault waiting a turn of the Fault Unit takes none. -/
theorem Node.takeReported_none (take : Node → FaultReport → Node) (n : Node)
    (h : n.faults.reported = []) : n.takeReported take = n := by
  have hn := n.noneReported_of_nil h
  unfold Node.noneReported at hn
  unfold Node.takeReported
  rw [hn, h]
  rfl

/-- With one fault waiting a turn of the Fault Unit takes it. -/
theorem Node.takeReported_one (take : Node → FaultReport → Node) (n : Node) (r : FaultReport)
    (h : n.faults.reported = [r]) : n.takeReported take = take n.noneReported r := by
  unfold Node.takeReported
  rw [h, Node.inOrder_singleton]
  rfl

/-- A fault counted is counted once (R183). -/
theorem Node.countFault_counted (k : FaultKind) (n : Node) : (n.countFault k).countedOnce k n := by
  simp [Node.countedOnce, Node.countFault, addHold]

/-- Another kind's count stands when a fault is counted (R183). -/
theorem Node.countFault_other (k j : FaultKind) (n : Node) (h : j.index ≠ k.index) :
    (n.countFault j).faults.counts[k.index]? = n.faults.counts[k.index]? := by
  simp [Node.countFault, h]

/-- FRAME_DROPPED is FATAL only where it is escalated (Table 11-4). -/
theorem Node.frameDropped_class (n : Node) (he : n.faults.escalation = 0) :
    n.faultClass .frameDropped ≠ .fatal := by
  unfold Node.faultClass
  rw [he]
  exact classOf_mild _ _ (by decide)

/-- Faults up to which a node is another leave its escalation set. -/
theorem Node.upToFaults_escalation {m n : Node} (h : m.upToFaults n) :
    m.faults.escalation = n.faults.escalation := by
  obtain ⟨⟨_, _, hm⟩, _⟩ := h
  rw [hm]

/-- The FRAME_DROPPED of a FAULT frame is counted and noticed, and nothing waits after it (R140). -/
theorem Node.takeFollowing_dropped (k : FaultKind) (n : Node) (he : n.faults.escalation = 0)
    (hr : n.faults.reported = [] ∨
      n.faults.reported = [{ kind := .frameDropped, silent := true }])
    (hd : FaultKind.frameDropped.index ≠ k.index) :
    (n.takeReported Node.takeFollowing).upToFaults n ∧
    (n.takeReported Node.takeFollowing).faults.reported = [] ∧
    (n.takeReported Node.takeFollowing).faults.counts[k.index]? = n.faults.counts[k.index]? := by
  rcases hr with h | h
  · rw [Node.takeReported_none _ n h]
    exact ⟨Node.upToFaults_of_eq rfl, h, rfl⟩
  · have ht : n.takeReported Node.takeFollowing = (n.noneReported.countFault .frameDropped).reportClass
        false (n.faultClass .frameDropped) .frameDropped := by
      rw [Node.takeReported_one _ n _ h]
      exact if_neg (n.frameDropped_class he)
    obtain ⟨hu, hc, hrep⟩ := n.noneReported.reportFault_upToFaults false
      (n.faultClass .frameDropped) .frameDropped
    rw [ht]
    refine ⟨Node.upToFaults_trans hu n.noneReported_upToFaults,
      hrep.elim id fun hf => absurd hf.1 (by decide), ?_⟩
    rw [hc]
    exact Node.countFault_other k .frameDropped n.noneReported hd

/-- A fault that waits alone and is not FATAL, at a station that escalates none: it is taken, with a
FRAME_DROPPED where its FAULT frame meets a full queue, and none waits after it (R140, R183). -/
theorem Node.takeFaults_one (k : FaultKind) (n : Node) (he : n.faults.escalation = 0)
    (hr : n.faults.reported = [{ kind := k, silent := false }]) (hk : n.faultClass k ≠ .fatal)
    (hd : FaultKind.frameDropped.index ≠ k.index) :
    n.takeFaults.upToFaults n ∧ n.takeFaults.faults.reported = [] ∧ n.takeFaults.countedOnce k n := by
  obtain ⟨hu, hc, hrep⟩ := n.noneReported.reportFault_upToFaults true (n.faultClass k) k
  have htake : n.takeReported Node.takeFault =
      (n.noneReported.countFault k).reportClass true (n.faultClass k) k := by
    rw [Node.takeReported_one _ n _ hr]
    exact if_neg hk
  rw [← htake] at hu hc hrep
  generalize hm : n.takeReported Node.takeFault = m at hu hc hrep
  have hum : m.upToFaults n := Node.upToFaults_trans hu n.noneReported_upToFaults
  obtain ⟨hu2, hr2, hc2⟩ := m.takeFollowing_dropped k ((Node.upToFaults_escalation hum).trans he)
    (hrep.imp id And.right) hd
  have htf : n.takeFaults = m.takeReported Node.takeFollowing := by
    unfold Node.takeFaults
    rw [hr, hm]
    simp only [List.isEmpty_cons, Bool.false_eq_true, if_false]
    rw [Node.takeReported_none _ _ hr2]
    exact Node.noneReported_of_nil _ hr2
  rw [htf]
  refine ⟨Node.upToFaults_trans hu2 hum, hr2, ?_⟩
  have hcount := n.noneReported.countFault_counted k
  unfold Node.countedOnce at hcount ⊢
  rw [hc2, hc, hcount]
  rfl

/-- A block whose one fault is not FATAL is done: the node is as the block left it up to reports and the
lines, and the fault is counted once (R183). -/
theorem Node.finish_one (k : FaultKind) (n : Node) (he : n.faults.escalation = 0)
    (hr : n.faults.reported = [{ kind := k, silent := false }]) (hk : n.faultClass k ≠ .fatal)
    (hd : FaultKind.frameDropped.index ≠ k.index) (ho : n.line.own = none) :
    n.finish.upToReports { n.noneReported with prot.lines := n.finish.prot.lines } ∧
    n.finish.countedOnce k n ∧ (n.linesFollow → n.finish.prot.lines = n.prot.lines) := by
  obtain ⟨⟨⟨frames, hf, hm⟩, hn⟩, hnone, hcount⟩ := n.takeFaults_one k he hr hk hd
  have hfin : n.finish = n.takeFaults.settle := by simp [Node.finish, ho]
  rw [hfin]
  rw [hnone] at hm
  generalize n.takeFaults = m at hm hn hcount
  have hown : m.line.own = none := by rw [hm]; exact ho
  have hcells : m.counters = n.counters := by rw [hm]
  obtain ⟨⟨frames', hf', hs⟩, hsel, hnot⟩ := m.settle_reports hown
  refine ⟨⟨⟨frames ++ frames', faultFrames_append hf hf', ?_⟩,
    fun i => ?_, Node.keepsNotices_trans hnot hn⟩, ?_, fun hl => ?_⟩
  · generalize m.settle = t at hs
    rw [hs, hm]
    simp [Node.noneReported]
  · have h := hsel i
    simp only [hcells] at h
    exact h
  · simpa [Node.countedOnce] using hcount
  · have hlm : m.linesFollow := by
      rw [hm]
      exact Node.linesFollow_congr (n := n) rfl rfl rfl rfl rfl rfl rfl hl
    rw [m.settle_lines hlm, hm]

end Sys2Proof.Machine

/-! ### Reverse pulses, derived length, and the stall (R3, R4, R7 to R14) -/

namespace Sys2Proof.Machine

/-- A block that reports one fault that is not FATAL, done with its event: the node is as the block left it
up to reports and the lines, and the fault is counted once (R183). -/
theorem Node.finish_fault (k : FaultKind) (m : Node) (he : m.faults.escalation = 0)
    (hr : m.faults.reported = []) (hk : m.faultClass k ≠ .fatal)
    (hd : FaultKind.frameDropped.index ≠ k.index) (ho : m.line.own = none) :
    (m.fault k).finish.upToReports { m with prot.lines := (m.fault k).finish.prot.lines } ∧
    (m.fault k).finish.countedOnce k m ∧
    (m.linesFollow → (m.fault k).finish.prot.lines = m.prot.lines) := by
  obtain ⟨hu, hc, hl⟩ := (m.fault k).finish_one k he (by simp [hr]) hk hd ho
  have hm : (m.fault k).noneReported = m := m.noneReported_of_nil hr
  rw [hm] at hu
  exact ⟨hu, hc, fun h => hl (Node.linesFollow_congr (n := m) rfl rfl rfl rfl rfl rfl rfl h)⟩

/-- A block that has done with an event has left the Length Unit as it was. -/
theorem Node.finish_len (n : Node) : n.finish.len = n.len := (Node.of_held n.finish_held).2.1

/-! #### Pulses -/

/-- The millimetres that a reverse pulse borrows are just enough for the fraction (R3). -/
theorem reverseIn_spec (m p f : Nat) (hp : 0 < p) (hf : f < p) :
    m ≤ f + reverseIn m p f * p ∧ f + reverseIn m p f * p - m < p := by
  unfold reverseIn
  by_cases h : m ≤ f
  · have hz : (m - f + p - 1) / p = 0 := Nat.div_eq_of_lt (by omega)
    rw [hz]
    omega
  · have hdiv := Nat.div_add_mod (m - f + p - 1) p
    have hmod := Nat.mod_lt (m - f + p - 1) hp
    rw [Nat.mul_comm] at hdiv
    generalize (m - f + p - 1) / p * p = x at hdiv ⊢
    omega

/-- The Length Unit as a reverse pulse that borrows `k` leaves it (R3, R7). -/
def Node.borrowed (k : Nat) (n : Node) : Node :=
  { n with
    len.quadA := n.len.quadB
    len.quadB := !n.len.quadA
    len.stalled := false
    len.stallTimer := 0
    len.fraction := n.len.fraction + k * n.config.p - n.config.m
    len.debt := min 4294967295 (n.len.debt + k) }

/-- A reverse pulse in ENCODER borrows; a debt that passes 2,000 mm is a fault (R3, R4). -/
theorem Node.quadrature_borrow (n : Node) (hc : n.configured = true) (hs : n.len.source = .encoder) :
    let k := reverseIn n.config.m n.config.p n.len.fraction
    n.quadrature n.len.quadB (!n.len.quadA) =
      (if n.len.debt ≤ 2000 ∧ 2000 < (n.borrowed k).len.debt then (n.borrowed k).fault .reverseExcess
        else n.borrowed k).finish :=
  (n.quadrature_reverse hc).trans (congrArg Node.finish (Node.pulse_encoder false _ hs))

/-- REVERSE_EXCESS is FATAL only where it is escalated (Table 11-4). -/
theorem Node.reverseExcess_class (n : Node) (he : n.faults.escalation = 0) :
    n.faultClass .reverseExcess ≠ .fatal := by
  unfold Node.faultClass
  rw [he]
  exact classOf_mild _ _ (by decide)

/-- What a reverse pulse leaves at a quiet station: the borrow, and REVERSE_EXCESS where the debt passes
2,000 mm (R3, R4). -/
theorem Node.quadrature_borrowed (n : Node) (hc : n.configured = true) (hs : n.len.source = .encoder)
    (hq : n.quiet) :
    let b := n.borrowed (reverseIn n.config.m n.config.p n.len.fraction)
    let t := n.quadrature n.len.quadB (!n.len.quadA)
    t.len = b.len ∧ t.upToReports b ∧
    (n.len.debt ≤ 2000 ∧ 2000 < b.len.debt → t.countedOnce .reverseExcess n) ∧
    (¬(n.len.debt ≤ 2000 ∧ 2000 < b.len.debt) → t.faults.counts = n.faults.counts) := by
  intro b t
  obtain ⟨he, hr, ho⟩ := Node.of_quiet hq
  have hfol : b.followers = n.followers := rfl
  have ht : t = (if n.len.debt ≤ 2000 ∧ 2000 < b.len.debt then b.fault .reverseExcess else b).finish :=
    n.quadrature_borrow hc hs
  by_cases hpass : n.len.debt ≤ 2000 ∧ 2000 < b.len.debt
  · rw [if_pos hpass] at ht
    obtain ⟨hup, hone, hlines⟩ := b.finish_fault .reverseExcess he hr (b.reverseExcess_class he)
      (by decide) ho
    rw [hlines (Node.linesFollow_of_followers hfol hq.2.1)] at hup
    rw [ht]
    exact ⟨Node.finish_len _, hup, fun _ => hone, fun hn => absurd hpass hn⟩
  · rw [if_neg hpass, Node.finish_still hq hfol ho hr] at ht
    rw [ht]
    exact ⟨rfl, b.upToReports_refl, fun h => absurd h hpass, fun _ => rfl⟩

/-- Settles O35: the advance of a forward pulse by `Node.advance_len`, the borrow of a reverse pulse by
`reverseIn_spec`. -/
theorem pulsesCountForwardAndReverse : Obligations.PulsesCountForwardAndReverse := by
  refine ⟨fun s hu hs hp ht hsum => ?_, fun s hu hs hp hf hq => ?_⟩
  · have hc := s.node.configured_eq_true.2 hu
    refine ⟨_, (s.node.len.fraction + s.node.config.m) / s.node.config.p,
      State.act_eq (s.node.quadrature_advance hc hs), rfl, ?_⟩
    dsimp only
    rw [Node.finish_len, Node.advance_len _ s.node.counted ht hsum]
    have hdiv := Nat.div_add_mod (s.node.len.fraction + s.node.config.m) s.node.config.p
    rw [Nat.mul_comm] at hdiv
    exact ⟨hdiv.symm, Nat.mod_lt _ hp, rfl, rfl, rfl, hs, rfl, rfl, rfl, rfl⟩
  · have hc := s.node.configured_eq_true.2 hu
    obtain ⟨hle, hlt⟩ := reverseIn_spec s.node.config.m s.node.config.p s.node.len.fraction hp hf
    obtain ⟨hlen, hup, hone, hnone⟩ := s.node.quadrature_borrowed hc hs hq
    refine ⟨_, reverseIn s.node.config.m s.node.config.p s.node.len.fraction, State.act_eq rfl, rfl, ?_⟩
    dsimp only
    rw [hlen]
    exact ⟨Nat.sub_add_cancel hle, hlt, hup, hone, hnone⟩

/-! #### Derived length, speed, absence and return -/

/-- A derived advance without a reference makes none (R11). -/
theorem Node.derivedPoint_absent (n : Node) (hc : n.configured = true) (hd : n.len.source = .derived)
    (hv : n.len.reference = none) (hq : n.quiet) :
    n.derivedPoint = { n with len.derivedPhase := 0 } := by
  obtain ⟨-, hr, ho⟩ := Node.of_quiet hq
  have he : n.derivedPoint = ({ n with len.derivedPhase := 0 } : Node).finish := by
    simp [Node.derivedPoint, hc, Node.lengthDerived, hd, Node.deriveAdvance, hv]
  rw [he]
  exact Node.finish_still hq rfl ho hr

/-- The cases of RETURN_TO_ENCODER (R14). -/
theorem Node.returnToEncoder_cases (n : Node) :
    (n.len.stalled = true → n.returnToEncoder = n.refuseState) ∧
    (n.len.stalled = false → n.len.source = .encoder → n.returnToEncoder = n.ignored []) ∧
    (n.len.stalled = false → n.len.source = .derived → n.returnToEncoder =
      (Node.finish { n with len.source := .encoder, len.remainder := 0 }).done []) := by
  unfold Node.returnToEncoder
  refine ⟨fun h => ?_, fun h hs => ?_, fun h hs => ?_⟩
  · simp [h]
  · simp [h, Node.lengthDerived, hs]
  · simp [h, Node.lengthDerived, hs]

/-- Settles O39. -/
theorem derivedLengthSpeedAndReturn : Obligations.DerivedLengthSpeedAndReturn := by
  refine ⟨fun s => ⟨fun hs => ?_, fun hu hd hv hq => ?_, fun v hu hd hv ht hsum => ?_⟩,
    fun s hu => ⟨?_, fun hn => ?_, fun hn => ?_⟩, fun s hu => ?_⟩
  · exact State.act_same (by simp [Node.derivedPoint, Node.lengthDerived, hs])
  · exact ⟨_, State.act_eq
      (s.node.derivedPoint_absent (s.node.configured_eq_true.2 hu) hd hv hq), rfl⟩
  · refine ⟨_, State.act_eq
      (s.node.derivedPoint_advance v (s.node.configured_eq_true.2 hu) hd hv), rfl, ?_⟩
    dsimp only
    rw [Node.finish_len, Node.advance_len _ (s.node.derivedBy v) ht hsum]
    exact ⟨rfl, rfl, rfl, rfl, rfl⟩
  · exact ⟨_, State.act_eq (if_pos (s.node.configured_eq_true.2 hu)), rfl⟩
  · exact State.act_eq (by
      simp [Node.referenceLapse, s.node.configured_eq_true.2 hu, hn, Config.referenceAbsence])
  · have hsome : s.node.usableSpeed.isNone = false := by
      rw [Option.isNone_eq_false_iff, Option.isSome_iff_ne_none]
      exact hn
    exact State.act_same (by simp [Node.referenceLapse, hsome])
  · have hc := s.node.configured_eq_true.2 hu
    obtain ⟨hstall, henc, hder⟩ := s.node.returnToEncoder_cases
    have hreq : ∀ {m}, s.node.returnToEncoder = m →
        exec (.returnToEncoder []) s = .next { s with node := m } := fun hm =>
      State.act_eq ((Node.request_configured _ hc rfl).trans hm)
    refine ⟨fun h => hreq (hstall h), fun h hs => hreq (henc h hs), fun h hs hq => ?_⟩
    obtain ⟨-, hr, ho⟩ := Node.of_quiet hq
    refine ⟨_, hreq (hder h hs), rfl, ?_, ?_, rfl⟩
    · refine Node.upToReports_respond ?_ ..
      have hfin : ({ s.node with len.source := .encoder, len.remainder := 0 } : Node).finish =
        ({ s.node with len.source := .encoder, len.remainder := 0 } : Node).settle :=
        Node.finish_nil _ hr
      have hset := ({ s.node with len.source := .encoder, len.remainder := 0 } : Node).settle_reports ho
      rw [← hfin] at hset
      exact hset
    · exact Node.linesFollow_of_followers (Node.respond_followers ..)
        (Node.finish_linesFollow _ hq.2.1.1)

end Sys2Proof.Machine

/-! ### The withdrawal of a station, and the stall (R8, R9, R12, R94, R149) -/

namespace Sys2Proof.Machine

/-! #### What a withdrawal comes to -/

/-- The faults of `m` are those of `n` but for marks evicted and entries dropped, which wait (R46, R57). -/
def Node.markFaults (m n : Node) : Prop :=
  m.faults.counts = n.faults.counts ∧
  ∀ r ∈ m.faults.reported,
    r ∈ n.faults.reported ∨ r.kind = .markEvicted ∨ r.kind = .marksOverflow

theorem Node.markFaults_of_eq {m n : Node} (h : m.faults = n.faults) : m.markFaults n := by
  unfold Node.markFaults
  rw [h]
  exact ⟨rfl, fun _ => .inl⟩

theorem Node.markFaults_trans {l m n : Node} (h : l.markFaults m) (k : m.markFaults n) :
    l.markFaults n :=
  ⟨h.1.trans k.1, fun r hr => (h.2 r hr).elim (k.2 r) .inr⟩

/-- A fault reported several times waits besides what waited (R183). -/
theorem Node.faultTimes_reported (k : FaultKind) (c : Nat) (n : Node) (r : FaultReport)
    (hr : r ∈ (n.faultTimes k c).faults.reported) : r ∈ n.faults.reported ∨ r.kind = k := by
  induction c generalizing n with
  | zero => exact .inl hr
  | succ c ih =>
    rcases ih (n.fault k) hr with h | h
    · rcases List.mem_append.1 h with h | h
      · exact .inl h
      · rw [List.mem_singleton.1 h]
        exact .inr rfl
    · exact .inr h

/-- A span mark opened: the line view and the bus stand, and its faults are of marks (R49, R57). -/
theorem Node.openSpan_leaves (k : MarkKind) (id : Nat) (n : Node) :
    (n.openSpan k id).line = n.line ∧ (n.openSpan k id).bus = n.bus ∧ (n.openSpan k id).markFaults n := by
  obtain ⟨b, hb⟩ : ∃ b : Node, b = { n with
      marks.table := n.roomFor k ++ [
        { kind := k, id := id, countdown := if k.stopOrTrip then .held else .noCountdown
          opening := n.len.tracking, frontier := n.window.frontier n.spanClaim 0 }]
      window := n.window.stamp n.spanClaim (spanEntry n.config.station k id) } := ⟨_, rfl⟩
  have ho : n.openSpan k id = Node.report (CounterEvent.markOpened k)
      (Node.faultTimes .marksOverflow (n.window.dropCount n.spanClaim (spanEntry n.config.station k id))
        (if (n.evicted k).isSome then b.fault .markEvicted else b)) := by
    rw [hb]
    rfl
  have hf : (if (n.evicted k).isSome then b.fault .markEvicted else b).markFaults n ∧
      (if (n.evicted k).isSome then b.fault .markEvicted else b).line = n.line ∧
      (if (n.evicted k).isSome then b.fault .markEvicted else b).bus = n.bus := by
    split
    · refine ⟨⟨by rw [hb]; rfl, fun r hr => ?_⟩, by rw [hb]; rfl, by rw [hb]; rfl⟩
      rcases List.mem_append.1 hr with h | h
      · rw [hb] at h
        exact .inl h
      · rw [List.mem_singleton.1 h]
        exact .inr (.inl rfl)
    · exact ⟨Node.markFaults_of_eq (by rw [hb]), by rw [hb], by rw [hb]⟩
  rw [ho]
  refine ⟨by simpa using hf.2.1, by simpa using hf.2.2, Node.markFaults_trans ⟨by simp, ?_⟩ hf.1⟩
  intro r hr
  rw [(Node.report_frame _ _).2.2.2.2.2.2.2.2.2.2.1] at hr
  exact (Node.faultTimes_reported _ _ _ r hr).imp (fun h => h) .inr

/-- A change of view reported: line view and bus stand, and its faults are of marks (R87). -/
theorem Node.viewReported_leaves (before after : View) (number : Nat) (n : Node) :
    (n.viewReported before after number).line = n.line ∧
    (n.viewReported before after number).bus = n.bus ∧
    (n.viewReported before after number).markFaults n := by
  have hs : ∀ m : Node, (m.stallOnView before after).line = m.line ∧
      (m.stallOnView before after).bus = m.bus ∧ (m.stallOnView before after).faults = m.faults := by
    intro m
    unfold Node.stallOnView
    split <;> exact ⟨rfl, rfl, rfl⟩
  have ht : ∀ m : Node, (m.timerOnView before after).line = m.line ∧
      (m.timerOnView before after).bus = m.bus ∧ (m.timerOnView before after).faults = m.faults := by
    intro m
    have hd : m.claimDwell.line = m.line ∧ m.claimDwell.bus = m.bus ∧ m.claimDwell.faults = m.faults := by
      unfold Node.claimDwell
      split <;> exact ⟨rfl, rfl, rfl⟩
    unfold Node.timerOnView
    split
    · exact ⟨rfl, rfl, rfl⟩
    · split
      · split <;> exact ⟨rfl, rfl, rfl⟩
      · split
        · exact hd
        · exact ⟨rfl, rfl, rfl⟩
  have hm : ∀ m : Node, (m.marksOnView before after number).line = m.line ∧
      (m.marksOnView before after number).bus = m.bus ∧
      (m.marksOnView before after number).markFaults m := by
    intro m
    have hsame : m.line = m.line ∧ m.bus = m.bus ∧ m.markFaults m :=
      ⟨rfl, rfl, Node.markFaults_of_eq rfl⟩
    unfold Node.marksOnView
    split
    · exact ⟨rfl, rfl, Node.markFaults_of_eq rfl⟩
    · split
      · exact hsame
      · split
        · exact m.openSpan_leaves .trip number
        · split
          · exact m.openSpan_leaves .stop number
          · exact hsame
  unfold Node.viewReported
  obtain ⟨hl1, hb1, hf1⟩ := hm (n.notice Notice.viewChanged)
  obtain ⟨hl2, hb2, hf2⟩ := ht ((n.notice Notice.viewChanged).marksOnView before after number)
  obtain ⟨hl3, hb3, hf3⟩ := hs
    (((n.notice Notice.viewChanged).marksOnView before after number).timerOnView before after)
  exact ⟨hl3.trans (hl2.trans hl1), hb3.trans (hb2.trans hb1),
    Node.markFaults_trans (Node.markFaults_of_eq (hf3.trans hf2)) hf1⟩

/-- An adopted pair is in force; participation stands, and its faults are of marks (R87, R88). -/
theorem Node.adoptPair_leaves (m : Nat) (s : View) (n : Node) :
    (n.adoptPair m s).line.view = s ∧ (n.adoptPair m s).line.number = m ∧
    (n.adoptPair m s).bus.participation = n.bus.participation ∧ (n.adoptPair m s).markFaults n := by
  obtain ⟨b, hb⟩ : ∃ b : Node, b = { (if m = n.line.number then n else n.numberChanged) with
      line.view := s, line.number := m } := ⟨_, rfl⟩
  have hbase : b.line.view = s ∧ b.line.number = m ∧ b.bus.participation = n.bus.participation ∧
      b.faults = n.faults := by
    rw [hb]
    refine ⟨rfl, rfl, ?_, ?_⟩
    · dsimp only
      split
      · rfl
      · simp [Node.numberChanged, Node.abandonOwn]
    · dsimp only
      split
      · rfl
      · simp [Node.numberChanged, Node.abandonOwn]
  have ha : n.adoptPair m s =
      if s = n.line.view then b.settle else (b.viewReported n.line.view s m).settle := by
    rw [hb]
    rfl
  obtain ⟨hv, hnum, hp, hf⟩ := hbase
  rw [ha]
  split
  · exact ⟨by simpa using hv, by simpa using hnum, by simpa using hp,
      Node.markFaults_of_eq (by simpa using hf)⟩
  · obtain ⟨hl, hbus, hmf⟩ := b.viewReported_leaves n.line.view s m
    exact ⟨by simpa [hl] using hv, by simpa [hl] using hnum, by simpa [hbus] using hp,
      Node.markFaults_trans (Node.markFaults_of_eq (by simp))
        (Node.markFaults_trans hmf (Node.markFaults_of_eq hf))⟩

/-- Participation left for `p`: the number and the faults stand (R146, R148 to R150). -/
theorem Node.leaveFor_leaves (p : Participation) (n : Node) :
    (n.leaveFor p).bus.participation = p ∧ (n.leaveFor p).line.number = n.line.number ∧
    (n.leaveFor p).faults = n.faults := by
  have hpurge : ∀ m : Node, m.purge.bus.participation = m.bus.participation ∧
      m.purge.line.number = m.line.number ∧ m.purge.faults = m.faults := by
    intro m
    unfold Node.purge
    refine ⟨?_, ?_, ?_⟩
    · rw [foldl_keeps (fun k : Node => k.bus.participation) _ (fun a q => by simp)]
      rfl
    · rw [foldl_keeps (fun k : Node => k.line.number) _ (fun a q => by simp)]
      rfl
    · rw [foldl_keeps (fun k : Node => k.faults) _ (fun a q => by simp)]
      rfl
  unfold Node.leaveFor
  dsimp only
  split
  · split
    · obtain ⟨h1, h2, h3⟩ := hpurge (Node.spend 2 (Node.notice Notice.participationChanged
        { n with bus.participation := p, bus.joinRunning := false, bus.statusRunning := false
                 bus.statusTimer := 0 })).abandonOwn
      rw [h1, h2, h3]
      simp [Node.abandonOwn]
    · obtain ⟨h1, h2, h3⟩ := hpurge (Node.spend 2 (Node.notice Notice.participationChanged
        { n with bus.participation := p, bus.joinRunning := false, bus.statusRunning := false
                 bus.statusTimer := 0 })).settle.abandonOwn
      rw [h1, h2, h3]
      simp [Node.abandonOwn]
  · obtain ⟨h1, h2, h3⟩ := hpurge (Node.notice Notice.participationChanged
      { n with bus.participation := p, bus.joinRunning := false, bus.statusRunning := false
               bus.statusTimer := 0 })
    rw [h1, h2, h3]
    simp

/-- A withdrawn station: WITHDRAWING, its TRIP adopted; a count that stands (R94, R149). -/
structure Node.WithdrawnAt (number : Nat) (k : FaultKind) (count : Option Nat) (n : Node) : Prop where
  participation : n.bus.participation = .withdrawing
  view : n.line.view = .trip
  number : n.line.number = number
  counted : n.faults.counts[k.index]? = count

/-- A withdrawal: WITHDRAWING with a TRIP one newer than the own number; the counts stand and its faults
are of marks (R94, R149, R184). -/
theorem Node.withdraw_leaves (k : FaultKind) (n : Node) :
    (n.withdraw k).bus.participation = .withdrawing ∧ (n.withdraw k).line.view = .trip ∧
    (n.withdraw k).line.number = evSucc n.line.number ∧ (n.withdraw k).markFaults n := by
  have hr : ((n.recordFatal k).faultNotice .fatal).line = n.line ∧
      ((n.recordFatal k).faultNotice .fatal).markFaults n := by
    have h1 : (n.recordFatal k).line = n.line ∧ (n.recordFatal k).markFaults n := by
      unfold Node.recordFatal
      split
      · exact ⟨rfl, Node.markFaults_of_eq rfl⟩
      · exact ⟨rfl, rfl, fun _ => .inl⟩
    obtain ⟨-, hf, -⟩ := (n.recordFatal k).faultNotice_upToFaults .fatal
    have hl : ((n.recordFatal k).faultNotice .fatal).line = (n.recordFatal k).line := by
      unfold Node.faultNotice
      split <;> rfl
    exact ⟨hl.trans h1.1, Node.markFaults_trans (Node.markFaults_of_eq hf) h1.2⟩
  obtain ⟨hp, hnum, hf⟩ := ((n.recordFatal k).faultNotice .fatal).leaveFor_leaves .withdrawing
  rw [hr.1] at hnum
  unfold Node.withdraw
  generalize ((n.recordFatal k).faultNotice .fatal).leaveFor .withdrawing = m at hp hnum hf
  have hoff : ∀ p, (m.offerWithdrawal p).bus.participation = m.bus.participation ∧
      (m.offerWithdrawal p).faults = m.faults := by
    intro p
    unfold Node.offerWithdrawal
    split
    · split
      · simp [Node.joinQueue]
      · exact ⟨rfl, rfl⟩
    · exact ⟨rfl, rfl⟩
  obtain ⟨hop, hof⟩ := hoff { number := evSucc m.line.number, source := .fault, detail := k.code }
  obtain ⟨hv, hn, hpp, hmf⟩ := (m.offerWithdrawal
    { number := evSucc m.line.number, source := .fault, detail := k.code }).adoptPair_leaves
    (evSucc m.line.number) .trip
  simp only [Node.settle_frame]
  refine ⟨hpp.trans (hop.trans hp), hv, hn.trans (by rw [hnum]), ?_⟩
  refine Node.markFaults_trans (m := m.fatalTrip k) (Node.markFaults_of_eq (by simp)) ?_
  exact Node.markFaults_trans hmf (Node.markFaults_trans (Node.markFaults_of_eq (hof.trans hf)) hr.2)

/-- A WITHDRAWING station takes another kind of fault: it is counted and noticed alone (R183, R184). -/
theorem Node.WithdrawnAt.takeFollowing {number : Nat} {k : FaultKind} {count : Option Nat} {n : Node}
    (h : n.WithdrawnAt number k count) (r : FaultReport) (hk : r.kind.index ≠ k.index) :
    (n.takeFollowing r).WithdrawnAt number k count ∧
    (n.takeFollowing r).faults.reported = n.faults.reported := by
  have hoff : n.onLine = false := by simp [Node.onLine, h.participation]
  have hc : (n.countFault r.kind).WithdrawnAt number k count :=
    ⟨h.participation, h.view, h.number, (n.countFault_other k r.kind hk).trans h.counted⟩
  unfold Node.takeFollowing
  dsimp only
  split
  · rw [hoff]
    exact ⟨hc, rfl⟩
  · simp only [Node.reportClass, Bool.false_and, Bool.false_eq_true, if_false]
    obtain ⟨-, hf, hb⟩ := (n.countFault r.kind).faultNotice_upToFaults (n.faultClass r.kind)
    have hl : ((n.countFault r.kind).faultNotice (n.faultClass r.kind)).line = n.line := by
      unfold Node.faultNotice
      split <;> rfl
    refine ⟨⟨by rw [hb]; exact h.participation, by rw [hl]; exact h.view, by rw [hl]; exact h.number,
      by rw [hf]; exact hc.counted⟩, by rw [hf]; rfl⟩

/-- It takes any number of them (R183). -/
theorem Node.WithdrawnAt.takeAll {number : Nat} {k : FaultKind} {count : Option Nat} {n : Node}
    (h : n.WithdrawnAt number k count) (l : List FaultReport) (hl : ∀ r ∈ l, r.kind.index ≠ k.index) :
    (l.foldl Node.takeFollowing n).WithdrawnAt number k count ∧
    (l.foldl Node.takeFollowing n).faults.reported = n.faults.reported := by
  induction l generalizing n with
  | nil => exact ⟨h, rfl⟩
  | cons r l ih =>
    obtain ⟨h1, hr1⟩ := h.takeFollowing r (hl r List.mem_cons_self)
    obtain ⟨h2, hr2⟩ := ih h1 fun q hq => hl q (List.mem_cons_of_mem _ hq)
    exact ⟨h2, hr2.trans hr1⟩

/-- A FATAL fault that waits alone withdraws a station on the line; what follows of it leaves the
withdrawal and the fault's count (R94, R149, R183, R184). -/
theorem Node.takeFaults_fatal (k : FaultKind) (n : Node) (hon : n.onLine = true)
    (hr : n.faults.reported = [{ kind := k, silent := false }]) (hk : n.faultClass k = .fatal)
    (he : FaultKind.markEvicted.index ≠ k.index) (ho : FaultKind.marksOverflow.index ≠ k.index) :
    n.takeFaults.WithdrawnAt (evSucc n.line.number) k
      ((n.countFault k).faults.counts[k.index]?) := by
  obtain ⟨m, hm⟩ : ∃ m, m = (n.noneReported.countFault k).withdraw k := ⟨_, rfl⟩
  have htake : n.takeReported Node.takeFault = m := by
    rw [Node.takeReported_one _ n _ hr, hm]
    exact (if_pos hk).trans (if_pos hon)
  obtain ⟨hp, hv, hn, hmf⟩ := hm ▸ (n.noneReported.countFault k).withdraw_leaves k
  have hwith : m.WithdrawnAt (evSucc n.line.number) k ((n.countFault k).faults.counts[k.index]?) :=
    ⟨hp, hv, hn, by rw [hmf.1]; rfl⟩
  have hkinds : ∀ r ∈ m.inOrder m.faults.reported, r.kind.index ≠ k.index := by
    intro r hmem
    rcases hmf.2 r (mem_permute _ _ _ _ hmem) with h | h | h
    · exact absurd h List.not_mem_nil
    · rw [h]
      exact he
    · rw [h]
      exact ho
  have hbase : (Node.spendOrder m.faults.reported.length m.noneReported).WithdrawnAt
      (evSucc n.line.number) k ((n.countFault k).faults.counts[k.index]?) :=
    ⟨hwith.participation, hwith.view, hwith.number, hwith.counted⟩
  obtain ⟨hall, hnone⟩ := hbase.takeAll _ hkinds
  have htf : n.takeFaults = m.takeReported Node.takeFollowing := by
    unfold Node.takeFaults
    rw [hr, htake]
    simp only [List.isEmpty_cons, Bool.false_eq_true, if_false]
    have hrep : (m.takeReported Node.takeFollowing).faults.reported = [] := hnone
    rw [Node.takeReported_none _ _ hrep]
    exact Node.noneReported_of_nil _ hrep
  rw [htf]
  exact hall

/-! #### The stall -/

/-- The ENCODER_LOST flag once set stands with its notice, where flag and notice agreed or the flag was
clear (R15). -/
theorem Node.setLost_noticed (n : Node) (h : n.flagsAgree ∨ n.len.lostFlag = false) :
    n.setLost.noticed Notice.encoderLost = true := by
  have hl := n.noticed_notice Notice.encoderLost Notice.encoderLost (by decide)
  unfold Node.setLost
  by_cases hf : n.len.lostFlag = true
  · rw [if_pos hf]
    have hagree : n.flagsAgree := h.resolve_right (by simp [hf])
    exact hagree.1.symm.trans hf
  · rw [if_neg hf]
    refine Eq.trans hl ?_
    simp

/-- The ENCODER_LOST flag set: the flag, and at most its notice (R8, R15). -/
theorem Node.setLost_eq (n : Node) :
    n.setLost = ({ n with len.lostFlag := true } : Node) ∨
    n.setLost = Node.notice Notice.encoderLost { n with len.lostFlag := true } := by
  unfold Node.setLost
  split
  · rename_i h
    left
    rw [← h]
  · exact .inr rfl

/-- A notice raised before the reports is one of them (R181). -/
theorem Node.upToReports_notice {m n : Node} (i : Nat) (h : m.upToReports (n.notice i)) :
    m.upToReports n := by
  obtain ⟨⟨frames, hf, he⟩, hs, hn⟩ := h
  exact ⟨⟨frames, hf, he⟩, hs, Node.keepsNotices_trans hn (n.notice_keepsNotices i)⟩

/-- The encoder stalled, its timer at the configured time (R7, log 3). -/
def Node.stalledNow (n : Node) : Node :=
  { n with len.stalled := true, len.stallTimer := n.config.stallTime }

/-- A stall while the line runs and the encoder is not stalled is declared (R7). -/
theorem Node.stall_declared (n : Node) (hc : n.configured = true) (hv : n.line.view.moving = true)
    (hs : n.len.stalled = false) :
    n.stall = (Node.fault .encoderLost
      (Node.setLost (if n.fallback then n.stalledNow.fallBack else n.stalledNow))).finish := by
  unfold Node.stall
  exact if_pos (by simp [Node.stallable, hc, hv, hs])

/-- Otherwise nothing happens (R7, log 8). -/
theorem Node.stall_none (n : Node)
    (h : n.bus.participation = .unconfigured ∨ n.line.view.moving = false ∨ n.len.stalled = true) :
    n.stall = n := by
  refine if_neg ?_
  rcases h with h | h | h <;> simp [Node.stallable, Node.configured, h]

/-- With fallback ENCODER_LOST is FATAL only where it is escalated (R8, R183). -/
theorem Node.encoderLost_degraded (n : Node) (hf : n.config.fallback ≠ 0)
    (he : n.faults.escalation = 0) : n.faultClass .encoderLost ≠ .fatal := by
  have hfb : n.fallback = true := by simp [Node.fallback, hf]
  unfold Node.faultClass
  rw [hfb, he]
  decide

/-- Without fallback ENCODER_LOST is FATAL (R9, Table 11-4). -/
theorem Node.encoderLost_fatal (n : Node) (hf : n.config.fallback = 0) :
    n.faultClass .encoderLost = .fatal := by
  have hfb : n.fallback = false := by simp [Node.fallback, hf]
  unfold Node.faultClass
  rw [hfb]
  rfl

/-- The Length Unit with the ENCODER_LOST flag set reports its fault (R8): up to reports and the lines the
flag is what has changed, the fault is counted once, and the notice stands. -/
theorem Node.lost_reported (m : Node) (hf : m.config.fallback ≠ 0) (he : m.faults.escalation = 0)
    (hr : m.faults.reported = []) (ho : m.line.own = none) :
    let t := (Node.fault .encoderLost m.setLost).finish
    t.upToReports { m with len.lostFlag := true, prot.lines := t.prot.lines } ∧
    t.countedOnce .encoderLost m ∧
    (m.linesFollow → t.prot.lines = m.prot.lines) ∧
    (m.flagsAgree ∨ m.len.lostFlag = false → t.noticed Notice.encoderLost = true) := by
  intro t
  have hsame : m.setLost.config = m.config ∧ m.setLost.faults = m.faults ∧ m.setLost.line = m.line ∧
      m.setLost.prot = m.prot ∧ m.setLost.followers = m.followers := by
    rcases m.setLost_eq with h | h <;> rw [h] <;> exact ⟨rfl, rfl, rfl, rfl, rfl⟩
  obtain ⟨hcfg, hfl, hl, hp, hfol⟩ := hsame
  obtain ⟨hup, hone, hlines⟩ := m.setLost.finish_fault .encoderLost (by rw [hfl, he])
    (by rw [hfl, hr]) (Node.encoderLost_degraded _ (by rw [hcfg]; exact hf) (by rw [hfl, he]))
    (by decide) (by rw [hl, ho])
  refine ⟨?_, ?_, fun h => ?_, fun h => ?_⟩
  · change t.upToReports { m.setLost with prot.lines := t.prot.lines } at hup
    generalize t.prot.lines = lines at hup ⊢
    rcases m.setLost_eq with h | h <;> rw [h] at hup
    · exact hup
    · exact Node.upToReports_notice Notice.encoderLost hup
  · unfold Node.countedOnce at hone ⊢
    rw [hfl] at hone
    exact hone
  · exact (hlines (Node.linesFollow_of_followers hfol h)).trans (congrArg Protection.lines hp)
  · have hn := congrArg (fun o : Held => o.standing.lost)
      (Node.finish_held (Node.fault .encoderLost m.setLost))
    exact hn.trans (m.setLost_noticed h)

/-- A stall with fallback at a quiet station on a line that runs: up to reports and the lines, what the
stall makes of the Length Unit and the window (R8, R12, R13). -/
theorem Node.stall_fallback (n : Node) (hc : n.configured = true) (hv : n.line.view.moving = true)
    (hs : n.len.stalled = false) (hf : n.config.fallback ≠ 0) (hq : n.quiet) :
    n.stall.upToReports { n.stalledNow.fallBack with
      len.lostFlag := true, prot.lines := n.stall.prot.lines } ∧
    n.stall.countedOnce .encoderLost n ∧
    (n.stalledNow.fallBack.linesFollow → n.stall.prot.lines = n.prot.lines) ∧
    (n.flagsAgree ∨ n.len.lostFlag = false → n.stall.noticed Notice.encoderLost = true) := by
  obtain ⟨he, hr, ho⟩ := Node.of_quiet hq
  have hfb : n.fallback = true := by simp [Node.fallback, hf]
  have hsame : n.stalledNow.fallBack.config = n.config ∧ n.stalledNow.fallBack.faults = n.faults ∧
      n.stalledNow.fallBack.line = n.line ∧ n.stalledNow.fallBack.prot = n.prot ∧
      n.stalledNow.fallBack.port = n.port ∧
      n.stalledNow.fallBack.len.lostFlag = n.len.lostFlag ∧
      n.stalledNow.fallBack.len.resumedFlag = n.len.resumedFlag := by
    unfold Node.fallBack
    split <;> exact ⟨rfl, rfl, rfl, rfl, rfl, rfl, rfl⟩
  obtain ⟨hcfg, hfl, hl, hp, hport, hlost, hres⟩ := hsame
  have hflags : n.flagsAgree → n.stalledNow.fallBack.flagsAgree := by
    intro h
    unfold Node.flagsAgree Node.noticed at h ⊢
    rw [hport, hlost, hres]
    exact h
  obtain ⟨hup, hone, hlines, hnot⟩ := n.stalledNow.fallBack.lost_reported (by rw [hcfg]; exact hf)
    (by rw [hfl, he]) (by rw [hfl, hr]) (by rw [hl, ho])
  have hst := n.stall_declared hc hv hs
  rw [if_pos hfb] at hst
  rw [hst]
  refine ⟨hup, ?_, fun h => (hlines h).trans (congrArg Protection.lines hp), fun h => hnot ?_⟩
  · unfold Node.countedOnce at hone ⊢
    rw [hfl] at hone
    exact hone
  · exact h.imp hflags fun h => hlost.trans h

/-- A stall without fallback withdraws a station on the line (R9, R94, R149). -/
theorem Node.stall_fatal (n : Node) (hon : n.onLine = true) (hv : n.line.view.moving = true)
    (hs : n.len.stalled = false) (hf : n.config.fallback = 0) (hq : n.quiet) :
    n.stall.len = { n.len with stalled := true, stallTimer := n.config.stallTime, lostFlag := true } ∧
    n.stall.WithdrawnAt (evSucc n.line.number) .encoderLost
      ((n.countFault .encoderLost).faults.counts[FaultKind.encoderLost.index]?) ∧
    (n.flagsAgree ∨ n.len.lostFlag = false → n.stall.noticed Notice.encoderLost = true) := by
  obtain ⟨he, hr, ho⟩ := Node.of_quiet hq
  have hfb : n.fallback = false := by simp [Node.fallback, hf]
  have hst := n.stall_declared (n.configured_of_onLine hon) hv hs
  rw [if_neg (by simp [hfb])] at hst
  have hsame : n.stalledNow.setLost.config = n.config ∧ n.stalledNow.setLost.faults = n.faults ∧
      n.stalledNow.setLost.line = n.line ∧ n.stalledNow.setLost.bus = n.bus ∧
      n.stalledNow.setLost.len =
        { n.len with stalled := true, stallTimer := n.config.stallTime, lostFlag := true } := by
    rcases n.stalledNow.setLost_eq with h | h <;> rw [h] <;> exact ⟨rfl, rfl, rfl, rfl, rfl⟩
  have hnot := n.stalledNow.setLost_noticed
  rw [hst]
  generalize n.stalledNow.setLost = m at hsame hnot
  obtain ⟨hcfg, hfl, hl, hb, hlen⟩ := hsame
  have hheld := Node.finish_held (m.fault .encoderLost)
  have honm : (m.fault .encoderLost).onLine = true := by
    unfold Node.onLine at hon ⊢
    rw [(m.fault_frame .encoderLost).2.2.2.2.2.2.2.2.1, hb]
    exact hon
  have hfin : (m.fault .encoderLost).finish = (m.fault .encoderLost).takeFaults.settle := by
    simp [Node.finish, hl, ho]
  have hw := (m.fault .encoderLost).takeFaults_fatal .encoderLost honm (by simp [hfl, hr])
    (Node.encoderLost_fatal _ (by simp [hcfg, hf])) (by decide) (by decide)
  refine ⟨(Node.of_held hheld).2.1.trans hlen, ?_, fun h => ?_⟩
  · rw [hfin]
    refine ⟨by simpa using hw.participation, by simpa using hw.view, ?_, ?_⟩
    · have := hw.number
      simpa [hl] using this
    · have := hw.counted
      simpa [Node.countFault, hfl] using this
  · exact (congrArg (fun o : Held => o.standing.lost) hheld).trans (hnot h)

/-- Settles O38. -/
theorem stallIsDeclared : Obligations.StallIsDeclared := by
  intro s
  refine ⟨fun h => State.act_same (s.node.stall_none h), fun hu hv hs hf hq hsrc => ?_,
    fun hu hv hs hf hq hsrc => ?_, fun hon hv hs hf hq => ?_⟩
  · obtain ⟨hup, hone, -, hnot⟩ :=
      s.node.stall_fallback (s.node.configured_eq_true.2 hu) hv hs hf hq
    refine ⟨_, State.act_eq rfl, rfl, ?_, hone, hnot⟩
    have hlen : s.node.stall.len = { s.node.stalledNow.fallBack.len with lostFlag := true } := by
      obtain ⟨⟨_, _, h⟩, _⟩ := hup
      rw [h]
    have hfall : s.node.stalledNow.fallBack = Node.markDerived { s.node.stalledNow with
        len.source := .derived, len.remainder := 0, len.derivedPhase := 0 } := by
      simp [Node.fallBack, Node.lengthDerived, Node.stalledNow, hsrc]
    dsimp only
    rw [hlen]
    rw [hfall] at hup ⊢
    exact hup
  · obtain ⟨hup, hone, hlines, hnot⟩ :=
      s.node.stall_fallback (s.node.configured_eq_true.2 hu) hv hs hf hq
    refine ⟨_, State.act_eq rfl, rfl, ?_, hone, hnot⟩
    have hfall : s.node.stalledNow.fallBack = s.node.stalledNow := by
      simp [Node.fallBack, Node.lengthDerived, Node.stalledNow, hsrc]
    have hlen : s.node.stall.len = { s.node.stalledNow.fallBack.len with lostFlag := true } := by
      obtain ⟨⟨_, _, h⟩, _⟩ := hup
      rw [h]
    rw [hfall] at hup hlines hlen
    rw [hlines (Node.linesFollow_of_followers (n := s.node) rfl hq.2.1)] at hup
    dsimp only
    rw [hlen]
    exact hup
  · obtain ⟨hlen, hw, hnot⟩ := s.node.stall_fatal hon hv hs hf hq
    refine ⟨_, State.act_eq rfl, rfl, ?_⟩
    dsimp only
    rw [hlen]
    exact ⟨rfl, rfl, rfl, rfl, hw.participation, hw.view, hw.number,
      hw.counted.trans (s.node.countFault_counted .encoderLost), hnot⟩

end Sys2Proof.Machine

/-! ### PROPOSE (R96, R98) -/

namespace Sys2Proof.Machine

/-- An ACTIVE part is past START (R143). -/
theorem Node.configured_of_active {n : Node} (h : n.active = true) : n.configured = true := by
  simp only [Node.active, decide_eq_true_eq] at h
  simp [Node.configured, h]

/-! #### The order of the refusals (R96) -/

/-- Without the start right or outside ACTIVE, PROPOSE is refused for the state. -/
theorem Node.propose_barred (code : Nat) (n : Node)
    (h : n.config.startRight = 0 ∨ n.active = false) : n.propose code = n.refuseState := by
  unfold Node.propose
  rw [if_pos (h.imp_right (by simp))]

/-- While an own proposal, an own ENACT or a proposal view is open, PROPOSE is refused as busy. -/
theorem Node.propose_busy (code : Nat) (n : Node) (hr : n.config.startRight ≠ 0)
    (ha : n.active = true)
    (h : n.line.own ≠ none ∨ n.line.enact ≠ none ∨ n.line.proposalView ≠ none) :
    n.propose code = n.refuseBusy := by
  simp only [← Option.isSome_iff_ne_none] at h
  unfold Node.propose
  rw [if_neg (by simp [hr, ha]), if_pos h]

/-- With nothing open a target that is no legal move is refused as an argument. -/
theorem Node.propose_illegal (code : Nat) (n : Node) (hr : n.config.startRight ≠ 0)
    (ha : n.active = true) (ho : n.line.own = none) (he : n.line.enact = none)
    (hv : n.line.proposalView = none)
    (h : ∀ v, View.ofCode? code = some v → legalMove n.line.view v = false) :
    n.propose code = n.refuseArgument 1 := by
  unfold Node.propose
  rw [if_neg (by simp [hr, ha]), if_neg (by simp [ho, he, hv])]
  cases hcode : View.ofCode? code with
  | none => rfl
  | some v => simp [h v hcode]

/-- Of a legal target with nothing open the first own hold reason refuses. -/
theorem Node.propose_held (code : Nat) (n : Node) (v : View) (r : HoldReason)
    (more : List HoldReason) (hr : n.config.startRight ≠ 0) (ha : n.active = true)
    (ho : n.line.own = none) (he : n.line.enact = none) (hv : n.line.proposalView = none)
    (hcode : View.ofCode? code = some v) (hlegal : legalMove n.line.view v = true)
    (hh : n.holdReasons v = r :: more) :
    n.propose code = n.respond Result.refusedState 0 (be 1 1 ++ be 1 r.code) := by
  unfold Node.propose
  rw [if_neg (by simp [hr, ha]), if_neg (by simp [ho, he, hv]), hcode]
  simp [hlegal, hh]

/-- A legal target with nothing open and no own hold reason is proposed. -/
theorem Node.propose_unheld (code : Nat) (n : Node) (v : View) (hr : n.config.startRight ≠ 0)
    (ha : n.active = true) (ho : n.line.own = none) (he : n.line.enact = none)
    (hv : n.line.proposalView = none) (hcode : View.ofCode? code = some v)
    (hlegal : legalMove n.line.view v = true) (hh : n.holdReasons v = []) :
    n.propose code = ((n.makeProposal v).finish).done (idBytes n.nextId ++ be 2 n.line.number) := by
  unfold Node.propose
  rw [if_neg (by simp [hr, ha]), if_neg (by simp [ho, he, hv]), hcode]
  simp [hlegal, hh]

/-! #### The proposal made (R96, R139) -/

/-- The own proposal that PROPOSE makes (R96). -/
def Node.newProposal (v : View) (n : Node) : OwnProposal :=
  { id := n.nextId, base := n.line.number, target := v, phase := .queued }

/-- With room in the queue of an ACTIVE part the PROPOSE joins it as the newest (R96, R139). -/
theorem Node.makeProposal_room (v : View) (n : Node) (ha : n.active = true)
    (hq : n.bus.queue.length < 16) :
    n.makeProposal v = { n with
      line.own := some (n.newProposal v)
      line.proposalCount := (n.line.proposalCount + 1) % 256
      bus.queue := n.bus.queue ++ [QueuedFrame.fresh
        (.propose { id := n.nextId, base := n.line.number, target := v }) false] } := by
  have hfull : n.queueFull = false := decide_eq_false (Nat.not_le.2 hq)
  exact Node.offer_room _ _ ha hfull

/-- An own proposal stands while none of its hold reasons holds (R100). -/
theorem Node.denyOwn_unheld (n : Node) (o : OwnProposal) (ho : n.line.own = some o)
    (h : n.holdReasons o.target = []) : n.denyOwn = n := by
  simp [Node.denyOwn, ho, h]

/-- A quiet part that made a proposal without a hold reason is done with it (R100). -/
theorem Node.finish_proposal {m n : Node} (o : OwnProposal) (hq : n.quiet)
    (hf : m.followers = n.followers) (hr : m.faults.reported = []) (ho : m.line.own = some o)
    (hh : m.holdReasons o.target = []) : m.finish = m := by
  obtain ⟨-, hl, hc, -⟩ := hq
  have hcond : m.followConditions = m := Node.countersFollow_of_followers hf hc
  have hlines : m.evalLines = m := (Node.linesFollow_of_followers hf hl).2
  rw [Node.finish_nil m hr, Node.settle, hcond, hlines]
  exact Node.denyOwn_unheld m o ho hh

/-- PROPOSE accepted (R96). -/
theorem Node.propose_accepted (code : Nat) (n : Node) (v : View) (hr : n.config.startRight ≠ 0)
    (ha : n.active = true) (hq : n.quiet) (he : n.line.enact = none)
    (hv : n.line.proposalView = none) (hcode : View.ofCode? code = some v)
    (hlegal : legalMove n.line.view v = true) (hh : n.holdReasons v = [])
    (hroom : n.bus.queue.length < 16) :
    n.propose code = { n with
      line.own := some (n.newProposal v)
      line.proposalCount := (n.line.proposalCount + 1) % 256
      bus.queue := n.bus.queue ++ [QueuedFrame.fresh
        (.propose { id := n.nextId, base := n.line.number, target := v }) false]
      port.response := some (responseBytes Result.done 0 (idBytes n.nextId ++ be 2 n.line.number)) } := by
  obtain ⟨-, hrep, hown⟩ := Node.of_quiet hq
  have hdone : (n.makeProposal v).finish = n.makeProposal v := by
    rw [Node.makeProposal_room v n ha hroom]
    exact Node.finish_proposal (n.newProposal v) hq rfl hrep rfl hh
  rw [Node.propose_unheld code n v hr ha hown he hv hcode hlegal hh, hdone,
    Node.makeProposal_room v n ha hroom]
  rfl

/-! #### The hold reasons (R12, R98, R117) -/

/-- A reason of Table 5-4 holds where its own condition does. -/
theorem Node.mem_holdReasons (v : View) (n : Node) (r : HoldReason) : r ∈ n.holdReasons v ↔
    (r = .tripUnacknowledged ∧ v = .standstill ∧ n.line.tripUnack = true) ∨
    (r = .localHold ∧ n.line.hold = true) ∨ (r = .length ∧ n.lengthUnfit = true) ∨
    (r = .action ∧ n.actionHolds = true) := by
  have hmem : ∀ (p : Prop) [Decidable p] (x : HoldReason),
      r ∈ (if p then [x] else []) ↔ r = x ∧ p := by
    intro p _ x
    split <;> simp [*]
  simp only [Node.holdReasons, List.mem_append, hmem, or_assoc]

/-- The reasons stand in the order of Table 5-4. -/
theorem Node.holdReasons_sublist (v : View) (n : Node) :
    (n.holdReasons v).Sublist [.tripUnacknowledged, .localHold, .length, .action] := by
  have hsub : ∀ (p : Prop) [Decidable p] (x : HoldReason),
      (if p then [x] else []).Sublist [x] := by
    intro p _ x
    split <;> simp
  exact (((hsub _ _).append (hsub _ _)).append (hsub _ _)).append (hsub _ _)

/-- There is no usable speed where no other station is chosen whose entry is PRESENT and has a speed
(R10). -/
theorem Node.usableSpeed_eq_none (n : Node) : n.usableSpeed = none ↔
    ∀ st, n.roster.reference = some st → st = n.config.station ∨
      ∀ e, n.roster.entry? st = some e → e.present = false ∨ e.speed = none := by
  unfold Node.usableSpeed
  cases n.roster.reference with
  | none => simp
  | some st =>
    by_cases hown : st = n.config.station
    · simp [hown]
    · cases hent : n.roster.entry? st with
      | none => simp [hown, hent]
      | some e => cases hp : e.present <;> simp [hown, hent, hp]

/-- The length-unfit condition: stalled without fallback, or DERIVED without a usable reference (R12). -/
theorem Node.lengthUnfit_iff (n : Node) : n.lengthUnfit = true ↔
    (n.len.stalled = true ∧ n.config.fallback = 0) ∨
    (n.len.source = .derived ∧ n.usableSpeed = none) := by
  simp [Node.lengthUnfit, Node.fallback, Node.lengthDerived]

/-- The ACTION condition: a line with the holds-start option is asserted (R117). -/
theorem Node.actionHolds_iff (n : Node) : n.actionHolds = true ↔ ∃ i ≤ 3,
    (n.config.lines.get i).holdsStart ≠ 0 ∧ (n.prot.lines.get i).asserted = true := by
  have hfour : ∀ p : Nat → Prop, (∃ i ≤ 3, p i) ↔ p 0 ∨ p 1 ∨ p 2 ∨ p 3 := by
    intro p
    constructor
    · rintro ⟨i, hi, hp⟩
      obtain rfl | rfl | rfl | rfl : i = 0 ∨ i = 1 ∨ i = 2 ∨ i = 3 := by omega
      · exact .inl hp
      · exact .inr (.inl hp)
      · exact .inr (.inr (.inl hp))
      · exact .inr (.inr (.inr hp))
    · rintro (h | h | h | h)
      · exact ⟨0, by omega, h⟩
      · exact ⟨1, by omega, h⟩
      · exact ⟨2, by omega, h⟩
      · exact ⟨3, by omega, h⟩
  rw [hfour]
  simp [Node.actionHolds, Quad.zip, Quad.toList, Quad.get]

/-- The legal moves (Table 5-3). -/
theorem legalMove_iff (view target : View) : legalMove view target = true ↔
    (view, target) ∈ [(View.standstill, View.creep), (.standstill, .run), (.creep, .run),
      (.run, .creep), (.trip, .standstill)] := by
  cases view <;> cases target <;> decide

/-- Settles O42: the refusals in their order, then the proposal made by a quiet part, whose followers it
leaves. -/
theorem proposeRefusesOrQueues : Obligations.ProposeRefusesOrQueues := by
  refine ⟨fun args s hl hu => ?_, fun args s v hl hr ha hq he hv hcode hlegal hh hroom => ?_,
    fun n v => ?_, legalMove_iff⟩
  · have hreq : ∀ {m}, s.node.propose (fieldAt args 0 1) = m →
        exec (.propose args) s = .next { s with node := m } := fun hm => State.act_eq
      ((Node.request_configured _ (s.node.configured_eq_true.2 hu) hl).trans hm)
    exact ⟨fun h => hreq (Node.propose_barred _ _ h), fun hr ha =>
      ⟨fun h => hreq (Node.propose_busy _ _ hr ha h), fun ho he hv =>
        ⟨fun h => hreq (Node.propose_illegal _ _ hr ha ho he hv h), fun v r more hcode hlegal hh =>
          hreq (Node.propose_held _ _ v r more hr ha ho he hv hcode hlegal hh)⟩⟩⟩
  · exact State.act_eq ((Node.request_configured _ (Node.configured_of_active ha) hl).trans
      (Node.propose_accepted _ _ v hr ha hq he hv hcode hlegal hh hroom))
  · dsimp only
    rw [← Node.usableSpeed_eq_none, ← Node.lengthUnfit_iff, ← Node.actionHolds_iff]
    exact ⟨by simp [Node.mem_holdReasons], by simp [Node.mem_holdReasons],
      by simp [Node.mem_holdReasons], by simp [Node.mem_holdReasons], n.holdReasons_sublist v⟩

end Sys2Proof.Machine

/-! ### Time and the events that are due (R6, R7, R10, R11, R99, R100, R107, R124, R145, R147, R158, R171) -/

namespace Sys2Proof.Machine

/-! #### The events of the line -/

/-- The commands that stand for an event of the line (R137, R142 to R144). -/
def ofLine : Instr → Bool
  | .collision | .transmitComplete | .transmitBegin | .lineJam | .frameDiscarded _ _
  | .receiveStatus _ _ | .receiveHandoff _ _ | .receiveStop _ _ | .receiveTrip _ _
  | .receivePropose _ _ | .receiveAssent _ _ | .receiveHold _ _ | .receiveEnact _ _
  | .receiveFault _ _ => true
  | _ => false

/-- What is heard of the line is received or discarded (R137). -/
theorem heardCommand_ofLine (heard : List Bool) : ofLine (heardCommand heard) = true := by
  unfold heardCommand
  dsimp only
  split
  · next f _ => cases f <;> rfl
  · rfl

theorem Node.lineDue_ofLine {c : Instr} {n : Node} (h : c ∈ n.lineDue) : ofLine c = true := by
  simp only [Node.lineDue, List.mem_append, mem_dueWhen] at h
  rcases h with (((⟨-, rfl⟩ | ⟨-, rfl⟩) | ⟨-, rfl⟩) | ⟨-, rfl⟩) | ⟨-, rfl⟩
  · rfl
  · rfl
  · rfl
  · exact heardCommand_ofLine _
  · rfl

/-! #### The events of the timers -/

/-- A command that is no event of the line is due by a timer alone. -/
theorem Node.mem_dueEvents_timer {c : Instr} (h : ofLine c = false) (n : Node) :
    c ∈ n.dueEvents ↔ c ∈ n.timersDue := by
  have hline : c ∉ n.lineDue := fun hc => absurd (Node.lineDue_ofLine hc) (by simp [h])
  simp [Node.dueEvents, hline]

theorem Node.voteDue_iff (n : Node) : n.voteDue = true ↔ ∃ o, n.line.own = some o ∧
    ∃ electorate assents timer, o.phase = .voting electorate assents timer ∧ 300 ≤ timer := by
  unfold Node.voteDue
  cases n.line.own with
  | none => simp
  | some o =>
    obtain ⟨_, _, _, phase⟩ := o
    cases phase with
    | queued => simp
    | voting electorate assents timer => exact decide_eq_true_iff.trans (by simp [Config.voteTime])

theorem Node.viewDue_iff (n : Node) : n.viewDue = true ↔
    ∃ v, n.line.proposalView = some v ∧ 500 ≤ v.timer := by
  unfold Node.viewDue
  cases n.line.proposalView with
  | none => simp
  | some v => exact decide_eq_true_iff.trans (by simp [Config.viewTime])

theorem Node.pollDue_iff (ch : Nat) (n : Node) : n.pollDue ch = true ↔
    (n.config.channels.get ch).enable ≠ 0 ∧
    (n.config.channels.get ch).interval ≤ (n.sensor.channels.get ch).timer := by
  simp [Node.pollDue, ChannelConfig.enabled]

/-- The events of the timers, each with the condition it is due by. -/
theorem Node.mem_timersDue (c : Instr) (n : Node) : c ∈ n.timersDue ↔
    (n.baseDue = true ∧ c = .timeBaseMillisecond) ∨
    (100 ≤ n.len.speedPhase ∧ c = .speedIntervalEnd) ∨
    ((n.len.source = .derived ∧ 10 ≤ n.len.derivedPhase) ∧ c = .derivedAdvance) ∨
    ((n.stallable = true ∧ n.config.stallTime ≤ n.len.stallTimer) ∧ c = .stall) ∨
    ((n.usableSpeed = none ∧ n.len.reference ≠ none ∧ 2000 ≤ n.len.absenceTimer) ∧
      c = .referenceAbsent) ∨
    ((n.bus.participation = .joining ∧ 600 ≤ n.bus.joinTimer) ∧ c = .joinTimerExpiry) ∨
    ((n.active = true ∧ n.bus.statusRunning = true ∧ 250 ≤ n.bus.statusTimer) ∧ c = .statusTimer) ∨
    (n.voteDue = true ∧ c = .voteTimeout) ∨
    (n.viewDue = true ∧ c = .proposalViewTimeout) ∨
    ((n.prot.running = true ∧ 1000 ≤ n.prot.phase) ∧ c = .standstillSecond) ∨
    (∃ ch < 4, n.pollDue ch = true ∧ c = .pollTimerExpiry ch) ∨
    ∃ e ∈ n.roster.others, (e.present = true ∧ 1000 ≤ e.age) ∧ c = .entrySilent e.station := by
  simp only [Node.timersDue, List.mem_append, mem_dueWhen, List.mem_flatMap, List.mem_range,
    List.mem_map, List.mem_filter, Bool.and_eq_true, decide_eq_true_eq, Option.isNone_iff_eq_none,
    Option.isSome_iff_ne_none, Node.lengthDerived, or_assoc, and_assoc, eq_comm (b := c)]
  rfl

/-- Each timer's event is due exactly while its timer is at its limit and its other conditions hold. -/
theorem Node.dueEvents_iff (n : Node) :
    (.timeBaseMillisecond ∈ n.dueEvents ↔ n.baseDue = true) ∧
    (.speedIntervalEnd ∈ n.dueEvents ↔ 100 ≤ n.len.speedPhase) ∧
    (.derivedAdvance ∈ n.dueEvents ↔ n.len.source = .derived ∧ 10 ≤ n.len.derivedPhase) ∧
    (.stall ∈ n.dueEvents ↔ n.bus.participation ≠ .unconfigured ∧ n.line.view.moving = true ∧
      n.len.stalled = false ∧ n.config.stallTime ≤ n.len.stallTimer) ∧
    (.referenceAbsent ∈ n.dueEvents ↔
      n.usableSpeed = none ∧ n.len.reference ≠ none ∧ 2000 ≤ n.len.absenceTimer) ∧
    (.joinTimerExpiry ∈ n.dueEvents ↔ n.bus.participation = .joining ∧ 600 ≤ n.bus.joinTimer) ∧
    (.statusTimer ∈ n.dueEvents ↔
      n.bus.participation = .active ∧ n.bus.statusRunning = true ∧ 250 ≤ n.bus.statusTimer) ∧
    (.voteTimeout ∈ n.dueEvents ↔ ∃ o, n.line.own = some o ∧ ∃ electorate assents timer,
      o.phase = .voting electorate assents timer ∧ 300 ≤ timer) ∧
    (.proposalViewTimeout ∈ n.dueEvents ↔ ∃ v, n.line.proposalView = some v ∧ 500 ≤ v.timer) ∧
    (.standstillSecond ∈ n.dueEvents ↔ n.prot.running = true ∧ 1000 ≤ n.prot.phase) ∧
    (∀ ch, .pollTimerExpiry ch ∈ n.dueEvents ↔ ch ≤ 3 ∧ (n.config.channels.get ch).enable ≠ 0 ∧
      (n.config.channels.get ch).interval ≤ (n.sensor.channels.get ch).timer) ∧
    (∀ station, .entrySilent station ∈ n.dueEvents ↔
      ∃ e ∈ n.roster.others, e.station = station ∧ e.present = true ∧ 1000 ≤ e.age) := by
  refine ⟨?_, ?_, ?_, ?_, ?_, ?_, ?_, ?_, ?_, ?_, fun ch => ?_, fun station => ?_⟩
  all_goals rw [Node.mem_dueEvents_timer rfl, Node.mem_timersDue]
  · simp
  · simp
  · simp
  · simp [Node.stallable, Node.configured, and_assoc]
  · simp
  · simp
  · simp [Node.active]
  · simp [Node.voteDue_iff]
  · simp [Node.viewDue_iff]
  · simp
  · simp [Node.pollDue_iff, Nat.lt_succ_iff]
  · simp only [reduceCtorEq, and_false, exists_false, false_or, Instr.entrySilent.injEq]
    refine exists_congr fun e => and_congr_right fun _ => and_comm.trans ?_
    rw [eq_comm]

/-- What is due is of a timer or of the line. -/
theorem Node.dueEvents_kinds (n : Node) (c : Instr) (h : c ∈ n.dueEvents) :
    c ∈ n.lineDue ∨ c ∈ [.timeBaseMillisecond, .speedIntervalEnd, .derivedAdvance,
      .stall, .referenceAbsent, .joinTimerExpiry, .statusTimer, .voteTimeout, .proposalViewTimeout,
      .standstillSecond] ∨ (∃ ch, c = .pollTimerExpiry ch) ∨ ∃ station, c = .entrySilent station := by
  rcases List.mem_append.1 h with ht | hl
  · refine .inr ?_
    rw [Node.mem_timersDue] at ht
    rcases ht with ⟨-, rfl⟩ | ⟨-, rfl⟩ | ⟨-, rfl⟩ | ⟨-, rfl⟩ | ⟨-, rfl⟩ | ⟨-, rfl⟩ | ⟨-, rfl⟩ |
      ⟨-, rfl⟩ | ⟨-, rfl⟩ | ⟨-, rfl⟩ | ⟨ch, -, -, rfl⟩ | ⟨e, -, -, rfl⟩
    case inr.inr.inr.inr.inr.inr.inr.inr.inr.inr.inl => exact .inr (.inl ⟨ch, rfl⟩)
    case inr.inr.inr.inr.inr.inr.inr.inr.inr.inr.inr => exact .inr (.inr ⟨e.station, rfl⟩)
    all_goals exact .inl (by simp)
  · exact .inl hl

/-! #### The step without a command (logs 2, 4) -/

/-- Bit times in a millisecond (R135). -/
theorem bitsPerMs_eq (rate : Nat) : [125, 250, 500].getD rate 500 = bitsPerMs rate := by
  obtain _ | _ | _ | rate := rate <;> rfl

/-- One of the events that are due happens (log 4). -/
theorem step_due (s : State) (hp : s.pending = []) (hc : s.node.configured = true)
    (hd : s.node.dueEvents ≠ []) : ∃ c ∈ s.node.dueEvents,
      step s = exec c { s with node := s.node.takingDue s.node.dueEvents.length c } := by
  have hlt := s.node.choice_lt _ (List.length_pos_iff.2 hd)
  refine ⟨_, List.getElem_mem hlt, ?_⟩
  simp [step, State.idleStep, hp, hc, List.getElem?_eq_getElem hlt]

/-- An event that is due is taken with a turn spent and, of the time base, once (R171, log 4). -/
theorem Node.takingDue_eq (k : Nat) (c : Instr) (n : Node) : n.takingDue k c = { n with
    turns := (n.spend k).turns, baseDue := n.baseDue && decide (c ≠ .timeBaseMillisecond) } := by
  unfold Node.takingDue Node.spend
  split <;> rfl

/-- The vote timer alone counts a millisecond of an own proposal (R100). -/
theorem OwnProposal.tick_eq (o : OwnProposal) : o.tick = { o with
    phase := match o.phase with
      | .queued => .queued
      | .voting electorate assents timer => .voting electorate assents (min 300 (timer + 1)) } := by
  obtain ⟨_, _, _, phase⟩ := o
  cases phase <;> rfl

/-- The standstill timer's phase counts a millisecond while it runs (R107). -/
theorem Protection.tick_eq (p : Protection) :
    p.tick = { p with phase := if p.running then min 1000 (p.phase + 1) else p.phase } := by
  unfold Protection.tick
  split <;> rfl

/-- The Length Unit's timers at a millisecond (R6, R7, R10, R11). -/
theorem Node.tickLength_eq (n : Node) : n.tickLength = { n.len with
    stallTimer := min 65535 (n.len.stallTimer + 1)
    absenceTimer := if n.usableSpeed = none then min 2000 (n.len.absenceTimer + 1) else 0
    speedPhase := min 100 (n.len.speedPhase + 1)
    derivedPhase :=
      if n.len.source = .derived then min 10 (n.len.derivedPhase + 1) else n.len.derivedPhase } := by
  unfold Node.tickLength Node.lengthDerived
  cases n.usableSpeed <;> simp [addHold, Config.max16, Config.referenceAbsence,
    Config.speedInterval, Config.derivedPeriod]

/-- A channel's poll timer counts a millisecond while the channel is enabled (R158). -/
theorem Channel.tick_eq (h : ChannelConfig) (c : Channel) : c.tick h = { c with
    timer := if h.enable = 0 then c.timer else min h.interval (c.timer + 1) } := by
  unfold Channel.tick ChannelConfig.enabled
  by_cases he : h.enable = 0 <;> simp [he, addHold]

/-- At the end of a millisecond every timer's field counts it, and nothing else changes (R171). -/
theorem Node.tick_eq (n : Node) : n.tick = { n with
    baseDue := true
    len.stallTimer := min 65535 (n.len.stallTimer + 1)
    len.absenceTimer := if n.usableSpeed = none then min 2000 (n.len.absenceTimer + 1) else 0
    len.speedPhase := min 100 (n.len.speedPhase + 1)
    len.derivedPhase :=
      if n.len.source = .derived then min 10 (n.len.derivedPhase + 1) else n.len.derivedPhase
    bus := { n.bus with
      joinTimer := if n.bus.joinRunning then min 600 (n.bus.joinTimer + 1) else n.bus.joinTimer
      statusTimer :=
        if n.bus.statusRunning then min 250 (n.bus.statusTimer + 1) else n.bus.statusTimer
      tap := { n.bus.tap with phase := 0 } }
    line.own := n.line.own.map fun o => { o with
      phase := match o.phase with
        | .queued => .queued
        | .voting electorate assents timer => .voting electorate assents (min 300 (timer + 1)) }
    line.proposalView := n.line.proposalView.map fun v => { v with timer := min 500 (v.timer + 1) }
    prot.phase := if n.prot.running then min 1000 (n.prot.phase + 1) else n.prot.phase
    roster.others := n.roster.others.map fun e => { e with age := min 65535 (e.age + 1) }
    sensor.channels := n.tick.sensor.channels } := by
  have hown : n.line.own.map OwnProposal.tick = n.line.own.map fun o => { o with
      phase := match o.phase with
        | .queued => .queued
        | .voting electorate assents timer => .voting electorate assents (min 300 (timer + 1)) } :=
    congrArg (n.line.own.map ·) (funext OwnProposal.tick_eq)
  unfold Node.tick LineState.tick
  rw [hown, Protection.tick_eq, Node.tickLength_eq]
  rfl

/-- The line at the first of its events, or at the end of the millisecond that runs. -/
def Node.passedBus (n : Node) : LineBus :=
  n.bus.bitTimes n.receiving n.waitingGap (bitsPerMs n.config.bitRate - n.bus.tap.phase)

/-- The line's bit times leave the timers of participation (R135, R145, R147). -/
theorem Node.passedBus_timers (n : Node) :
    n.passedBus.joinTimer = n.bus.joinTimer ∧ n.passedBus.joinRunning = n.bus.joinRunning ∧
    n.passedBus.statusTimer = n.bus.statusTimer ∧
    n.passedBus.statusRunning = n.bus.statusRunning := by
  unfold Node.passedBus
  rw [LineBus.bitTimes_frame]
  exact ⟨rfl, rfl, rfl, rfl⟩

/-- Time that passes to within the millisecond is bit times of the line alone. -/
theorem Node.pass_within (n : Node) (h : n.passedBus.tap.phase < bitsPerMs n.config.bitRate) :
    n.pass = { n with bus := n.passedBus } :=
  if_neg (Nat.not_le.2 h)

/-- At the end of the millisecond the timers count it. -/
theorem Node.pass_over (n : Node) (h : bitsPerMs n.config.bitRate ≤ n.passedBus.tap.phase) :
    n.pass = Node.tick { n with bus := n.passedBus } :=
  if_pos h

/-- Settles O3: each case of the step without a command, and what is due by membership. -/
theorem emptyQueueLetsTimePass : Obligations.EmptyQueueLetsTimePass := by
  intro s hp
  dsimp only
  rw [bitsPerMs_eq]
  refine ⟨fun hu => step_unconfigured s hp (s.node.configured_eq_false.2 hu), fun hu hd => ?_,
    fun hu hd hlt => ?_, fun hu hd hle => ?_, ?_⟩
  · obtain ⟨c, hc, hstep⟩ := step_due s hp (s.node.configured_eq_true.2 hu) hd
    refine ⟨c, hc, (s.node.spend s.node.dueEvents.length).turns, hstep.trans ?_⟩
    rw [Node.takingDue_eq]
  · rw [step_passes s hp (s.node.configured_eq_true.2 hu) hd, Node.pass_within _ hlt]
    rfl
  · refine ⟨_, step_passes s hp (s.node.configured_eq_true.2 hu) hd, hp, ?_, fun ch => ?_⟩
    · obtain ⟨hj, hjr, hs, hsr⟩ := s.node.passedBus_timers
      rw [Node.pass_over _ hle, ← hj, ← hjr, ← hs, ← hsr]
      exact Node.tick_eq _
    · rw [Node.pass_over _ hle, ← Channel.tick_eq]
      exact Quad.get_zip _ _ _ _
  · obtain ⟨h1, h2, h3, h4, h5, h6, h7, h8, h9, h10, h11, h12⟩ := s.node.dueEvents_iff
    exact ⟨h1, h2, h3, h4, h5, h6, h7, h8, h9, h10, h11, h12, s.node.dueEvents_kinds,
      fun c hc => List.mem_append_right _ hc⟩

end Sys2Proof.Machine

/-! ### RESTART (R179) and what START and RESTART begin with (R63, R109, R115, R122, R157, R168) -/

namespace Sys2Proof.Machine

/-- The blocks at their starting values, before choices, lines and the first poll are made (R63, R109,
R122, R157). -/
structure Node.Begun (n : Node) : Prop where
  joining : n.bus.participation = .joining
  handover : n.handover = Handover.initial n.config.entryGap
  roster : n.roster = Roster.initial
  prot : n.prot = Protection.initial true n.prot.wired
  sensor : n.sensor = SensorPort.initial (n.config.channels.map fun c => Channel.initial c.enabled)

/-! #### The choices (R68, R122, R129, R131) -/

/-- With no entry a FORCED neighbour alone can be chosen (R129). -/
theorem Node.Begun.chooseUpstream {n : Node} (h : n.Begun) : n.chooseUpstream =
    if n.isOrigin = false ∧ n.config.neighbourMode = 1 then some n.config.forcedNeighbour
    else none := by
  unfold Node.chooseUpstream
  rw [h.joining, h.roster]
  cases n.isOrigin <;> simp [Roster.initial, nearestUpstream]

/-- With no entry no speed is usable (R10). -/
theorem Node.usableSpeed_alone (n : Node) (h : n.roster.others = []) : n.usableSpeed = none := by
  rw [Node.usableSpeed_eq_none]
  intro st _
  refine .inr fun e he => ?_
  simp [Roster.entry?, h] at he

/-- With no entry none lies between a chosen station and this one (R68). -/
theorem Node.between_alone (chosen : Option Nat) (n : Node) (h : n.roster.others = []) :
    n.between chosen = [] := by
  unfold Node.between
  cases chosen with
  | none => rfl
  | some st => simp [Roster.entry?, h]

/-- With no entry a chosen neighbour is taken with the entry gap in force (R68). -/
theorem Node.takeNeighbour_alone (chosen : Option Nat) (n : Node) (h : n.roster.others = []) :
    n.takeNeighbour chosen = { n with
      handover.neighbour := chosen
      handover.gap := n.config.entryGap
      handover.allowance := 0
      handover.bridging := false } := by
  unfold Node.takeNeighbour Node.addedLength
  rw [n.between_alone chosen h]
  rfl

/-- The choice of upstream neighbour made with no entry: the gap in force stays the entry gap (R68). -/
theorem Node.Begun.remakeUpstream {n : Node} (h : n.Begun) : n.remakeUpstream = { n with
    roster.upstream := n.chooseUpstream
    handover.neighbour := n.chooseUpstream
    port.notices := n.remakeUpstream.port.notices } := by
  unfold Node.remakeUpstream
  split_ifs with hc
  · have hn : n.chooseUpstream = n.handover.neighbour := by rw [hc, h.roster, h.handover]; rfl
    calc n = { n with
          roster.upstream := n.roster.upstream, handover.neighbour := n.handover.neighbour } := rfl
      _ = _ := by rw [← hn, ← hc]
  · have hnone : ({ n with roster.upstream := n.chooseUpstream } : Node).roster.others = [] :=
      congrArg Roster.others h.roster
    rw [Node.takeNeighbour_alone _ _ hnone]
    simp only [Node.notice, h.handover]
    rfl

/-- The choices made with no entry: the gap in force stays the entry gap (R68). -/
theorem Node.Begun.remakeChoices {n : Node} (h : n.Begun) : n.remakeChoices = { n with
    roster.upstream := n.chooseUpstream
    roster.reference := n.chooseReference
    handover.neighbour := n.chooseUpstream
    port.notices := n.remakeChoices.port.notices } := by
  have hup : n.remakeUpstream = { n with
      roster.upstream := n.chooseUpstream
      handover.neighbour := n.chooseUpstream
      port.notices := n.remakeUpstream.port.notices } := h.remakeUpstream
  have href : n.remakeUpstream.chooseReference = n.chooseReference := by
    rw [hup]
    rfl
  have hsame : n.remakeChoices =
      { n.remakeUpstream with roster.reference := n.remakeUpstream.chooseReference } := by
    have hnone := Node.usableSpeed_alone
      { n.remakeUpstream with roster.reference := n.remakeUpstream.chooseReference }
      (by rw [hup, h.roster]; rfl)
    unfold Node.remakeChoices Node.remakeReference Node.refreshReference
    rw [hnone]
  rw [hsame, href, hup]

/-! #### The first poll (R157, R158) -/

/-- A poll begun touches the Sensor Port alone (R158). -/
@[simp] theorem Node.beginPoll_frame (n : Node) :
    n.beginPoll.config = n.config ∧ n.beginPoll.len = n.len ∧ n.beginPoll.window = n.window ∧
    n.beginPoll.marks = n.marks ∧ n.beginPoll.handover = n.handover ∧ n.beginPoll.line = n.line ∧
    n.beginPoll.prot = n.prot ∧ n.beginPoll.roster = n.roster ∧ n.beginPoll.bus = n.bus ∧
    n.beginPoll.counters = n.counters ∧ n.beginPoll.port = n.port ∧
    n.beginPoll.faults = n.faults := by
  unfold Node.beginPoll
  split
  · split <;> simp
  · simp

/-- The Sensor Port begun: every channel at its starting values, due where it is enabled (R157). -/
def Node.sensorFresh (n : Node) : Prop :=
  n.sensor = SensorPort.initial (n.config.channels.map fun c => Channel.initial c.enabled)

theorem ChannelConfig.enabled_iff (c : ChannelConfig) : c.enabled = true ↔ c.enable ≠ 0 := by
  simp [ChannelConfig.enabled]

theorem Node.sensorFresh.get {n : Node} (h : n.sensorFresh) (ch : Nat) :
    n.sensor.channels.get ch = Channel.initial (n.config.channels.get ch).enabled := by
  rw [h]
  exact Quad.get_map _ _ _

/-- A channel is due where it is enabled (R157). -/
theorem Node.sensorFresh.due_iff {n : Node} (h : n.sensorFresh) (ch : Nat) :
    (n.sensor.channels.get ch).due = true ↔ (n.config.channels.get ch).enable ≠ 0 := by
  rw [h.get]
  exact ChannelConfig.enabled_iff _

/-- No channel is due where none is enabled. -/
theorem Node.sensorFresh.noneEnabled {n : Node} (h : n.sensorFresh)
    (hfirst : n.sensor.firstDue = none) (ch : Nat) (hch : ch ≤ 3) :
    ¬(n.config.channels.get ch).enable ≠ 0 := by
  rw [← h.due_iff]
  exact List.find?_eq_none.1 hfirst ch (List.mem_range.2 (by omega))

/-- The first channel due is the lowest enabled one (R158). -/
theorem Node.sensorFresh.lowestEnabled {n : Node} (h : n.sensorFresh) {i : Nat}
    (hfirst : n.sensor.firstDue = some i) : i ≤ 3 ∧ (n.config.channels.get i).enable ≠ 0 ∧
    ∀ j < i, ¬(n.config.channels.get j).enable ≠ 0 := by
  obtain ⟨hi, hrange, hbefore⟩ := List.find?_range_eq_some.1 hfirst
  refine ⟨Nat.lt_succ_iff.1 (List.mem_range.1 hrange), (h.due_iff i).1 hi, fun j hj => ?_⟩
  rw [← h.due_iff]
  simpa using hbefore j hj

/-- The first poll, of the lowest enabled channel (R157, R158). -/
theorem Node.beginPoll_sensorsBegun (n : Node) (h : n.sensorFresh) : n.beginPoll.sensorsBegun := by
  have hidle : n.sensor.mode = .auto ∧ n.sensor.request = none ∧ n.sensor.transaction = none := by
    rw [h]
    exact ⟨rfl, rfl, rfl⟩
  have hbuffers : n.sensor.outBuffer = [] ∧ n.sensor.reply = none := by
    rw [h]
    exact ⟨rfl, rfl⟩
  have hdisabled : ∀ ch, ¬(n.config.channels.get ch).enable ≠ 0 →
      (n.config.channels.get ch).enabled = false := fun ch hno =>
    Bool.eq_false_iff.2 (mt (ChannelConfig.enabled_iff _).1 hno)
  unfold Node.beginPoll
  rw [if_pos hidle]
  cases hfirst : n.sensor.firstDue with
  | none =>
    have hoff := h.noneEnabled hfirst
    exact ⟨hidle.1, hidle.2.1, hbuffers.1, hbuffers.2,
      fun ch _ hno => (h.get ch).trans (by rw [hdisabled ch hno]),
      fun ch hch hon => absurd hon (hoff ch hch), fun ch hch hon => absurd hon (hoff ch hch),
      fun _ => hidle.2.2⟩
  | some i =>
    obtain ⟨hi, hon, hoff⟩ := h.lowestEnabled hfirst
    have hset : ∀ ch ≤ 3, (n.sensor.channels.set i { n.sensor.channels.get i with due := false }).get ch =
        if ch = i then Channel.initial false else Channel.initial (n.config.channels.get ch).enabled := by
      intro ch hch
      rw [Quad.get_set _ _ _ _ hi hch, h.get, h.get]
      rfl
    refine ⟨hidle.1, hidle.2.1, hbuffers.1, hbuffers.2, fun ch hch hno => ?_,
      fun ch hch hch' hearlier => ?_, fun ch hch hch' hlowest => ?_, fun hall => absurd hon (hall i hi)⟩
    · have hne : ch ≠ i := fun he => hno (he ▸ hon)
      exact (hset ch hch).trans (by rw [if_neg hne, hdisabled ch hno])
    · obtain ⟨j, hj, hjon⟩ := hearlier
      have hne : ch ≠ i := fun he => hoff j (he ▸ hj) hjon
      exact (hset ch hch).trans (by rw [if_neg hne, (ChannelConfig.enabled_iff _).2 hch'])
    · have hfound : ch = i := by
        rcases Nat.lt_trichotomy ch i with hlt | heq | hgt
        · exact absurd hch' (hoff ch hlt)
        · exact heq
        · exact absurd hon (hlowest i hgt)
      subst hfound
      exact ⟨(hset ch hch).trans (if_pos rfl), rfl⟩

/-! #### The lines and the last conditions (R115, R119, R168) -/

theorem Node.evalLine_congr {m n : Node} (hv : m.line.view = n.line.view)
    (hc : ∀ a, m.lineCondition a = n.lineCondition a) (a : ActionConfig) (l : ActionLine) :
    m.evalLine a l = n.evalLine a l := by
  simp only [Node.evalLine, hc, hv]

/-- The last conditions taken again touch the counters' cells alone (R168). -/
@[simp] theorem Node.retakeConditions_frame (n : Node) :
    n.retakeConditions.config = n.config ∧ n.retakeConditions.len = n.len ∧
    n.retakeConditions.window = n.window ∧ n.retakeConditions.marks = n.marks ∧
    n.retakeConditions.handover = n.handover ∧ n.retakeConditions.line = n.line ∧
    n.retakeConditions.prot = n.prot ∧ n.retakeConditions.roster = n.roster ∧
    n.retakeConditions.bus = n.bus ∧ n.retakeConditions.sensor = n.sensor ∧
    n.retakeConditions.counters.frozen = n.counters.frozen ∧ n.retakeConditions.port = n.port ∧
    n.retakeConditions.faults = n.faults := by
  simp [Node.retakeConditions]

/-- The last conditions taken again leave values, overflow flags and selections (R168). -/
theorem Node.retakeConditions_cell (n : Node) (i : Nat) :
    (n.retakeConditions.counters.cells.get i).value = (n.counters.cells.get i).value ∧
    (n.retakeConditions.counters.cells.get i).overflow = (n.counters.cells.get i).overflow ∧
    (n.retakeConditions.counters.cells.get i).sameSelection (n.counters.cells.get i) := by
  simp only [Node.retakeConditions, Quad.get_map, Counter.sameSelection_iff]
  split <;> simp

/-! #### The blocks once they have settled -/

/-- What the blocks settled at START and RESTART leave of those begun (R115, R119, R122, R157, R168). -/
theorem Node.Begun.settled_frame {n : Node} (h : n.Begun) :
    n.settled.config = n.config ∧ n.settled.len = n.len ∧ n.settled.window = n.window ∧
    n.settled.marks = n.marks ∧ n.settled.line = n.line ∧ n.settled.bus = n.bus ∧
    n.settled.faults = n.faults ∧ n.settled.counters.frozen = n.counters.frozen ∧
    n.settled.port.response = n.port.response ∧ n.settled.port.mask = n.port.mask ∧
    n.settled.port.held = n.port.held ∧ n.settled.prot.wired = n.prot.wired ∧
    n.settled.roster = { n.roster with
      upstream := n.chooseUpstream, reference := n.chooseReference } ∧
    n.settled.handover = { n.handover with neighbour := n.chooseUpstream } := by
  unfold Node.settled
  simp only [Node.beginPoll_frame, Node.retakeConditions_frame, Node.evalLines_frame]
  rw [h.remakeChoices]
  simp only [and_self]

/-- Values, overflow flags and selections stand where the blocks settle (R168). -/
theorem Node.Begun.settled_cell {n : Node} (h : n.Begun) (i : Nat) :
    (n.settled.counters.cells.get i).value = (n.counters.cells.get i).value ∧
    (n.settled.counters.cells.get i).overflow = (n.counters.cells.get i).overflow ∧
    (n.settled.counters.cells.get i).sameSelection (n.counters.cells.get i) := by
  have hcounters : n.remakeChoices.evalLines.counters = n.counters := by
    simp only [Node.evalLines_frame]
    rw [h.remakeChoices]
  have hcell := n.remakeChoices.evalLines.retakeConditions_cell i
  rw [hcounters] at hcell
  simpa only [Node.settled, Node.beginPoll_frame] using hcell

/-- The Sensor Port polls once the blocks have settled (R157, R158). -/
theorem Node.Begun.settled_sensors {n : Node} (h : n.Begun) : n.settled.sensorsBegun := by
  refine Node.beginPoll_sensorsBegun _ ?_
  unfold Node.sensorFresh
  simp only [Node.retakeConditions_frame, Node.evalLines_frame]
  rw [h.remakeChoices]
  exact h.sensor

/-- The Handover Engine once the blocks have settled: a FORCED neighbour is in force (R63, R68). -/
theorem Node.Begun.settled_handover {n : Node} (h : n.Begun) : n.settled.handoverBegun := by
  obtain ⟨hc, -, -, -, -, -, -, -, -, -, -, -, -, hh⟩ := h.settled_frame
  have horigin : n.settled.isOrigin = n.isOrigin := by rw [Node.isOrigin, hc]; rfl
  unfold Node.handoverBegun
  rw [hh, horigin, hc, h.chooseUpstream, h.handover]
  rfl

/-- Every line is evaluated from a clear latch (R115, R119). -/
theorem Node.Begun.settled_protection {n : Node} (h : n.Begun) : n.settled.protectionBegun := by
  have hm : n.remakeChoices.prot = Protection.initial true n.prot.wired := by
    rw [h.remakeChoices]
    exact h.prot
  have hprot : n.settled.prot = n.remakeChoices.evalLines.prot := by
    simp only [Node.settled, Node.beginPoll_frame, Node.retakeConditions_frame]
  have hlines : n.settled.prot.lines = n.remakeChoices.config.lines.zip n.remakeChoices.evalLine
      (Quad.same { latch := false, asserted := false }) := by
    rw [hprot, Node.evalLines, hm]
    rfl
  have hcond : ∀ a, n.settled.lineCondition a = n.remakeChoices.lineCondition a := fun a =>
    (Node.lineCondition_of_followers (Node.beginPoll_followers _) a).trans
      (Node.lineCondition_congr a (by simp) (by simp) (by simp) (by simp) (by simp) (by simp) (by simp))
  have heval : ∀ a l, n.settled.evalLine a l = n.remakeChoices.evalLine a l :=
    Node.evalLine_congr (by simp [Node.settled]) hcond
  have hconf : n.settled.config = n.remakeChoices.config := by simp [Node.settled]
  refine ⟨?_, ?_, ?_, ?_, fun i _ => ?_⟩
  · simp [hprot, hm, Protection.initial]
  · simp [hprot, hm, Protection.initial]
  · simp [hprot, hm, Protection.initial]
  · simp [hprot, hm, Protection.initial]
  · rw [hlines, heval, hconf, Quad.get_zip]
    unfold Quad.same Quad.get
    split <;> rfl

/-! #### RESTART (R179) -/

/-- RESTART begins every block (R179). -/
theorem Node.cleared_begun (n : Node) : n.cleared.Begun := ⟨rfl, rfl, rfl, rfl, rfl⟩

/-- The line as RESTART follows it on (R135, log 39). -/
theorem LineTap.undriven_eq (driving : Bool) (t : LineTap) : t.undriven driving = { t with
    recessive := if driving = true ∧ t.driven = 0 then 0 else t.recessive
    heard := if driving then [] else t.heard
    driven := 0
    clash := false } := by
  simp only [LineTap.undriven, Bool.and_eq_true, decide_eq_true_eq]

/-- The answer to RESTART, and the one notice it leaves (R154, R179). -/
theorem Node.done_onlyParticipation (n : Node) : Node.done [] n.onlyParticipation = { n with
    port.response := some (responseBytes Result.done 0 [])
    port.notices := 1#16 <<< Notice.participationChanged } := rfl

/-- RESTART from START onward: the blocks settled, PARTICIPATION_CHANGED the one notice, DONE (R179). -/
theorem Node.restart_eq (n : Node) (hc : n.configured = true) : n.restart =
    { n.cleared.settled with
      port.response := some (responseBytes Result.done 0 [])
      port.notices := 1#16 <<< Notice.participationChanged } := by
  rw [Node.restart, if_pos hc, Node.done_onlyParticipation]

/-- Settles O17: the blocks as RESTART begins them, then settled. -/
theorem restartClearsThePart : Obligations.RestartClearsThePart := by
  intro s hu
  have hc := s.node.configured_eq_true.2 hu
  have hb := s.node.cleared_begun
  have hframe := hb.settled_frame
  have hcell := hb.settled_cell
  have hsensors := hb.settled_sensors
  have hhandover := hb.settled_handover
  have hprotection := hb.settled_protection
  have hfollow := (s.node.cleared.settled_follows rfl).2
  have hexec : exec (.restart []) s = .next { s with node := s.node.restart } :=
    State.act_eq (Node.request_taken (len := 0) _ (s.node.inReset_configured hc) rfl)
  rw [Node.restart_eq _ hc] at hexec
  refine ⟨_, hexec, rfl, ?_⟩
  dsimp only
  generalize s.node.cleared.settled = m at hframe hcell hsensors hhandover hprotection hfollow ⊢
  obtain ⟨hconf, hlen, hwin, hmarks, hline, hbus, hfaults, hfrozen, -, hmask, hheld, hwired, hroster,
    hhand⟩ := hframe
  refine ⟨hconf, ?_, ?_, hwin, hmarks, hline, hprotection, hwired, ?_, ?_, ?_, hhandover, hsensors, ?_,
    hfrozen, ?_, hfaults, ?_⟩
  · rw [hbus]
    exact congrArg (LineBus.initial .joining true) (LineTap.undriven_eq _ _)
  · rw [hlen]
    exact ⟨rfl, rfl, rfl, rfl, rfl, rfl, rfl, rfl, rfl, rfl, rfl, rfl, rfl, rfl, rfl⟩
  · rw [hroster]
    rfl
  · rw [hroster]
    rfl
  · rw [hroster, hhand]
  · exact Node.countersFollow_of_followers (n := m) rfl hfollow
  · intro i
    obtain ⟨hvalue, hover, hsel⟩ := hcell i
    have hzero : s.node.cleared.counters.cells.get i = (s.node.counters.cells.get i).zeroed :=
      Quad.get_map _ _ _
    rw [hzero] at hvalue hover hsel
    exact ⟨hvalue, hover, hsel⟩
  · rw [hmask, hheld]
    rfl

end Sys2Proof.Machine

/-! ### READ_STATUS (Table 8-11) -/

namespace Sys2Proof.Machine

/-! #### Flags and groups of four -/

/-- A flag alone in its byte. -/
theorem bit_eq (a : Bool) : bit a = if a then 2 ^ 0 else 0 := by cases a <;> rfl

/-- The flags of a byte stand at their places, the first lowest (Table 8-11). -/
theorem packBits_two (a b : Bool) :
    packBits [a, b] = (if a then 2 ^ 0 else 0) + (if b then 2 ^ 1 else 0) := by
  cases a <;> cases b <;> rfl

theorem packBits_four (a b c d : Bool) : packBits [a, b, c, d] =
    (if a then 2 ^ 0 else 0) + (if b then 2 ^ 1 else 0) + (if c then 2 ^ 2 else 0) +
    (if d then 2 ^ 3 else 0) := by
  decide +revert

theorem packBits_six (a b c d e f : Bool) : packBits [a, b, c, d, e, f] =
    (if a then 2 ^ 0 else 0) + (if b then 2 ^ 1 else 0) + (if c then 2 ^ 2 else 0) +
    (if d then 2 ^ 3 else 0) + (if e then 2 ^ 4 else 0) + (if f then 2 ^ 5 else 0) := by
  decide +revert

/-- The images of four numbered things, one after the other. -/
theorem flatMap_range_four {α : Type} (f : Nat → List α) :
    (List.range 4).flatMap f = f 0 ++ f 1 ++ f 2 ++ f 3 := by
  simp [List.range_succ]

/-- Whether one of four numbered pairs has a property. -/
theorem Quad.any_zip {α β : Type} (f : α → β → Bool) (q : Quad α) (r : Quad β) :
    (q.zip f r).toList.any id = (f (q.get 0) (r.get 0) || f (q.get 1) (r.get 1) ||
      f (q.get 2) (r.get 2) || f (q.get 3) (r.get 3)) := by
  simp [Quad.zip, Quad.toList, Quad.get, Bool.or_assoc]

theorem Node.fill_length (n : Node) (i k : Nat) : (n.fill i k).length = k := by
  simp [Node.fill]

/-! #### The parts of the groups -/

/-- An open mark: its countdown is a number or one of two codes (Table 8-11). -/
theorem SpanMark.bytes_eq (m : SpanMark) : m.bytes = be 1 m.kind.code ++ be 2 m.id ++
    be 4 (match m.countdown with
      | .held => 4294967295 | .noCountdown => 4294967294 | .running mm => mm) ++
    be 4 m.opening ++ be 3 m.frontier := by
  unfold SpanMark.bytes
  cases m.countdown <;> rfl

/-- The level of a driven pin by the polarity of its line (R115). -/
theorem Node.pinHigh_eq (n : Node) (i : Nat) : n.pinHigh i =
    if n.prot.driven then
      (if (n.config.lines.get i).polarity = 0 then (n.prot.lines.get i).asserted
        else !(n.prot.lines.get i).asserted)
    else n.prot.wired.get i := by
  unfold Node.pinHigh
  by_cases hp : (n.config.lines.get i).polarity = 0 <;> simp [hp]

/-- The byte of an action line (R115, R120). -/
theorem Node.lineByte_eq (n : Node) (i : Nat) : n.lineByte i = be 1
    ((if n.prot.driven && n.lineCondition (n.config.lines.get i) then 2 ^ 0 else 0) +
      (if (n.prot.lines.get i).latch then 2 ^ 1 else 0) +
      (if (n.prot.lines.get i).asserted then 2 ^ 2 else 0) +
      (if (if n.prot.driven then
          (if (n.config.lines.get i).polarity = 0 then (n.prot.lines.get i).asserted
            else !(n.prot.lines.get i).asserted)
        else n.prot.wired.get i) then 2 ^ 3 else 0)) := by
  rw [Node.lineByte, packBits_four, Node.pinHigh_eq]

/-- The transaction byte: the kind in bit 6, in progress in bit 7 (Table 9-4). -/
theorem Node.transactionByte_eq (n : Node) : n.transactionByte = match n.sensor.transaction with
    | none => (n.fill 6 1).map fun b => b &&& 3#8
    | some t => be 1 (128 + (if t.manual then 2 ^ 6 else 0) + t.select) := by
  unfold Node.transactionByte
  cases n.sensor.transaction with
  | none => rfl
  | some t =>
    obtain ⟨manual⟩ := t
    cases manual <;> rfl

/-- The last own outcome (R103). -/
theorem Node.outcomeBytes_eq (n : Node) : n.outcomeBytes = match n.line.lastOutcome with
    | none => be 1 0 ++ n.fill 4 5
    | some { id := i, outcome := .enacted fate } => be 1 1 ++ idBytes i ++ n.fill 4 2 ++
        be 1 (match fate with | .pending => 0 | .sent => 1 | .lost => 2)
    | some { id := i, outcome := .denied reason sender } =>
      be 1 2 ++ idBytes i ++ be 1 reason.code ++ be 1 sender ++ n.fill 4 1
    | some { id := i, outcome := .timedOut } => be 1 3 ++ idBytes i ++ n.fill 4 3
    | some { id := i, outcome := .abandoned } => be 1 4 ++ idBytes i ++ n.fill 4 3 := by
  unfold Node.outcomeBytes
  cases n.line.lastOutcome with
  | none => rfl
  | some o =>
    obtain ⟨i, out⟩ := o
    cases out <;> rfl

/-- The own proposal (R106). -/
theorem Node.proposalBytes_eq (n : Node) : n.proposalBytes = match n.line.own with
    | none => be 1 0 ++ n.fill 2 15
    | some { id := i, base := b, target := v, phase := .queued } =>
      be 1 1 ++ idBytes i ++ be 2 b ++ be 1 v.code ++ n.fill 2 10
    | some { id := i, base := b, target := v, phase := .voting electorate assents timer } =>
      be 1 2 ++ idBytes i ++ be 2 b ++ be 1 v.code ++ be 4 (stationMask electorate) ++
        be 4 (stationMask assents) ++ be 2 timer := by
  unfold Node.proposalBytes
  cases n.line.own with
  | none => rfl
  | some o =>
    obtain ⟨i, b, v, phase⟩ := o
    cases phase <;> rfl

/-- Settles O19: group by group, each as the model lays it out, its flags at their places. -/
theorem statusIsLaidOut : Obligations.StatusIsLaidOut := by
  intro n flag group id stations queued participation length window marks handover announcement own
    enact outcome view line started reached holding lineByte protection choices failing channel sensor
  have hparticipation : n.participationGroup = participation := by
    rw [Node.participationGroup, flatMap_range_four, bit_eq]
    rfl
  have hlength : n.lengthGroup = length := by
    rw [Node.lengthGroup, packBits_four]
    rfl
  have hmarks : n.marksGroup = marks :=
    congrArg (fun image => be 2 n.marks.beamSet ++ be 1 n.marks.table.length ++
      n.marks.table.flatMap image) (funext SpanMark.bytes_eq)
  have hhandover : n.handoverGroup = handover := by
    rw [Node.handoverGroup, bit_eq]
    rfl
  have hown : n.proposalBytes = own := n.proposalBytes_eq
  have houtcome : n.outcomeBytes = outcome := n.outcomeBytes_eq
  have hline : n.lineGroup = line := by
    rw [Node.lineGroup, packBits_two, hown, houtcome]
    rfl
  have hprotection : n.protectionGroup = protection := by
    rw [Node.protectionGroup, packBits_four, flatMap_range_four, Node.actionHolds, Quad.any_zip]
    simp only [Node.lineByte_eq]
    rfl
  have hchannel : ∀ i, n.channelBytes i = channel i := fun i => by
    rw [Node.channelBytes, packBits_six]
    rfl
  have hsensor : n.sensorGroup = sensor := by
    rw [Node.sensorGroup, packBits_two, flatMap_range_four, Node.requiredFailed, Quad.any_zip,
      Node.transactionByte_eq, hchannel, hchannel, hchannel, hchannel]
    rfl
  refine ⟨n.fill_length, ?_⟩
  rw [Node.statusData, hparticipation, hlength, hmarks, hhandover, hline, hprotection, hsensor]
  rfl

end Sys2Proof.Machine

/-! ### What every step keeps of the window and of the collections (R24, R28, R48, R72, R82, R121, R139) -/

namespace Sys2Proof.Machine

/-! #### The relation, and the updates that touch neither -/

/-- Every collection is within its capacity; unlike `Node.withinCapacity` it says nothing of the faults
that wait, which come and go while a command runs. -/
structure Node.Sized (n : Node) : Prop where
  window : n.window.count ≤ Config.windowCapacity
  marks : n.marks.table.length ≤ Config.markCapacity
  arrivals : n.handover.arrivals.length ≤ Config.arrivalCapacity
  log : n.handover.log.length ≤ Config.logCapacity
  queue : n.bus.queue.length ≤ Config.outboundCapacity
  others : n.roster.others.length ≤ Config.otherEntries
  counts : n.faults.counts.length = 25

/-- The collections of a node, and the tracking length, at which the window's chain ends. -/
structure Shape where
  tracking : Nat
  window : Window
  marks : List SpanMark
  arrivals : List Arrival
  log : List LogEntry
  queue : List QueuedFrame
  others : List RosterEntry
  counts : Nat

/-- The reading of a node on which its capacities and its chain depend. -/
def Node.shape (n : Node) : Shape :=
  { tracking := n.len.tracking, window := n.window, marks := n.marks.table
    arrivals := n.handover.arrivals, log := n.handover.log, queue := n.bus.queue
    others := n.roster.others, counts := n.faults.counts.length }

/-- What `n` keeps within its capacity `m` keeps so, and the window of `m` is one chain where that of `n`
is. -/
structure Node.ShapedOn (m n : Node) : Prop where
  sized : n.Sized → m.Sized
  chained : n.windowChained → m.windowChained

theorem Node.ShapedOn.refl (n : Node) : n.ShapedOn n := ⟨id, id⟩

theorem Node.ShapedOn.trans {l m n : Node} (h : l.ShapedOn m) (k : m.ShapedOn n) : l.ShapedOn n :=
  ⟨h.sized ∘ k.sized, h.chained ∘ k.chained⟩

/-- The chain is a matter of the window and of the tracking length, which may grow. -/
theorem Node.windowChained_of_window {m n : Node} (hw : m.window = n.window)
    (ht : n.len.tracking ≤ m.len.tracking) (h : n.windowChained) : m.windowChained := by
  unfold Node.windowChained at h ⊢
  rw [hw]
  cases he : n.window.entering with
  | none => simpa [he] using h
  | some e =>
    rw [he] at h
    exact ⟨h.1.trans ht, h.2⟩

/-- An update that leaves every collection. -/
theorem Node.shapedOn_of_shape {m n : Node} (h : m.shape = n.shape) : m.ShapedOn n := by
  simp only [Node.shape, Shape.mk.injEq] at h
  obtain ⟨ht, hw, hm, ha, hl, hq, ho, hc⟩ := h
  refine ⟨fun ⟨sw, sm, sa, sl, sq, so, sc⟩ => ?_, Node.windowChained_of_window hw ht.ge⟩
  rw [← hw] at sw; rw [← hm] at sm; rw [← ha] at sa; rw [← hl] at sl; rw [← hq] at sq
  rw [← ho] at so; rw [← hc] at sc
  exact ⟨sw, sm, sa, sl, sq, so, sc⟩

/-- An update that leaves every collection of what is kept. -/
theorem Node.ShapedOn.reshape {l m n : Node} (h : m.ShapedOn n) (hs : l.shape = m.shape) :
    l.ShapedOn n := (Node.shapedOn_of_shape hs).trans h

/-- An update of the window alone. -/
theorem Node.shapedOn_window {m n : Node} (h : m.shape = { n.shape with window := m.window })
    (hcount : n.window.count ≤ Config.windowCapacity → m.window.count ≤ Config.windowCapacity)
    (hchain : n.windowChained → m.windowChained) : m.ShapedOn n := by
  simp only [Node.shape, Shape.mk.injEq, true_and] at h
  obtain ⟨-, hm, ha, hl, hq, ho, hc⟩ := h
  refine ⟨fun ⟨sw, sm, sa, sl, sq, so, sc⟩ => ?_, hchain⟩
  rw [← hm] at sm; rw [← ha] at sa; rw [← hl] at sl; rw [← hq] at sq
  rw [← ho] at so; rw [← hc] at sc
  exact ⟨hcount sw, sm, sa, sl, sq, so, sc⟩

/-- An update of the open marks alone. -/
theorem Node.shapedOn_marks {m n : Node} (h : m.shape = { n.shape with marks := m.marks.table })
    (hm : n.marks.table.length ≤ Config.markCapacity → m.marks.table.length ≤ Config.markCapacity) :
    m.ShapedOn n := by
  simp only [Node.shape, Shape.mk.injEq, true_and] at h
  obtain ⟨ht, hw, ha, hl, hq, ho, hc⟩ := h
  refine ⟨fun ⟨sw, sm, sa, sl, sq, so, sc⟩ => ?_, Node.windowChained_of_window hw ht.ge⟩
  rw [← hw] at sw; rw [← ha] at sa; rw [← hl] at sl; rw [← hq] at sq; rw [← ho] at so
  rw [← hc] at sc
  exact ⟨sw, hm sm, sa, sl, sq, so, sc⟩

/-- An update of the arrivals and the beam log alone. -/
theorem Node.shapedOn_handover {m n : Node}
    (h : m.shape = { n.shape with arrivals := m.handover.arrivals, log := m.handover.log })
    (ha : n.handover.arrivals.length ≤ Config.arrivalCapacity →
      m.handover.arrivals.length ≤ Config.arrivalCapacity)
    (hl : n.handover.log.length ≤ Config.logCapacity → m.handover.log.length ≤ Config.logCapacity) :
    m.ShapedOn n := by
  simp only [Node.shape, Shape.mk.injEq, true_and] at h
  obtain ⟨ht, hw, hm, hq, ho, hc⟩ := h
  refine ⟨fun ⟨sw, sm, sa, sl, sq, so, sc⟩ => ?_, Node.windowChained_of_window hw ht.ge⟩
  rw [← hw] at sw; rw [← hm] at sm; rw [← hq] at sq; rw [← ho] at so; rw [← hc] at sc
  exact ⟨sw, sm, ha sa, hl sl, sq, so, sc⟩

/-- An update of the queue alone. -/
theorem Node.shapedOn_queue {m n : Node} (h : m.shape = { n.shape with queue := m.bus.queue })
    (hq : n.bus.queue.length ≤ Config.outboundCapacity → m.bus.queue.length ≤ Config.outboundCapacity) :
    m.ShapedOn n := by
  simp only [Node.shape, Shape.mk.injEq, true_and] at h
  obtain ⟨ht, hw, hm, ha, hl, ho, hc⟩ := h
  refine ⟨fun ⟨sw, sm, sa, sl, sq, so, sc⟩ => ?_, Node.windowChained_of_window hw ht.ge⟩
  rw [← hw] at sw; rw [← hm] at sm; rw [← ha] at sa; rw [← hl] at sl; rw [← ho] at so
  rw [← hc] at sc
  exact ⟨sw, sm, sa, sl, hq sq, so, sc⟩

/-- An update of the Roster's entries alone. -/
theorem Node.shapedOn_others {m n : Node} (h : m.shape = { n.shape with others := m.roster.others })
    (ho : n.roster.others.length ≤ Config.otherEntries →
      m.roster.others.length ≤ Config.otherEntries) : m.ShapedOn n := by
  simp only [Node.shape, Shape.mk.injEq, true_and] at h
  obtain ⟨ht, hw, hm, ha, hl, hq, hc⟩ := h
  refine ⟨fun ⟨sw, sm, sa, sl, sq, so, sc⟩ => ?_, Node.windowChained_of_window hw ht.ge⟩
  rw [← hw] at sw; rw [← hm] at sm; rw [← ha] at sa; rw [← hl] at sl; rw [← hq] at sq
  rw [← hc] at sc
  exact ⟨sw, sm, sa, sl, sq, ho so, sc⟩

/-- A part whose collections are as at power-on but for its log, counts and tracking length. -/
theorem Node.shapedOn_emptied {m n : Node} (hw : m.window = Window.empty) (hm : m.marks.table = [])
    (ha : m.handover.arrivals = []) (hl : m.handover.log.length ≤ n.handover.log.length)
    (hq : m.bus.queue = []) (ho : m.roster.others = [])
    (hc : n.faults.counts.length = 25 → m.faults.counts.length = 25) : m.ShapedOn n := by
  refine ⟨fun h => ?_, fun _ => ?_⟩
  · refine ⟨?_, ?_, ?_, hl.trans h.log, ?_, ?_, hc h.counts⟩
    · rw [hw]; decide
    · rw [hm]; decide
    · rw [ha]; decide
    · rw [hq]; decide
    · rw [ho]; decide
  · unfold Node.windowChained
    rw [hw]
    rfl

@[simp] theorem Node.notice_shape (i : Nat) (n : Node) : (n.notice i).shape = n.shape := rfl

@[simp] theorem Node.fault_shape (k : FaultKind) (n : Node) : (n.fault k).shape = n.shape := rfl

@[simp] theorem Node.respond_shape (r f : Nat) (d : List Byte) (n : Node) :
    (n.respond r f d).shape = n.shape := rfl

@[simp] theorem Node.countFault_shape (k : FaultKind) (n : Node) :
    (n.countFault k).shape = n.shape := by
  simp [Node.shape, Node.countFault]

@[simp] theorem Node.spend_shape (k : Nat) (n : Node) : (n.spend k).shape = n.shape := by
  simp [Node.shape]

@[simp] theorem Node.faultTimes_shape (k : FaultKind) (c : Nat) (n : Node) :
    (n.faultTimes k c).shape = n.shape := by
  simp [Node.shape]

@[simp] theorem Node.addCounters_shape (f : Counter → Option Nat) (n : Node) :
    (n.addCounters f).shape = n.shape := by
  simp [Node.shape]

@[simp] theorem Node.report_shape (e : CounterEvent) (n : Node) : (n.report e).shape = n.shape :=
  Node.addCounters_shape _ n

@[simp] theorem Node.followConditions_shape (n : Node) : n.followConditions.shape = n.shape := by
  simp [Node.shape]

@[simp] theorem Node.evalLines_shape (n : Node) : n.evalLines.shape = n.shape := by
  simp [Node.shape]

@[simp] theorem Node.endOwn_shape (e : ProposalEnd) (n : Node) : (n.endOwn e).shape = n.shape := by
  simp [Node.shape]

@[simp] theorem Node.frameLost_shape (q : QueuedFrame) (n : Node) :
    (n.frameLost q).shape = n.shape := by
  simp [Node.shape]

@[simp] theorem Node.dropFault_shape (f : Frame) (n : Node) : (n.dropFault f).shape = n.shape := by
  simp [Node.shape]

@[simp] theorem Node.recordFatal_shape (k : FaultKind) (n : Node) :
    (n.recordFatal k).shape = n.shape := by
  unfold Node.recordFatal
  split <;> rfl

@[simp] theorem Node.faultNotice_shape (c : FaultClass) (n : Node) :
    (n.faultNotice c).shape = n.shape := by
  unfold Node.faultNotice
  split <;> rfl

@[simp] theorem Node.stallOnView_shape (before after : View) (n : Node) :
    (n.stallOnView before after).shape = n.shape := by
  unfold Node.stallOnView
  split <;> rfl

@[simp] theorem Node.remakeChoices_shape (n : Node) : n.remakeChoices.shape = n.shape := by
  have hu : n.remakeUpstream.shape = n.shape := by
    unfold Node.remakeUpstream
    split <;> rfl
  have hr : ∀ m : Node, m.refreshReference.shape = m.shape := by
    intro m
    unfold Node.refreshReference
    split <;> rfl
  exact (hr _).trans hu

@[simp] theorem Node.beginPoll_shape (n : Node) : n.beginPoll.shape = n.shape := by
  simp [Node.shape]

/-- A response to what keeps its shape. -/
theorem Node.ShapedOn.respond {m n : Node} (h : m.ShapedOn n) (r f : Nat) (d : List Byte) :
    (m.respond r f d).ShapedOn n := h.reshape rfl

/-! #### The queue (R139 to R141) -/

/-- A PROPOSE withdrawn makes no frame (R141). -/
theorem withdrawPropose_length (l : List QueuedFrame) : (withdrawPropose l).length ≤ l.length := by
  unfold withdrawPropose
  rw [List.length_map]
  exact List.length_filter_le _ l

theorem Node.endAndWithdraw_shapedOn (e : ProposalEnd) (n : Node) :
    (n.endAndWithdraw e).ShapedOn n := by
  unfold Node.endAndWithdraw
  split
  · refine (Node.shapedOn_of_shape (Node.endOwn_shape _ _)).trans (Node.shapedOn_queue rfl fun h => ?_)
    exact (withdrawPropose_length _).trans h
  · exact .refl n

theorem Node.abandonOwn_shapedOn (n : Node) : n.abandonOwn.ShapedOn n := n.endAndWithdraw_shapedOn _

theorem Node.denyOwn_shapedOn (n : Node) : n.denyOwn.ShapedOn n := by
  unfold Node.denyOwn
  split
  · exact .refl n
  · split
    · exact (Node.endAndWithdraw_shapedOn _ _).trans (Node.shapedOn_of_shape (Node.spend_shape _ n))
    · exact .refl n

theorem Node.settle_shapedOn (n : Node) : n.settle.ShapedOn n :=
  (Node.denyOwn_shapedOn _).trans
    (Node.shapedOn_of_shape ((Node.evalLines_shape _).trans n.followConditions_shape))

/-- A frame that takes the place of another, or finds room, keeps the queue within 16 (R139). -/
theorem Node.joinQueue_shapedOn {m n : Node} (q : QueuedFrame)
    (h : m.shape = { n.shape with queue := m.bus.queue })
    (hq : n.bus.queue.length ≤ Config.outboundCapacity →
      m.bus.queue.length < Config.outboundCapacity) : (m.joinQueue q).ShapedOn n :=
  Node.shapedOn_queue (congrArg (fun k : Shape => { k with queue := m.bus.queue ++ [q] }) h) fun hn => by
    have hlt := hq hn
    simp only [Node.joinQueue, List.length_append, List.length_singleton]
    omega

/-- A frame given up makes room for one (R140). -/
theorem length_eraseP_of_find {p : QueuedFrame → Bool} {q : QueuedFrame} {l : List QueuedFrame}
    (h : l.find? p = some q) : (l.eraseP p).length < l.length := by
  have hmem := List.mem_of_find?_eq_some h
  have hpos := List.length_pos_of_mem hmem
  rw [List.length_eraseP_of_mem hmem (List.find?_some h)]
  omega

theorem Node.offerToFull_shapedOn (f : Frame) (n : Node) : (n.offerToFull f).ShapedOn n := by
  unfold Node.offerToFull
  split
  · split
    · rename_i q hq
      refine Node.joinQueue_shapedOn _ ?_ fun hn => ?_
      · simp [Node.shape]
      · simpa using (length_eraseP_of_find hq).trans_le hn
    · exact Node.shapedOn_of_shape (by simp)
  · exact Node.shapedOn_of_shape (by simp)

theorem Node.offer_shapedOn (f : Frame) (n : Node) : (n.offer f).ShapedOn n := by
  unfold Node.offer
  split
  · exact Node.shapedOn_of_shape (by simp)
  · split
    · exact n.offerToFull_shapedOn f
    · rename_i hfull
      exact Node.joinQueue_shapedOn _ rfl fun _ => by simpa [Node.queueFull] using hfull

theorem Node.offerWithdrawal_shapedOn (p : AnnouncePayload) (n : Node) :
    (n.offerWithdrawal p).ShapedOn n := by
  unfold Node.offerWithdrawal
  split
  · split
    · rename_i q hq
      refine Node.joinQueue_shapedOn _ ?_ fun hn => ?_
      · simp [Node.shape]
      · simpa using (length_eraseP_of_find hq).trans_le hn
    · exact .refl n
  · rename_i hfull
    exact Node.joinQueue_shapedOn _ rfl fun _ => by simpa [Node.queueFull] using hfull

/-- A purge leaves no frame and touches nothing else of the shape (R141). -/
@[simp] theorem Node.purge_shape (n : Node) : n.purge.shape = { n.shape with queue := [] } := by
  unfold Node.purge
  rw [foldl_keeps Node.shape _ fun m q => Node.frameLost_shape q m]
  rfl

theorem Node.purge_shapedOn (n : Node) : n.purge.ShapedOn n := by
  have hq : n.purge.bus.queue = [] := congrArg Shape.queue n.purge_shape
  refine Node.shapedOn_queue (by rw [hq]; exact n.purge_shape) fun _ => ?_
  rw [hq]
  exact Nat.zero_le _

theorem Node.generateStatus_shapedOn (n : Node) : n.generateStatus.ShapedOn n := by
  unfold Node.generateStatus
  split
  · exact Node.shapedOn_queue rfl fun h => by simpa using h
  · exact n.offer_shapedOn _

/-! #### A change of view (R49, R52, R87, R108) -/

/-- A claim whose contents keep their ranges (R27). -/
theorem Node.write_shapedOn {m n : Node} (c : Claim) (f : Nat → Body → Body)
    (hf : ∀ h b, sameRange (f h b) b) (hm : m.shape = { n.shape with window := n.window.write c f }) :
    m.ShapedOn n := by
  have hw : m.window = n.window.write c f := congrArg Shape.window hm
  have ht : m.len.tracking = n.len.tracking := congrArg Shape.tracking hm
  refine Node.shapedOn_window (by rw [hw]; exact hm) (fun h => ?_) fun h => ?_
  · rw [hw, (Window.write_count c f n.window).1]
    exact h
  · exact Node.windowChained_of_window (n := { n with window := n.window.write c f }) hw ht.ge
      (n.write_chained c f hf h)

/-- The table has room for the mark that opens (R48, R49, R57). -/
theorem Node.roomFor_length (k : MarkKind) (n : Node)
    (h : n.marks.table.length ≤ Config.markCapacity) :
    (n.roomFor k).length < Config.markCapacity := by
  have ht : (tableFor k n.marks.table).length ≤ n.marks.table.length := by
    unfold tableFor
    split
    · exact List.length_filter_le _ _
    · exact le_rfl
  have hpos : 0 < Config.markCapacity := by decide
  unfold Node.roomFor
  split
  · rw [List.length_tail]
    omega
  · omega

theorem Node.openSpan_shapedOn (k : MarkKind) (id : Nat) (n : Node) :
    (n.openSpan k id).ShapedOn n := by
  obtain ⟨mark, hmark⟩ : ∃ mark : SpanMark, mark =
      { kind := k, id := id, countdown := if k.stopOrTrip then .held else .noCountdown
        opening := n.len.tracking, frontier := n.window.frontier n.spanClaim 0 } := ⟨_, rfl⟩
  have htable : ({ n with marks.table := n.roomFor k ++ [mark] } : Node).ShapedOn n :=
    Node.shapedOn_marks rfl fun h => by
      have := n.roomFor_length k h
      simp only [List.length_append, List.length_singleton]
      omega
  refine Node.ShapedOn.trans (Node.write_shapedOn n.spanClaim
    (fun _ => offerEntry (spanEntry n.config.station k id)) (fun _ => offerEntry_range _) ?_) htable
  unfold Node.openSpan
  simp only [Node.report_shape, Node.faultTimes_shape, ← hmark]
  split <;> rfl

theorem Node.marksOnView_shapedOn (before after : View) (number : Nat) (n : Node) :
    (n.marksOnView before after number).ShapedOn n := by
  unfold Node.marksOnView
  split
  · exact Node.shapedOn_marks rfl fun h => by simpa using h
  · split
    · exact .refl n
    · split
      · exact n.openSpan_shapedOn _ _
      · split
        · exact n.openSpan_shapedOn _ _
        · exact .refl n

theorem Node.claimDwell_shapedOn (n : Node) : n.claimDwell.ShapedOn n := by
  unfold Node.claimDwell
  split
  · exact .refl n
  · exact Node.write_shapedOn Claim.whole (fun _ => addDwell n.prot.timer) (fun _ _ => ⟨rfl, rfl⟩) rfl

theorem Node.timerOnView_shapedOn (before after : View) (n : Node) :
    (n.timerOnView before after).ShapedOn n := by
  unfold Node.timerOnView
  split
  · exact Node.shapedOn_of_shape rfl
  · split
    · split <;> exact Node.shapedOn_of_shape rfl
    · split
      · exact n.claimDwell_shapedOn.reshape rfl
      · exact .refl n

theorem Node.viewReported_shapedOn (before after : View) (number : Nat) (n : Node) :
    (n.viewReported before after number).ShapedOn n :=
  (Node.shapedOn_of_shape (Node.stallOnView_shape _ _ _)).trans
    ((Node.timerOnView_shapedOn _ _ _).trans
      ((Node.marksOnView_shapedOn _ _ _ _).trans (Node.shapedOn_of_shape (Node.notice_shape _ n))))

theorem Node.numberChanged_shapedOn (n : Node) : n.numberChanged.ShapedOn n :=
  n.abandonOwn_shapedOn.reshape rfl

theorem Node.adoptPair_shapedOn (m : Nat) (s : View) (n : Node) : (n.adoptPair m s).ShapedOn n := by
  have hb : ({ (if m = n.line.number then n else n.numberChanged) with
      line.view := s, line.number := m } : Node).ShapedOn n := by
    split
    · exact Node.shapedOn_of_shape rfl
    · exact n.numberChanged_shapedOn.reshape rfl
  unfold Node.adoptPair
  dsimp only
  split
  · exact (Node.settle_shapedOn _).trans hb
  · exact (Node.settle_shapedOn _).trans ((Node.viewReported_shapedOn _ _ _ _).trans hb)

/-! #### Faults taken (R94, R149, R183, R184) -/

theorem Node.leaveFor_shapedOn (p : Participation) (n : Node) : (n.leaveFor p).ShapedOn n := by
  have hb : (Node.notice Notice.participationChanged
      { n with bus.participation := p, bus.joinRunning := false, bus.statusRunning := false
               bus.statusTimer := 0 }).ShapedOn n := Node.shapedOn_of_shape rfl
  have hs : ∀ m : Node, (m.spend 2).ShapedOn m := fun m => Node.shapedOn_of_shape (m.spend_shape 2)
  unfold Node.leaveFor
  dsimp only
  split
  · refine (Node.purge_shapedOn _).trans (Node.ShapedOn.trans ?_ hb)
    split
    · exact (Node.abandonOwn_shapedOn _).trans (hs _)
    · exact (Node.abandonOwn_shapedOn _).trans ((Node.settle_shapedOn _).trans (hs _))
  · exact (Node.purge_shapedOn _).trans hb

theorem Node.fatalTrip_shapedOn (k : FaultKind) (n : Node) : (n.fatalTrip k).ShapedOn n :=
  ((Node.adoptPair_shapedOn (evSucc n.line.number) .trip _).trans (n.offerWithdrawal_shapedOn
    { number := evSucc n.line.number, source := .fault, detail := k.code })).reshape rfl

theorem Node.withdraw_shapedOn (k : FaultKind) (n : Node) : (n.withdraw k).ShapedOn n :=
  (Node.settle_shapedOn _).trans ((Node.fatalTrip_shapedOn _ _).trans
    ((Node.leaveFor_shapedOn _ _).trans
      (Node.shapedOn_of_shape ((Node.faultNotice_shape _ _).trans (n.recordFatal_shape k)))))

theorem Node.reportClass_shapedOn (frames : Bool) (c : FaultClass) (k : FaultKind) (n : Node) :
    (n.reportClass frames c k).ShapedOn n := by
  have hn : (n.faultNotice c).ShapedOn n := Node.shapedOn_of_shape (n.faultNotice_shape c)
  unfold Node.reportClass
  dsimp only
  split
  · exact (Node.offer_shapedOn _ _).trans hn
  · exact hn

/-- A fault counted, then a FATAL one withdrawn for and another reported, as a turn of the Fault Unit does
(R183, R184). -/
theorem Node.counted_shapedOn (k : FaultKind) (n : Node) : (n.countFault k).ShapedOn n :=
  Node.shapedOn_of_shape (n.countFault_shape k)

theorem Node.takeFault_shapedOn (n : Node) (r : FaultReport) : (n.takeFault r).ShapedOn n := by
  unfold Node.takeFault
  dsimp only
  split
  · split
    · exact (Node.withdraw_shapedOn _ _).trans (n.counted_shapedOn _)
    · exact n.counted_shapedOn _
  · exact (Node.reportClass_shapedOn _ _ _ _).trans (n.counted_shapedOn _)

theorem Node.takeFollowing_shapedOn (n : Node) (r : FaultReport) :
    (n.takeFollowing r).ShapedOn n := by
  unfold Node.takeFollowing
  dsimp only
  split
  · split
    · exact (Node.withdraw_shapedOn _ _).trans (n.counted_shapedOn _)
    · exact n.counted_shapedOn _
  · exact (Node.reportClass_shapedOn _ _ _ _).trans (n.counted_shapedOn _)

theorem Node.takeCounted_shapedOn (n : Node) (r : FaultReport) : (n.takeCounted r).ShapedOn n := by
  unfold Node.takeCounted
  dsimp only
  split
  · exact n.counted_shapedOn _
  · exact (Node.reportClass_shapedOn _ _ _ _).trans (n.counted_shapedOn _)

theorem Node.takeReported_shapedOn {take : Node → FaultReport → Node}
    (h : ∀ n r, (take n r).ShapedOn n) (n : Node) : (n.takeReported take).ShapedOn n := by
  have hl : ∀ (l : List FaultReport) (m : Node), (l.foldl take m).ShapedOn m := by
    intro l
    induction l with
    | nil => exact Node.ShapedOn.refl
    | cons r l ih => exact fun m => (ih _).trans (h m r)
  exact (hl _ _).trans (Node.shapedOn_of_shape rfl)

theorem Node.takeFaults_shapedOn (n : Node) : n.takeFaults.ShapedOn n := by
  unfold Node.takeFaults
  split
  · exact .refl n
  · exact ((Node.takeReported_shapedOn Node.takeCounted_shapedOn _).trans
      ((Node.takeReported_shapedOn Node.takeFollowing_shapedOn _).trans
        (Node.takeReported_shapedOn Node.takeFault_shapedOn n))).reshape rfl

/-- When the faults have been taken none waits (R183, log 21). -/
theorem Node.takeFaults_reported (n : Node) : n.takeFaults.faults.reported = [] := by
  unfold Node.takeFaults
  split
  · rename_i h
    exact List.isEmpty_iff.1 h
  · rfl

theorem Node.finish_shapedOn (n : Node) : n.finish.ShapedOn n := by
  have hs : (n.spend 2).ShapedOn n := Node.shapedOn_of_shape (n.spend_shape 2)
  have ht : ∀ m : Node, m.takeFaults.settle.ShapedOn m := fun m =>
    m.takeFaults.settle_shapedOn.trans m.takeFaults_shapedOn
  unfold Node.finish
  split
  · split
    · exact (ht _).trans hs
    · exact (ht _).trans ((Node.settle_shapedOn _).trans hs)
  · exact ht n

/-- When a block has done with an event no fault waits. -/
theorem Node.finish_reported (n : Node) : n.finish.faults.reported = [] := by
  unfold Node.finish
  split
  · split <;> simp [Node.takeFaults_reported]
  · simp [Node.takeFaults_reported]

end Sys2Proof.Machine

/-! ### The window: boundaries, cuts, exits and arrivals keep the chain (R28, R32 to R42, R76 to R80) -/

namespace Sys2Proof.Machine

/-! #### The chain -/

/-- The chain is a matter of the records' positions and ranges. -/
theorem chainTo_congr (head first : Nat) (l k : List ClosedRecord)
    (hk : k.map (fun r => (r.head, r.tail, r.body.first, r.body.last)) =
      l.map fun r => (r.head, r.tail, r.body.first, r.body.last))
    (h : chainTo head first l) : chainTo head first k := by
  induction l generalizing k with
  | nil =>
    rw [List.map_nil, List.map_eq_nil_iff] at hk
    rw [hk]
    exact h
  | cons r l ih =>
    obtain ⟨r', k, rfl, hr, hk⟩ := List.map_eq_cons_iff.1 hk
    simp only [Prod.mk.injEq] at hr
    obtain ⟨hh, ht, -, hl⟩ := hr
    cases l with
    | nil =>
      rw [List.map_nil, List.map_eq_nil_iff] at hk
      subst hk
      obtain ⟨h1, h2, h3⟩ := h
      exact ⟨by rw [hh, ht]; exact h1, ht.trans h2, h3.trans (by rw [hl])⟩
    | cons q l =>
      obtain ⟨q', k, rfl, hq, hk'⟩ := List.map_eq_cons_iff.1 hk
      have hq0 := hq
      simp only [Prod.mk.injEq] at hq
      obtain ⟨hqh, -, hqf, -⟩ := hq
      obtain ⟨h1, h2, h3, h4⟩ := h
      exact ⟨by rw [hh, ht]; exact h1, by rw [ht, h2, hqh], by rw [hqf, h3, hl], ih _ hk h4⟩

/-- The first of a list changed keeps what the change keeps. -/
theorem map_changeFirst {α β : Type} (p : α → Bool) (f : α → α) (key : α → β)
    (hf : ∀ a, key (f a) = key a) (l : List α) : (changeFirst p f l).map key = l.map key := by
  induction l with
  | nil => rfl
  | cons a l ih =>
    unfold changeFirst
    split
    · simp [hf]
    · simp [ih]

/-- A change of the first keeps how many there are. -/
@[simp] theorem length_changeFirst {α : Type} (p : α → Bool) (f : α → α) (l : List α) :
    (changeFirst p f l).length = l.length := by
  have h := congrArg List.length (map_changeFirst p f (fun _ => ()) (fun _ => rfl) l)
  simpa using h

/-! #### Boundaries (R28, R38) -/

/-- The entering record replaced by one of the same head and first number. -/
theorem Node.shapedOn_entering {m n : Node} {e e' : EnteringRecord} (he : n.window.entering = some e)
    (hm : m.shape = { n.shape with window := { n.window with entering := some e' } })
    (hh : e'.head = e.head) (hf : e'.body.first = e.body.first) : m.ShapedOn n := by
  have hw : m.window = { n.window with entering := some e' } := congrArg Shape.window hm
  have ht : m.len.tracking = n.len.tracking := congrArg Shape.tracking hm
  refine Node.shapedOn_window (by rw [hw]; exact hm) (fun h => ?_) fun h => ?_
  · rw [hw]
    simpa [Window.count, he] using h
  · unfold Node.windowChained at h ⊢
    rw [he] at h
    rw [hw, ht]
    dsimp only at h ⊢
    rw [hh, hf]
    exact h

/-- A new entering record begins where it opens, with its number (R28). -/
@[simp] theorem Node.newEntering_place (number x : Nat) (next : Option Nat) (n : Node) :
    (n.newEntering number x next).head = x ∧ (n.newEntering number x next).body.first = number := by
  have hf : ∀ c nom b d, (freshBody number c nom b d).first = number := by
    intro c nom b d
    unfold freshBody setFlagIf
    split <;> rfl
  unfold Node.newEntering
  split <;> exact ⟨rfl, hf _ _ _ _⟩

/-- The entering record closes at the tracking length where the window has room (R28). -/
theorem Node.closeEntering_shapedOn {n : Node} {e : EnteringRecord} (body : Body)
    (brought next : Option Nat) (he : n.window.entering = some e) (hb : body.first = e.body.first)
    (hroom : n.window.full = false) :
    (n.closeEntering n.len.tracking e body brought next).ShapedOn n := by
  refine Node.shapedOn_window rfl (fun _ => ?_) fun h => ?_
  · have hlt : n.window.count < Config.windowCapacity := by simpa [Window.full] using hroom
    simp only [Window.count, he, Node.closeEntering, List.length_append, List.length_singleton,
      Option.isSome_some, bit] at hlt ⊢
    exact hlt
  · unfold Node.windowChained at h ⊢
    rw [he] at h
    obtain ⟨hle, hchain⟩ := h
    simp only [Node.closeEntering, Node.newEntering_place]
    exact ⟨le_rfl, chainTo_append _ _ _ _ _ _ hchain rfl hb hle rfl rfl⟩

/-- The entering record once it has widened at `x` (R38). -/
def EnteringRecord.widened (x : Nat) (body : Body) (brought next : Option Nat) (e : EnteringRecord) :
    EnteringRecord :=
  { body := setFlag RecordFlag.coalesced
      { body with last := segSucc (lastAfter e.body.last brought) }
    head := e.head, expectFrom := x, expected := next }

/-- The entering record widens instead (R38). -/
theorem Node.coalesce_shapedOn {n : Node} {e : EnteringRecord} (x : Nat) (body : Body)
    (brought next : Option Nat) (he : n.window.entering = some e) (hb : body.first = e.body.first) :
    (n.coalesce x e body brought next).ShapedOn n := by
  exact Node.shapedOn_entering (e' := e.widened x body brought next) he
    ((Node.report_shape _ _).trans rfl) rfl hb

theorem Node.cut_shapedOn {n : Node} {e : EnteringRecord} (he : n.window.entering = some e) :
    (n.cut n.len.tracking e).ShapedOn n := by
  unfold Node.cut
  split
  · exact Node.coalesce_shapedOn _ _ _ _ he rfl
  · rename_i hfull
    exact (Node.closeEntering_shapedOn (cutBody n.len.tracking e) none (some n.config.segmentLength) he
      rfl (Bool.not_eq_true _ ▸ hfull)).reshape (Node.report_shape _ _)

theorem Node.declareLate_shapedOn {n : Node} {e : EnteringRecord} (he : n.window.entering = some e) :
    (n.declareLate n.len.tracking e).ShapedOn n := by
  unfold Node.declareLate
  refine Node.ShapedOn.trans (Node.shapedOn_of_shape
    ((Node.report_shape _ _).trans (Node.fault_shape _ _))) ?_
  split
  · exact Node.coalesce_shapedOn _ _ _ _ he rfl
  · rename_i hfull
    exact Node.closeEntering_shapedOn _ _ _ he rfl (Bool.not_eq_true _ ▸ hfull)

theorem Node.testEntering_shapedOn (n : Node) : n.testEntering.ShapedOn n := by
  unfold Node.testEntering
  split
  · exact .refl n
  · rename_i e he
    split
    · split
      · exact Node.cut_shapedOn he
      · exact .refl n
    · split
      · exact Node.declareLate_shapedOn he
      · exact .refl n

theorem Node.knotClaim_shapedOn (n : Node) : (n.knotClaim n.len.tracking).ShapedOn n := by
  unfold Node.knotClaim
  split
  · exact .refl n
  · rename_i e he
    split
    · exact Node.cut_shapedOn he
    · exact Node.shapedOn_entering he rfl rfl rfl

/-- The ORIGIN's first record opens at the tracking length, in an empty window (R32). -/
theorem Node.openFirst_shapedOn (n : Node) : n.openFirst.ShapedOn n := by
  unfold Node.openFirst
  split
  · rename_i h
    have hclosed : n.window.closed = [] := by
      simp only [Bool.and_eq_true, Window.isEmpty, List.isEmpty_iff] at h
      exact h.2.1
    refine Node.shapedOn_window rfl (fun _ => ?_) fun _ => ?_
    · simp [Window.count, hclosed, bit, Config.windowCapacity]
    · simp [Node.windowChained, hclosed, chainTo]
  · exact .refl n

/-! #### Exits (R42, R82) -/

theorem Node.retire_shapedOn (b : Body) (len : Nat) (n : Node) : (n.retire b len).ShapedOn n := by
  have hpos : 0 < Config.logCapacity := by decide
  unfold Node.retire
  refine Node.ShapedOn.trans (Node.shapedOn_of_shape (Node.notice_shape _ _)) ?_
  split
  · refine Node.shapedOn_handover rfl id fun h => ?_
    simp only [Node.fault_frame, List.length_append, List.length_tail, List.length_singleton]
    omega
  · refine Node.shapedOn_handover rfl id fun _ => ?_
    simp only [List.length_append, List.length_singleton]
    omega

theorem Node.dispose_shapedOn (b : Body) (len : Nat) (following : Option Nat) (n : Node) :
    (n.dispose b len following).ShapedOn n := by
  unfold Node.dispose
  split
  · exact n.retire_shapedOn b len
  · split
    · exact n.offer_shapedOn _
    · exact Node.shapedOn_of_shape (Node.report_shape _ n)

theorem Node.exitRecord_shapedOn (r : ClosedRecord) (following : Option Nat) (n : Node) :
    (n.exitRecord r following).ShapedOn n := by
  have hr : (n.reportStretch r).ShapedOn n := by
    unfold Node.reportStretch
    split
    · exact .refl n
    · exact Node.shapedOn_of_shape (Node.report_shape _ n)
  exact (Node.dispose_shapedOn _ _ _ _).trans hr

/-- The oldest record leaves the window (R42). -/
theorem Node.oldestLeaves_shapedOn {n : Node} {r : ClosedRecord} {rest : List ClosedRecord}
    (h : n.window.closed = r :: rest) : ({ n with window.closed := rest } : Node).ShapedOn n := by
  refine Node.shapedOn_window rfl (fun hc => ?_) fun hn => ?_
  · simp only [Window.count, h, List.length_cons] at hc ⊢
    omega
  · unfold Node.windowChained at hn ⊢
    rw [h] at hn
    dsimp only
    cases he : n.window.entering with
    | none => simp [he] at hn
    | some e =>
      rw [he] at hn
      exact ⟨hn.1, chainTo_tail _ _ _ _ hn.2⟩

theorem Node.takeExits_shapedOn (k : Nat) (n : Node) : (n.takeExits k).ShapedOn n := by
  induction k generalizing n with
  | zero => exact .refl n
  | succ k ih =>
    unfold Node.takeExits
    split
    · exact .refl n
    · rename_i r rest h
      split
      · exact (ih _).trans ((Node.takeFaults_shapedOn _).trans
          ((Node.exitRecord_shapedOn _ _ _).trans (Node.oldestLeaves_shapedOn h)))
      · exact .refl n

/-! #### Arrivals (R72, R76 to R80) -/

/-- Content that reaches the entering record keeps its range (R28, R81). -/
theorem EnteringRecord.taken_first (early : Bool) (a : Arrival) (e : EnteringRecord) :
    (e.taken early a).first = e.body.first := by
  have hi : ∀ c i (b : Body), (setFlagIf c i b).first = b.first := by
    intro c i b
    unfold setFlagIf
    split <;> rfl
  exact (hi _ _ _).trans ((hi _ _ _).trans (absorb_range e.body a.body).1)

/-- An arrival's flags keep the range (R81). -/
theorem Arrival.flag_range (early : Bool) (a : Arrival) (b : Body) : sameRange (a.flag early b) b := by
  have hi : ∀ c i (b : Body), sameRange (setFlagIf c i b) b := by
    intro c i b
    unfold setFlagIf
    split <;> exact ⟨rfl, rfl⟩
  exact ⟨(hi _ _ _).1.trans (hi _ _ _).1, (hi _ _ _).2.trans (hi _ _ _).2⟩

/-- A record filled late keeps its range (R78). -/
theorem Arrival.fillLate_range (early : Bool) (a : Arrival) (b : Body) :
    sameRange (a.fillLate early b) b := by
  obtain ⟨h1, h2⟩ := a.flag_range early (setFlag RecordFlag.late (fillBody b a.body))
  obtain ⟨h3, h4⟩ := fillBody_range b a.body
  exact ⟨h1.trans h3, h2.trans h4⟩

theorem Node.applyFirst_shapedOn (early : Bool) (a : Arrival) (n : Node) :
    (n.applyFirst early a).ShapedOn n := by
  unfold Node.applyFirst
  refine Node.ShapedOn.trans (Node.shapedOn_of_shape (Node.report_shape _ _))
    (Node.shapedOn_window rfl (fun _ => Nat.le_of_ble_eq_true rfl) fun _ => ?_)
  have hlast : (n.firstRecord early a).body.last = a.body.last :=
    (dropOrigin_range _).2.trans ((a.flag_range early _).2.trans (fillBody_range _ _).2)
  simp only [Node.windowChained, Node.newEntering_place, chainTo, hlast]
  exact ⟨le_rfl, le_rfl, rfl, trivial⟩

theorem Node.reportSkip_shapedOn (count : Nat) (n : Node) : (n.reportSkip count).ShapedOn n := by
  unfold Node.reportSkip
  split
  · exact .refl n
  · exact Node.shapedOn_of_shape ((Node.report_shape _ _).trans (Node.fault_shape _ n))

theorem Node.applyBoundary_shapedOn (early : Bool) (a : Arrival) {n : Node} {e : EnteringRecord}
    (he : n.window.entering = some e) : (n.applyBoundary early a e).ShapedOn n := by
  have hfirst := e.taken_first early a
  unfold Node.applyBoundary
  refine (Node.reportSkip_shapedOn _ _).trans
    (Node.ShapedOn.trans (Node.shapedOn_of_shape (Node.faultTimes_shape _ _ _)) ?_)
  split
  · exact Node.coalesce_shapedOn _ _ _ _ he hfirst
  · rename_i hfull
    exact (Node.closeEntering_shapedOn _ _ _ he hfirst (Bool.not_eq_true _ ▸ hfull)).reshape
      (Node.report_shape _ _)

/-- A record's content changed within its range keeps the chain. -/
theorem Node.changeOldest_shapedOn (p : Body → Bool) (f : Body → Body) (hf : ∀ b, sameRange (f b) b)
    (n : Node) : ({ n with window := n.window.changeOldest p f } : Node).ShapedOn n := by
  unfold Window.changeOldest
  split
  · refine Node.shapedOn_window rfl (fun h => by simpa [Window.count] using h) fun h => ?_
    have hkeys := map_changeFirst (fun r : ClosedRecord => p r.body)
      (fun r => { r with body := f r.body })
      (fun r => (r.head, r.tail, r.body.first, r.body.last))
      (fun r => by simp only [(hf r.body).1, (hf r.body).2]) n.window.closed
    unfold Node.windowChained at h ⊢
    cases he : n.window.entering with
    | none =>
      rw [he] at h
      have h : n.window.closed = [] := h
      simp [h, changeFirst]
    | some e =>
      rw [he] at h
      exact ⟨h.1, chainTo_congr _ _ _ _ hkeys h.2⟩
  · cases he : n.window.entering with
    | none =>
      have hw : ({ n.window with entering := none } : Window) = n.window := by rw [← he]
      exact Node.shapedOn_of_shape (congrArg (fun w => { n.shape with window := w }) hw)
    | some e =>
      refine Node.shapedOn_entering (e' := if p e.body then { e with body := f e.body } else e) he rfl
        ?_ ?_
      · split <;> rfl
      · split
        · exact (hf e.body).1
        · rfl

theorem Node.applyOlder_shapedOn (early : Bool) (a : Arrival) (n : Node) :
    (n.applyOlder early a).ShapedOn n := by
  unfold Node.applyOlder
  split
  · exact (n.changeOldest_shapedOn a.fills (a.fillLate early) (a.fillLate_range early)).reshape
      ((Node.report_shape _ _).trans (Node.faultTimes_shape _ _ _))
  · split <;> exact Node.shapedOn_of_shape ((Node.report_shape _ _).trans (Node.fault_shape _ n))

theorem Node.applyArrival_shapedOn (early : Bool) (a : Arrival) (n : Node) :
    (n.applyArrival early a).ShapedOn n := by
  unfold Node.applyArrival
  split
  · exact n.applyFirst_shapedOn early a
  · rename_i e he
    split
    · exact Node.applyBoundary_shapedOn early a he
    · exact n.applyOlder_shapedOn early a

theorem Node.applyHead_shapedOn (early : Bool) (n : Node) : (n.applyHead early).ShapedOn n := by
  unfold Node.applyHead
  split
  · exact .refl n
  · rename_i a rest h
    refine (Node.applyArrival_shapedOn _ _ _).trans (Node.shapedOn_handover rfl (fun hn => ?_) id)
    rw [h, List.length_cons] at hn
    exact (Nat.le_succ _).trans hn

theorem Node.handoverTurn_shapedOn (n : Node) : n.handoverTurn.ShapedOn n := by
  unfold Node.handoverTurn
  split
  · exact n.applyHead_shapedOn false
  · exact .refl n

/-- An arrival joins where there is room for it. -/
theorem Node.ShapedOn.pushArrival {m n : Node} (h : m.ShapedOn n) (a : Arrival)
    (hroom : n.Sized → m.handover.arrivals.length < Config.arrivalCapacity) :
    ({ m with handover.arrivals := m.handover.arrivals ++ [a] } : Node).ShapedOn n := by
  refine ⟨fun hn => ?_, fun hn => ?_⟩
  · have hlt := hroom hn
    obtain ⟨sw, sm, -, sl, sq, so, sc⟩ := h.sized hn
    refine ⟨sw, sm, ?_, sl, sq, so, sc⟩
    simp only [List.length_append, List.length_singleton]
    omega
  · exact Node.windowChained_of_window (n := m) rfl le_rfl (h.chained hn)

theorem Node.joinArrivals_shapedOn (a : Arrival) (n : Node) : (n.joinArrivals a).ShapedOn n := by
  have hpos : 0 < Config.arrivalCapacity := by decide
  unfold Node.joinArrivals
  refine Node.ShapedOn.pushArrival ?_ a fun hn => ?_
  · split
    · exact (n.applyHead_shapedOn true).reshape (Node.fault_shape _ _)
    · exact .refl n
  · split
    · have harr : (n.applyHead true).handover.arrivals = n.handover.arrivals.tail :=
        congrArg Held.arrivals (n.applyHead_held true)
      have hle := hn.arrivals
      simp only [Node.fault_frame, harr, List.length_tail]
      omega
    · omega

/-! #### The advance (R5, R31, R50, R73, R171) -/

/-- The marks that stay open at an advance are among those that were (R50). -/
theorem sweep_open_length (c : Claim) (station mm : Nat) (l : List SpanMark) (acc : Sweep) :
    (l.foldl (Sweep.mark c station mm) acc).open_.length ≤ acc.open_.length + l.length := by
  induction l generalizing acc with
  | nil => exact le_rfl
  | cons s l ih =>
    have hs : (Sweep.mark c station mm acc s).open_.length ≤ acc.open_.length + 1 := by
      unfold Sweep.mark
      dsimp only
      split
      · simp
      · omega
    have := ih (Sweep.mark c station mm acc s)
    simp only [List.foldl_cons, List.length_cons]
    omega

/-- The window that a sweep leaves (R50). -/
theorem Node.sweep_window_shapedOn (c : Claim) (station mm : Nat) (l : List SpanMark) (acc : Sweep)
    (n : Node) (hw : n.window = acc.window) :
    ({ n with window := (l.foldl (Sweep.mark c station mm) acc).window } : Node).ShapedOn n := by
  induction l generalizing acc n with
  | nil => exact Node.shapedOn_of_shape (by simp only [List.foldl_nil, ← hw])
  | cons s l ih =>
    have hs : ({ n with window := (Sweep.mark c station mm acc s).window } : Node).ShapedOn n :=
      Node.write_shapedOn (frontierClaim c s) (fun _ => offerEntry (spanEntry station s.kind s.id))
        (fun _ => offerEntry_range _) (by rw [hw]; rfl)
    exact (ih (Sweep.mark c station mm acc s)
      { n with window := (Sweep.mark c station mm acc s).window } rfl).trans hs

theorem Node.sweepMarks_shapedOn (mm : Nat) (n : Node) : (n.sweepMarks mm).ShapedOn n := by
  have hw := n.sweep_window_shapedOn n.spanClaim n.config.station mm n.marks.table
    { window := n.window, open_ := [], dropped := 0 } rfl
  have hl := sweep_open_length n.spanClaim n.config.station mm n.marks.table
    { window := n.window, open_ := [], dropped := 0 }
  simp only [List.length_nil, Nat.zero_add] at hl
  unfold Node.sweepMarks
  refine Node.ShapedOn.trans (Node.shapedOn_marks ?_ fun h => ?_) hw
  · simp only [Node.faultTimes_shape, Node.faultTimes_frame]
    rfl
  · simpa using hl.trans h

theorem Node.takerTurn_shapedOn (t : Taker) (mm : Nat) (n : Node) : (n.takerTurn t mm).ShapedOn n := by
  cases t with
  | window => exact (Node.testEntering_shapedOn _).trans (n.takeExits_shapedOn _)
  | handover => exact n.handoverTurn_shapedOn
  | marks => exact n.sweepMarks_shapedOn mm
  | counters => exact Node.shapedOn_of_shape (n.addCounters_shape _)

theorem Node.advanceTurns_shapedOn (k mm : Nat) (l : List Taker) (n : Node) :
    (n.advanceTurns k mm l).ShapedOn n := by
  induction k generalizing l n with
  | zero => exact .refl n
  | succ k ih =>
    unfold Node.advanceTurns
    split
    · exact .refl n
    · exact (ih _ _).trans ((Node.finish_shapedOn _).trans
        ((Node.takerTurn_shapedOn _ _ _).trans (Node.shapedOn_of_shape (n.spend_shape _))))

/-- The tracking length may grow: the window's chain then ends before it (R5). -/
theorem Node.shapedOn_tracking {m n : Node} (h : m.shape = { n.shape with tracking := m.len.tracking })
    (ht : n.len.tracking ≤ m.len.tracking) : m.ShapedOn n := by
  simp only [Node.shape, Shape.mk.injEq, true_and] at h
  obtain ⟨hw, hm, ha, hl, hq, ho, hc⟩ := h
  refine ⟨fun ⟨sw, sm, sa, sl, sq, so, sc⟩ => ?_, Node.windowChained_of_window hw ht⟩
  rw [← hw] at sw; rw [← hm] at sm; rw [← ha] at sa; rw [← hl] at sl; rw [← hq] at sq
  rw [← ho] at so; rw [← hc] at sc
  exact ⟨sw, sm, sa, sl, sq, so, sc⟩

theorem Node.advance_shapedOn (mm : Nat) (n : Node) : (n.advance mm).ShapedOn n := by
  unfold Node.advance
  dsimp only
  split
  · exact .refl n
  · exact (Node.advanceTurns_shapedOn _ _ _ _).trans
      (Node.shapedOn_tracking rfl (Nat.le_add_right _ _))

end Sys2Proof.Machine

/-! ### The other blocks: proposals, participation, the Roster, frames -/

namespace Sys2Proof.Machine

/-! #### The Line State Unit (R88 to R102) -/

theorem Node.announce_shapedOn (trip : Bool) (p : AnnouncePayload) (n : Node) :
    (n.announce trip p).ShapedOn n :=
  ((Node.adoptPair_shapedOn p.number (if trip then .trip else .standstill) _).trans
    (n.offer_shapedOn (if trip then .trip p else .stop p))).reshape rfl

theorem Node.takePair_shapedOn (sender m : Nat) (s : View) (clears : Bool)
    (ann : Option Announcement) (n : Node) : (n.takePair sender m s clears ann).ShapedOn n := by
  unfold Node.takePair
  split
  · exact .refl n
  · unfold Node.relayTrip
    split
    · exact n.announce_shapedOn _ _
    · exact .refl n
  · dsimp only
    split
    · exact (n.adoptPair_shapedOn m s).reshape rfl
    · exact n.adoptPair_shapedOn m s

theorem Node.standstillIfUnknown_shapedOn (n : Node) : n.standstillIfUnknown.ShapedOn n := by
  unfold Node.standstillIfUnknown
  split
  · exact n.adoptPair_shapedOn _ _
  · exact .refl n

theorem Node.enactOwn_shapedOn (n : Node) : n.enactOwn.ShapedOn n := by
  unfold Node.enactOwn
  split
  · exact .refl n
  · exact (Node.offer_shapedOn _ _).trans
      ((Node.shapedOn_of_shape (n.endOwn_shape (.enacted .pending))).reshape rfl)

theorem Node.proposeSent_shapedOn (i : ProposalId) (n : Node) : (n.proposeSent i).ShapedOn n := by
  unfold Node.proposeSent
  split
  · exact .refl n
  · split
    · dsimp only
      split
      · exact (Node.enactOwn_shapedOn _).trans (Node.shapedOn_of_shape rfl)
      · exact Node.shapedOn_of_shape rfl
    · exact .refl n

theorem Node.takePropose_shapedOn (p : ProposePayload) (n : Node) : (n.takePropose p).ShapedOn n := by
  have ha : ∀ r (m : Node), (m.answer p.id r).ShapedOn m := by
    intro r m
    unfold Node.answer
    split
    · exact m.offer_shapedOn _
    · exact .refl m
  have hm : (if n.queuedOwn then n.abandonOwn else n).ShapedOn n := by
    split
    · exact n.abandonOwn_shapedOn
    · exact .refl n
  have hk : ∀ m : Node, (if m.line.proposalView.isSome || m.voting then m.answer p.id (some .busy)
      else Node.answer p.id (m.answerReason p) { m with
        line.proposalView := some { id := p.id, base := p.base, target := p.target, timer := 0 }
        }).ShapedOn m := by
    intro m
    split
    · exact ha _ m
    · exact (ha _ _).trans (Node.shapedOn_of_shape rfl)
  exact (hk _).trans hm

theorem Node.takeAssent_shapedOn (sender : Nat) (i : ProposalId) (n : Node) :
    (n.takeAssent sender i).ShapedOn n := by
  unfold Node.takeAssent
  split
  · split
    · dsimp only
      split
      · exact (Node.enactOwn_shapedOn _).trans (Node.shapedOn_of_shape rfl)
      · exact Node.shapedOn_of_shape rfl
    · exact .refl n
  · exact .refl n

theorem Node.takeHold_shapedOn (sender : Nat) (p : HoldPayload) (n : Node) :
    (n.takeHold sender p).ShapedOn n := by
  unfold Node.takeHold
  split
  · split
    · exact n.endAndWithdraw_shapedOn _
    · exact .refl n
  · exact .refl n

theorem Node.closeViewOf_shapedOn (i : ProposalId) (n : Node) : (n.closeViewOf i).ShapedOn n := by
  unfold Node.closeViewOf
  split
  · split
    · exact Node.shapedOn_of_shape rfl
    · exact .refl n
  · exact .refl n

theorem Node.takeHandoff_shapedOn (sender : Nat) (p : HandoffPayload) (n : Node) :
    (n.takeHandoff sender p).ShapedOn n := by
  unfold Node.takeHandoff
  split
  · exact .refl n
  · split
    · exact n.applyArrival_shapedOn _ _
    · exact n.joinArrivals_shapedOn _

theorem Node.deliver_shapedOn (sender : Nat) (f : Frame) (n : Node) :
    (n.deliver sender f).ShapedOn n := by
  cases f with
  | status p => exact n.takePair_shapedOn sender p.number p.view false none
  | handoff p => exact n.takeHandoff_shapedOn sender p
  | stop p => exact n.takePair_shapedOn sender p.number .standstill false (some (announcementOf false sender p))
  | trip p => exact n.takePair_shapedOn sender p.number .trip false (some (announcementOf true sender p))
  | propose p => exact n.takePropose_shapedOn p
  | assent i => exact n.takeAssent_shapedOn sender i
  | hold p => exact n.takeHold_shapedOn sender p
  | enact p => exact (Node.closeViewOf_shapedOn _ _).trans (n.takePair_shapedOn ..)
  | fault p => exact .refl n

/-! #### Participation (R146 to R150) -/

theorem Node.endJoining_shapedOn (n : Node) : n.endJoining.ShapedOn n :=
  (Node.standstillIfUnknown_shapedOn _).trans n.openFirst_shapedOn

theorem Node.enterActive_shapedOn (n : Node) : n.enterActive.ShapedOn n :=
  (Node.generateStatus_shapedOn _).trans
    ((Node.endJoining_shapedOn _).trans (Node.shapedOn_of_shape rfl))

theorem Node.enterListen_shapedOn (n : Node) : n.enterListen.ShapedOn n := by
  unfold Node.enterListen
  dsimp only
  split
  · exact (Node.endJoining_shapedOn _).trans (n.leaveFor_shapedOn _)
  · exact n.leaveFor_shapedOn _

theorem Node.creelConflict_shapedOn (n : Node) : n.creelConflict.ShapedOn n := by
  have hf : ((n.fault .creelConflict).takeFaults).ShapedOn n :=
    (Node.takeFaults_shapedOn _).trans (Node.shapedOn_of_shape (n.fault_shape _))
  unfold Node.creelConflict
  dsimp only
  split
  · exact (Node.enterListen_shapedOn _).trans hf
  · exact hf

theorem Node.enterJoining_shapedOn (n : Node) : n.enterJoining.ShapedOn n := by
  have hj : (Node.remakeChoices
      (Node.notice Notice.participationChanged
        { n with bus.participation := .joining, bus.joinTimer := 0, bus.joinRunning := true
                 roster.highest := none })).ShapedOn n :=
    Node.shapedOn_of_shape ((Node.remakeChoices_shape _).trans rfl)
  unfold Node.enterJoining
  dsimp only
  split
  · exact (Node.creelConflict_shapedOn _).trans hj
  · exact hj

theorem Node.forgetView_shapedOn (n : Node) : n.forgetView.ShapedOn n := by
  unfold Node.forgetView
  dsimp only
  split
  · exact Node.shapedOn_of_shape rfl
  · exact (Node.viewReported_shapedOn _ _ _ _).trans (Node.shapedOn_of_shape rfl)

/-- The entries of the Roster given up (R122). -/
theorem Node.noOthers_shapedOn (n : Node) : ({ n with roster.others := [] } : Node).ShapedOn n :=
  Node.shapedOn_others rfl fun _ => Nat.zero_le _

/-- The part that has left for OFFLINE, its window, marks, arrivals and line counts empty, its lines held
(R25, R48, R71, R119). -/
def Node.emptied (n : Node) : Node :=
  { n.leaveFor .offline with
    window := Window.empty
    marks.table := []
    handover.arrivals := []
    prot.lines := n.config.lines.zip ActionLine.hold n.prot.lines
    bus.idleCount := 0
    bus.busyCount := 0
    bus.joinTimer := 0
    bus.tap.heard := [] }

/-- Entry to OFFLINE: the part emptied, its view forgotten, the choices made again without entries
(R150). -/
theorem Node.enterOffline_eq (n : Node) : n.enterOffline =
    (Node.remakeChoices { n.emptied.forgetView with roster.others := [] }).settle := rfl

theorem Node.emptied_shapedOn (n : Node) : n.emptied.ShapedOn n := by
  refine Node.ShapedOn.trans ⟨fun h => ?_, fun _ => ?_⟩ (n.leaveFor_shapedOn .offline)
  · exact ⟨Nat.zero_le _, Nat.zero_le _, Nat.zero_le _, h.log, h.queue, h.others, h.counts⟩
  · exact (rfl : Window.empty.closed = [])

theorem Node.enterOffline_shapedOn (n : Node) : n.enterOffline.ShapedOn n := by
  have ho := n.emptied.forgetView.noOthers_shapedOn.trans
    (n.emptied.forgetView_shapedOn.trans n.emptied_shapedOn)
  rw [Node.enterOffline_eq]
  exact (Node.settle_shapedOn _).trans (ho.reshape (Node.remakeChoices_shape _))

theorem Node.frameSent_shapedOn (q : QueuedFrame) (n : Node) : (n.frameSent q).ShapedOn n := by
  unfold Node.frameSent
  split
  · exact n.enterOffline_shapedOn
  · split
    · exact .refl n
    · split
      · exact Node.shapedOn_of_shape (n.report_shape _)
      · exact n.proposeSent_shapedOn _
      · exact (Node.takePair_shapedOn _ _ _ _ _ _).trans (Node.shapedOn_of_shape rfl)
      · exact .refl n

/-! #### The Roster (R121, R123 to R131) -/

theorem Node.changeEntries_shapedOn (station : Nat) (entries : List RosterEntry) (n : Node)
    (h : n.roster.others.length ≤ Config.otherEntries → entries.length ≤ Config.otherEntries) :
    (n.changeEntries station entries).ShapedOn n := by
  have ho : ∀ b a (m : Node), (m.testOrder b a).shape = m.shape := by
    intro b a m
    unfold Node.testOrder
    split <;> rfl
  have hl : ∀ b a (m : Node), (m.testLost b a).shape = m.shape := by
    intro b a m
    unfold Node.testLost
    split
    · split <;> rfl
    · rfl
  have hc : ∀ b (m : Node), (m.testCreel b).ShapedOn m := by
    intro b m
    unfold Node.testCreel
    split
    · exact m.creelConflict_shapedOn
    · exact .refl m
  have he : ({ n with roster.others := entries } : Node).ShapedOn n := Node.shapedOn_others rfl h
  exact (hc _ _).trans (he.reshape ((Node.remakeChoices_shape _).trans ((hl _ _ _).trans (ho _ _ _))))

/-- An entry is made only where the Roster has room for it (R121, R123). -/
theorem Roster.updated_length (sender : Nat) (f : Frame) (r : Roster) (ht : r.takes sender = true)
    (h : r.others.length ≤ Config.otherEntries) :
    (r.updated sender f).length ≤ Config.otherEntries := by
  unfold Roster.updated
  unfold Roster.takes at ht
  split
  · simpa using h
  · rename_i hnone
    simp only [hnone, Option.isSome_none, Bool.false_or, decide_eq_true_eq] at ht
    simp only [List.length_append, List.length_singleton]
    omega

theorem Node.rosterTake_shapedOn (sender : Nat) (f : Frame) (n : Node) :
    (n.rosterTake sender f).ShapedOn n := by
  unfold Node.rosterTake
  dsimp only
  split
  · rename_i ht
    have hh : ({ n with
        roster.highest := learn n.roster.highest (Frame.newestNumber f) } : Node).ShapedOn n :=
      Node.shapedOn_of_shape rfl
    exact Node.ShapedOn.trans
      (Node.changeEntries_shapedOn sender _ _ (Roster.updated_length sender f _ ht)) hh
  · exact Node.shapedOn_of_shape rfl

theorem Node.silence_shapedOn (station : Nat) (n : Node) : (n.silence station).ShapedOn n := by
  unfold Node.silence
  split
  · exact .refl n
  · split
    · exact n.changeEntries_shapedOn _ _ fun h => by simpa using h
    · exact .refl n

/-! #### The Mark Unit, the Sensor Port and the Protection Unit -/

theorem Node.stampPoint_shapedOn (c : Claim) (k : MarkKind) (id p : Nat) (n : Node) :
    (n.stampPoint c k id p).ShapedOn n :=
  Node.write_shapedOn c (fun h => offerEntry (n.pointEntry k id p h)) (fun _ => offerEntry_range _)
    (Node.faultTimes_shape _ _ _)

theorem Node.useReply_shapedOn (t : Transaction) (reply : List Byte) (n : Node) :
    (n.useReply t reply).ShapedOn n := by
  have hi : ∀ ch, (n.invalidReading ch).ShapedOn n := by
    intro ch
    refine Node.shapedOn_of_shape ((Node.report_shape _ _).trans ?_)
    split <;> rfl
  have hv : ∀ ch v, (n.validReading ch v).ShapedOn n := fun ch v =>
    Node.write_shapedOn (Claim.point n.len.tracking (n.config.channels.get ch).position)
      (fun _ => bindBody (n.config.channels.get ch) v) (fun _ => bindBody_range _ _)
      ((Node.report_shape _ _).trans rfl)
  unfold Node.useReply
  split
  · exact Node.shapedOn_of_shape rfl
  · unfold Node.judgeReply
    split
    · exact hi _
    · exact hv _ _

theorem Node.changeMode_shapedOn (n : Node) : n.changeMode.ShapedOn n := by
  unfold Node.changeMode
  split
  · exact .refl n
  · exact Node.shapedOn_of_shape rfl

theorem Node.timerSecond_shapedOn (n : Node) : n.timerSecond.ShapedOn n := by
  unfold Node.timerSecond
  dsimp only
  split
  · exact Node.write_shapedOn (Claim.span n.len.tracking n.config.spanStart n.config.spanEnd)
      (fun _ => setFlag RecordFlag.overdry) (fun _ => setFlag_range _) rfl
  · exact Node.shapedOn_of_shape rfl

/-! ### Every command keeps the capacities and the chain -/

/-- What a whole command keeps: the shape, and that no fault waits once it is done (log 21). -/
structure Node.KeepsShape (m n : Node) : Prop where
  shaped : m.ShapedOn n
  reported : n.faults.reported = [] → m.faults.reported = []

theorem Node.KeepsShape.refl (n : Node) : n.KeepsShape n := ⟨.refl n, id⟩

theorem Node.KeepsShape.trans {l m n : Node} (h : l.KeepsShape m) (k : m.KeepsShape n) :
    l.KeepsShape n := ⟨h.shaped.trans k.shaped, h.reported ∘ k.reported⟩

/-- A command that leaves every collection and reports no fault. -/
theorem Node.keepsShape_of_same {m n : Node} (hs : m.shape = n.shape)
    (hr : m.faults.reported = n.faults.reported) : m.KeepsShape n :=
  ⟨Node.shapedOn_of_shape hs, hr.trans⟩

/-- A block that has done with an event: its faults are taken. -/
theorem Node.ShapedOn.finish {m n : Node} (h : m.ShapedOn n) : m.finish.KeepsShape n :=
  ⟨m.finish_shapedOn.trans h, fun _ => m.finish_reported⟩

theorem Node.KeepsShape.respond {m n : Node} (h : m.KeepsShape n) (r f : Nat) (d : List Byte) :
    (m.respond r f d).KeepsShape n := ⟨h.shaped.respond r f d, h.reported⟩

theorem Node.respond_keepsShape (r f : Nat) (d : List Byte) (n : Node) :
    (n.respond r f d).KeepsShape n := (Node.KeepsShape.refl n).respond r f d

theorem Node.KeepsShape.done (d : List Byte) {m n : Node} (h : m.KeepsShape n) :
    (m.done d).KeepsShape n := h.respond ..

/-- The collections are within their capacities and no fault waits. -/
theorem Node.withinCapacity_iff (n : Node) :
    n.withinCapacity ↔ n.Sized ∧ n.faults.reported = [] :=
  ⟨fun ⟨hw, hm, ha, hl, hq, ho, hc, hr⟩ => ⟨⟨hw, hm, ha, hl, hq, ho, hc⟩, hr⟩,
    fun ⟨⟨hw, hm, ha, hl, hq, ho, hc⟩, hr⟩ => ⟨hw, hm, ha, hl, hq, ho, hc, hr⟩⟩

/-! #### Requests -/

theorem Node.takeRequest_keepsShape {act : Node → Node} (h : ∀ n, (act n).KeepsShape n) (n : Node) :
    (n.takeRequest act).KeepsShape n := by
  unfold Node.takeRequest
  split
  · exact .refl n
  · exact h n

theorem Node.request_keepsShape (len : Nat) (args : List Byte) {act : Node → Node}
    (h : ∀ n, (act n).KeepsShape n) (n : Node) : (n.request len args act).KeepsShape n := by
  refine Node.takeRequest_keepsShape (fun n => ?_) n
  split
  · exact h n
  · exact n.respond_keepsShape ..

theorem Node.whenConfigured_keepsShape {act : Node → Node} (h : ∀ n, (act n).KeepsShape n) (n : Node) :
    (n.whenConfigured act).KeepsShape n := by
  unfold Node.whenConfigured
  split
  · exact h n
  · exact n.respond_keepsShape ..

theorem Node.whenTracking_keepsShape {act : Node → Node} (h : ∀ n, (act n).KeepsShape n) (n : Node) :
    (n.whenTracking act).KeepsShape n := by
  unfold Node.whenTracking
  split
  · exact n.respond_keepsShape ..
  · exact h n

/-- A request of one length that is refused before START. -/
theorem Node.configuredRequest_keepsShape (len : Nat) (args : List Byte) {act : Node → Node}
    (h : ∀ n, (act n).KeepsShape n) (n : Node) :
    (n.request len args (Node.whenConfigured act)).KeepsShape n :=
  Node.request_keepsShape len args (Node.whenConfigured_keepsShape h) n

theorem Node.answerRead_keepsShape (data : List Byte) (n : Node) : (n.answerRead data).KeepsShape n :=
  Node.keepsShape_of_same rfl rfl

theorem Node.ranged_keepsShape (last : Nat) (args : List Byte) (data : Nat → Nat → List Byte)
    (n : Node) : (n.ranged last args data).KeepsShape n := by
  unfold Node.ranged
  split
  · exact n.respond_keepsShape ..
  · split
    · exact n.respond_keepsShape ..
    · exact n.answerRead_keepsShape _

/-- A log entry read leaves the log (R83). -/
theorem Node.readLog_keepsShape (n : Node) : n.readLog.KeepsShape n := by
  unfold Node.readLog
  split
  · exact n.respond_keepsShape ..
  · split
    · exact n.respond_keepsShape ..
    · rename_i e rest h
      refine ⟨Node.shapedOn_handover rfl id fun hl => ?_, id⟩
      rw [h, List.length_cons] at hl
      exact (Nat.le_succ _).trans hl

theorem Node.clearFaults_keepsShape (n : Node) : n.clearFaults.KeepsShape n :=
  Node.keepsShape_of_same
    (congrArg (fun k => { n.shape with counts := k }) (List.length_map (fun _ : Nat => 0))) rfl

theorem Node.unknownRequest_keepsShape (kind : Byte) (n : Node) :
    (n.unknownRequest kind).KeepsShape n := by
  unfold Node.unknownRequest
  split
  · exact .refl n
  · exact n.respond_keepsShape ..

/-! #### Power-on, CONFIGURE, START, RESTART, SET_PARTICIPATION -/

theorem Node.reset_keepsShape (enc : EncoderLevels) (held : Bool) (n : Node) :
    (n.reset enc held).KeepsShape n :=
  ⟨Node.shapedOn_emptied rfl rfl rfl (Nat.zero_le _) rfl rfl fun _ => rfl, fun _ => rfl⟩

theorem Node.configure_keepsShape (args : List Byte) (n : Node) :
    (n.configure args).KeepsShape n := by
  unfold Node.configure
  split
  · exact n.respond_keepsShape ..
  · exact Node.keepsShape_of_same rfl rfl

/-- Once the blocks have settled at START the collections stand as they were begun. -/
theorem Node.settled_keepsShape (n : Node) : n.settled.KeepsShape n := by
  have hr : ∀ m : Node, m.remakeChoices.faults = m.faults := by
    intro m
    have hu : m.remakeUpstream.faults = m.faults := by
      unfold Node.remakeUpstream
      split <;> rfl
    have hf : ∀ k : Node, k.refreshReference.faults = k.faults := by
      intro k
      unfold Node.refreshReference
      split <;> rfl
    exact (hf _).trans hu
  refine Node.keepsShape_of_same ?_ ?_
  · exact (Node.beginPoll_shape _).trans
      (Eq.trans rfl ((Node.evalLines_shape _).trans n.remakeChoices_shape))
  · simp [Node.settled, hr]

theorem Node.start_keepsShape (n : Node) : n.start.KeepsShape n := by
  have hb : ∀ tap, (n.begun tap).KeepsShape n := fun tap =>
    ⟨Node.shapedOn_emptied rfl rfl rfl (Nat.zero_le _) rfl rfl id, id⟩
  unfold Node.start
  split
  · exact n.respond_keepsShape ..
  · split
    · exact n.respond_keepsShape ..
    · exact .done [] (Node.KeepsShape.trans (Node.keepsShape_of_same (Node.notice_shape _ _) rfl)
        ((Node.settled_keepsShape _).trans (hb _)))

theorem Node.restart_keepsShape (n : Node) : n.restart.KeepsShape n := by
  have hc : n.cleared.KeepsShape n :=
    ⟨Node.shapedOn_emptied rfl rfl rfl (Nat.zero_le _) rfl rfl fun _ => rfl, fun _ => rfl⟩
  have ho : n.cleared.settled.onlyParticipation.KeepsShape n.cleared.settled :=
    Node.keepsShape_of_same rfl rfl
  unfold Node.restart
  split
  · exact .done [] (ho.trans (n.cleared.settled_keepsShape.trans hc))
  · exact n.respond_keepsShape ..

theorem Node.setParticipation_keepsShape (args : List Byte) (n : Node) :
    (n.setParticipation args).KeepsShape n := by
  have hj : n.enterJoining.finish.doneParticipation.KeepsShape n :=
    .done _ n.enterJoining_shapedOn.finish
  have hl : n.enterListen.finish.doneParticipation.KeepsShape n := .done _ n.enterListen_shapedOn.finish
  have ho : n.enterOffline.finish.doneParticipation.KeepsShape n :=
    .done _ n.enterOffline_shapedOn.finish
  unfold Node.setParticipation
  split
  · exact n.respond_keepsShape ..
  · unfold Node.moveTo
    split
    · exact hj
    · exact hj
    · exact hl
    · exact hl
    · exact ho
    · exact ho
    · exact ho
    · exact n.respond_keepsShape ..

/-! #### The Length Unit -/

theorem Node.returnToEncoder_keepsShape (n : Node) : n.returnToEncoder.KeepsShape n := by
  unfold Node.returnToEncoder
  split
  · exact n.respond_keepsShape ..
  · split
    · exact n.respond_keepsShape ..
    · exact .done [] (Node.ShapedOn.finish (Node.shapedOn_of_shape rfl))

theorem Node.setResumed_shape (n : Node) : n.setResumed.shape = n.shape := by
  unfold Node.setResumed
  split <;> rfl

theorem Node.setLost_shape (n : Node) : n.setLost.shape = n.shape := by
  unfold Node.setLost
  split <;> rfl

/-- A pulse counted: an advance forward, debt and fault in reverse (R1 to R4, R13). -/
theorem Node.pulse_shapedOn (forward : Bool) (n : Node) : (n.pulse forward).ShapedOn n := by
  unfold Node.pulse
  dsimp only
  split
  · unfold Node.derivedPulse
    split
    · exact Node.shapedOn_of_shape (Node.setResumed_shape _)
    · exact Node.shapedOn_of_shape rfl
  · split
    · exact (Node.advance_shapedOn _ _).trans (Node.shapedOn_of_shape rfl)
    · unfold Node.reversePulse
      dsimp only
      split <;> exact Node.shapedOn_of_shape rfl

theorem Node.quadrature_keepsShape (a b : Bool) (n : Node) : (n.quadrature a b).KeepsShape n := by
  have hm : ({ n with len.quadA := a, len.quadB := b } : Node).KeepsShape n :=
    Node.keepsShape_of_same rfl rfl
  unfold Node.quadrature
  dsimp only
  split
  · exact hm
  · split
    · exact ((Node.pulse_shapedOn true _).trans hm.shaped).finish
    · exact ((Node.pulse_shapedOn false _).trans hm.shaped).finish
    · exact hm

theorem Node.stall_keepsShape (n : Node) : n.stall.KeepsShape n := by
  have hb : ∀ m : Node, m.fallBack.ShapedOn m := by
    intro m
    unfold Node.fallBack
    split
    · exact .refl m
    · exact Node.write_shapedOn Claim.whole (fun _ => setFlag RecordFlag.derivedLength)
        (fun _ => setFlag_range _) rfl
  unfold Node.stall
  split
  · refine Node.ShapedOn.finish (Node.ShapedOn.trans (Node.shapedOn_of_shape (Node.setLost_shape _)) ?_)
    split
    · exact (hb _).trans (Node.shapedOn_of_shape rfl)
    · exact Node.shapedOn_of_shape rfl
  · exact .refl n

theorem Node.derivedPoint_keepsShape (n : Node) : n.derivedPoint.KeepsShape n := by
  unfold Node.derivedPoint
  split
  · unfold Node.deriveAdvance
    dsimp only
    split
    · exact Node.ShapedOn.finish (Node.shapedOn_of_shape rfl)
    · exact Node.ShapedOn.finish ((Node.advance_shapedOn _ _).trans (Node.shapedOn_of_shape rfl))
  · exact .refl n

theorem Node.referenceLapse_keepsShape (n : Node) : n.referenceLapse.KeepsShape n := by
  unfold Node.referenceLapse
  split
  · exact Node.keepsShape_of_same rfl rfl
  · exact .refl n

theorem Node.intervalPoint_keepsShape (n : Node) : n.intervalPoint.KeepsShape n := by
  unfold Node.intervalPoint
  split
  · exact Node.keepsShape_of_same rfl rfl
  · exact .refl n

/-! #### The line and its requests -/

theorem Node.transmitBegin_keepsShape (n : Node) : n.transmitBegin.KeepsShape n := by
  unfold Node.transmitBegin
  split
  · exact .refl n
  · split
    · exact .refl n
    · exact ⟨Node.shapedOn_queue rfl fun h => (length_changeFirst _ _ _).trans_le h, id⟩

/-- A frame leaves the queue (R142). -/
theorem Node.leaveQueue_shapedOn (n : Node) : n.leaveQueue.ShapedOn n :=
  Node.shapedOn_queue rfl List.length_eraseP_le.trans

theorem Node.transmitComplete_keepsShape (n : Node) : n.transmitComplete.KeepsShape n := by
  unfold Node.transmitComplete
  split
  · exact .refl n
  · have hs : n.lineSent.ShapedOn n := Node.shapedOn_of_shape rfl
    exact Node.ShapedOn.finish ((Node.frameSent_shapedOn _ _).trans
      (n.lineSent.leaveQueue_shapedOn.trans hs))

theorem Node.collided_shapedOn (n : Node) : n.collided.ShapedOn n :=
  Node.shapedOn_of_shape ((Node.report_shape _ _).trans (n.fault_shape _))

theorem Node.abandonFrame_keepsShape (q : QueuedFrame) (n : Node) :
    (n.abandonFrame q).KeepsShape n := by
  have ha : ((((n.leaveQueue.collided).frameLost q).fault .transmitAbandoned).finish).KeepsShape n :=
    Node.ShapedOn.finish ((n.leaveQueue.collided_shapedOn.trans n.leaveQueue_shapedOn).reshape
      ((Node.fault_shape _ _).trans (Node.frameLost_shape _ _)))
  unfold Node.abandonFrame
  dsimp only
  split
  · exact ((Node.enterOffline_shapedOn _).trans ha.shaped).finish
  · split
    · exact ((Node.enterListen_shapedOn _).trans ha.shaped).finish
    · exact ha

theorem Node.collision_keepsShape (n : Node) : n.collision.KeepsShape n := by
  have hd : n.lineDominant.KeepsShape n := Node.keepsShape_of_same rfl rfl
  have hr : ∀ m : Node, m.retry.ShapedOn m := fun m =>
    Node.shapedOn_queue rfl (length_changeFirst _ _ _).trans_le
  unfold Node.collision
  split
  · exact .refl n
  · refine Node.KeepsShape.trans ?_ hd
    unfold Node.frameCollided
    split
    · exact ((Node.collided_shapedOn _).trans (Node.leaveQueue_shapedOn _)).finish
    · split
      · exact Node.abandonFrame_keepsShape _ _
      · exact ((Node.collided_shapedOn _).trans (hr _)).finish

theorem Node.lineJam_keepsShape (n : Node) : n.lineJam.KeepsShape n := by
  unfold Node.lineJam
  split
  · exact (n.enterOffline_shapedOn.reshape (Node.fault_shape _ _)).finish
  · exact .refl n

theorem Node.statusPoint_keepsShape (n : Node) : n.statusPoint.KeepsShape n := by
  unfold Node.statusPoint
  split
  · exact Node.ShapedOn.finish ((Node.generateStatus_shapedOn _).trans (Node.shapedOn_of_shape rfl))
  · exact .refl n

theorem Node.joinExpired_keepsShape (n : Node) : n.joinExpired.KeepsShape n := by
  unfold Node.joinExpired
  split
  · exact n.enterActive_shapedOn.finish
  · exact .refl n

theorem Node.deliverGood_keepsShape (sender : Nat) (f : Frame) (n : Node) :
    (n.deliverGood sender f).KeepsShape n := by
  have hr : ∀ m : Node, (m.deliverRoster sender f).KeepsShape m := fun m =>
    (m.rosterTake_shapedOn sender f).finish
  have hb : ∀ m : Node, (m.deliverBlock sender f).KeepsShape m := fun m =>
    (m.deliver_shapedOn sender f).finish
  have hs : (n.spend 2).KeepsShape n := Node.keepsShape_of_same (n.spend_shape 2) (by simp)
  unfold Node.deliverGood
  split
  · exact (hb _).trans ((hr _).trans hs)
  · exact (hr _).trans ((hb _).trans hs)

/-- A frame judged bad, or bearing the own number: one fault and one report (R137, R138). -/
theorem Node.badFrame_keepsShape {m n : Node} (h : m.shape = n.shape) : m.finish.KeepsShape n :=
  (Node.shapedOn_of_shape h).finish

theorem Node.receive_keepsShape (sender : Nat) (f : Frame) (n : Node) :
    (n.receive sender f).KeepsShape n := by
  have hi : n.lineIdle.KeepsShape n := Node.keepsShape_of_same rfl rfl
  unfold Node.receive
  split
  · exact .refl n
  · split
    · exact hi
    · split
      · exact Node.badFrame_keepsShape ((Node.report_shape _ _).trans rfl)
      · split
        · exact Node.badFrame_keepsShape ((Node.fault_shape _ _).trans ((Node.report_shape _ _).trans rfl))
        · exact (Node.deliverGood_keepsShape _ _ _).trans
            ((Node.keepsShape_of_same (Node.report_shape _ _) (by simp)).trans hi)

theorem Node.discard_keepsShape (bytes : List Byte) (badStop : Option Nat) (n : Node) :
    (n.discard bytes badStop).KeepsShape n := by
  unfold Node.discard
  split
  · exact .refl n
  · split
    · exact Node.keepsShape_of_same rfl rfl
    · split
      · exact Node.badFrame_keepsShape ((Node.report_shape _ _).trans rfl)
      · exact Node.badFrame_keepsShape ((Node.report_shape _ _).trans rfl)
      · exact .refl n

theorem Node.announceStop_keepsShape (cause : Nat) (n : Node) :
    (n.announceStop cause).KeepsShape n := by
  unfold Node.announceStop
  split
  · exact n.respond_keepsShape ..
  · exact .done _ (n.announce_shapedOn _ _).finish

theorem Node.announceTrip_keepsShape (cause : Nat) (n : Node) :
    (n.announceTrip cause).KeepsShape n := by
  unfold Node.announceTrip
  split
  · exact n.respond_keepsShape ..
  · exact .done _ (Node.ShapedOn.finish
      (Node.ShapedOn.reshape (n.announce_shapedOn true (n.localAnnouncement cause)) rfl))

theorem Node.propose_keepsShape (code : Nat) (n : Node) : (n.propose code).KeepsShape n := by
  have hm : ∀ v, (n.makeProposal v).ShapedOn n := fun v =>
    (Node.offer_shapedOn _ _).trans (Node.shapedOn_of_shape rfl)
  unfold Node.propose
  split
  · exact n.respond_keepsShape ..
  · split
    · exact n.respond_keepsShape ..
    · split
      · exact n.respond_keepsShape ..
      · split
        · exact n.respond_keepsShape ..
        · split
          · exact n.respond_keepsShape ..
          · exact .done _ (hm _).finish

theorem Node.setHold_keepsShape (n : Node) : n.setHold.KeepsShape n := by
  unfold Node.setHold
  split
  · exact n.respond_keepsShape ..
  · exact .done _ (Node.ShapedOn.finish (Node.shapedOn_of_shape rfl))

theorem Node.clearHold_keepsShape (n : Node) : n.clearHold.KeepsShape n := by
  unfold Node.clearHold
  split
  · exact Node.keepsShape_of_same rfl rfl
  · exact n.respond_keepsShape ..

theorem Node.ackTrip_keepsShape (n : Node) : n.ackTrip.KeepsShape n := by
  unfold Node.ackTrip
  split
  · exact Node.keepsShape_of_same rfl rfl
  · exact n.respond_keepsShape ..

/-! #### Marks -/

theorem Node.postPoint_keepsShape (c : Claim) (k : MarkKind) (id p beam : Nat) {m n : Node}
    (h : m.ShapedOn n) : (m.postPoint c k id p beam).KeepsShape n :=
  .done _ (((m.stampPoint_shapedOn c k id p).trans h).reshape (Node.report_shape _ _)).finish

theorem Node.postMark_keepsShape (kind id : Nat) (n : Node) : (n.postMark kind id).KeepsShape n := by
  have hk : (n.postKnot id).KeepsShape n := Node.postPoint_keepsShape _ _ _ _ _
    ((Node.knotClaim_shapedOn { n with marks.beamSet := id }).trans (Node.shapedOn_of_shape rfl))
  have hc : n.postCut.KeepsShape n := Node.postPoint_keepsShape _ _ _ _ _ (Node.shapedOn_of_shape rfl)
  have ha : ∀ k, (n.postAtPoint k id).KeepsShape n := fun k =>
    Node.postPoint_keepsShape _ _ _ _ _ (.refl n)
  unfold Node.postMark
  split
  · split
    · exact n.respond_keepsShape ..
    · split
      · exact n.respond_keepsShape ..
      · exact hk
  · split
    · exact n.respond_keepsShape ..
    · exact hc
  · split
    · exact n.respond_keepsShape ..
    · exact ha _
  · split
    · exact n.respond_keepsShape ..
    · exact ha _
  · exact n.respond_keepsShape ..

theorem Node.openMark_keepsShape (id : Nat) (n : Node) : (n.openMark id).KeepsShape n := by
  unfold Node.openMark
  split
  · exact n.respond_keepsShape ..
  · exact .done _ (n.openSpan_shapedOn _ _).finish

theorem Node.closeMark_keepsShape (id : Nat) (n : Node) : (n.closeMark id).KeepsShape n := by
  unfold Node.closeMark
  split
  · exact n.respond_keepsShape ..
  · split
    · exact n.respond_keepsShape ..
    · exact .done _ (Node.ShapedOn.finish (Node.shapedOn_marks rfl List.length_eraseP_le.trans))

/-! #### The Sensor Port -/

theorem Node.beginPoll_keepsShape {m n : Node} (h : m.KeepsShape n) : m.beginPoll.KeepsShape n :=
  (Node.keepsShape_of_same m.beginPoll_shape (by simp)).trans h

theorem Node.pollPoint_keepsShape (ch : Nat) (n : Node) : (n.pollPoint ch).KeepsShape n := by
  unfold Node.pollPoint
  split
  · exact Node.beginPoll_keepsShape (Node.keepsShape_of_same rfl rfl)
  · exact .refl n

theorem Node.completeTransaction_keepsShape (ssdi : BitVec 64) (n : Node) :
    (n.completeTransaction ssdi).KeepsShape n := by
  unfold Node.completeTransaction
  split
  · exact .refl n
  · have hu := fun t reply => Node.useReply_shapedOn t reply { n with sensor.transaction := none }
    have hb := fun t reply => ((Node.changeMode_shapedOn _).trans (hu t reply)).reshape
      (Node.beginPoll_shape _)
    exact Node.ShapedOn.finish ((hb _ _).trans (Node.shapedOn_of_shape rfl))

theorem Node.setMode_keepsShape (code : Nat) (n : Node) : (n.setMode code).KeepsShape n := by
  have ha : ∀ r {m : Node}, m.KeepsShape n → (m.answerMode r).KeepsShape n := fun _ _ h => h.respond ..
  unfold Node.setMode
  split
  · exact n.respond_keepsShape ..
  · unfold Node.requestMode
    split
    · split
      · exact ha _ (.refl n)
      · split
        · exact ha _ (Node.keepsShape_of_same rfl rfl)
        · exact ha _ (Node.beginPoll_keepsShape (Node.keepsShape_of_same rfl rfl))
    · split
      · exact ha _ (.refl n)
      · exact ha _ (Node.beginPoll_keepsShape (Node.keepsShape_of_same rfl rfl))

theorem Node.transact_keepsShape (args : List Byte) (n : Node) : (n.transact args).KeepsShape n := by
  have hb : ∀ i k c, (n.beginManual i k c).KeepsShape n := fun _ _ _ =>
    Node.keepsShape_of_same rfl rfl
  unfold Node.transact
  dsimp only
  split_ifs
  case neg => exact .done _ (hb _ _ _)
  all_goals exact n.respond_keepsShape ..

theorem Node.sensorRead_keepsShape (n : Node) : n.sensorRead.KeepsShape n := by
  unfold Node.sensorRead
  split
  · exact n.respond_keepsShape ..
  · split
    · exact n.respond_keepsShape ..
    · exact n.respond_keepsShape ..

/-! #### Counters, notices and timers -/

theorem Node.counterSelect_keepsShape (args : List Byte) (n : Node) :
    (n.counterSelect args).KeepsShape n := by
  unfold Node.counterSelect
  dsimp only
  split
  · exact n.respond_keepsShape ..
  · split
    · exact n.respond_keepsShape ..
    · split
      · exact n.respond_keepsShape ..
      · split
        · exact n.respond_keepsShape ..
        · split
          · exact n.respond_keepsShape ..
          · exact Node.keepsShape_of_same rfl rfl

theorem Node.freeze_keepsShape (n : Node) : n.freeze.KeepsShape n := by
  unfold Node.freeze
  split
  · exact n.respond_keepsShape ..
  · exact Node.keepsShape_of_same rfl rfl

theorem Node.thaw_keepsShape (n : Node) : n.thaw.KeepsShape n := by
  unfold Node.thaw
  split
  · exact Node.keepsShape_of_same rfl rfl
  · exact n.respond_keepsShape ..

theorem Node.clearNotices_keepsShape (v : Nat) (n : Node) : (n.clearNotices v).KeepsShape n := by
  unfold Node.clearNotices
  split
  · exact n.respond_keepsShape ..
  · exact Node.keepsShape_of_same rfl rfl

theorem Node.setNoticeMask_keepsShape (v : Nat) (n : Node) : (n.setNoticeMask v).KeepsShape n := by
  unfold Node.setNoticeMask
  split
  · exact n.respond_keepsShape ..
  · exact Node.keepsShape_of_same rfl rfl

theorem Node.voteTimeout_keepsShape (n : Node) : n.voteTimeout.KeepsShape n := by
  unfold Node.voteTimeout
  split
  · exact (Node.shapedOn_of_shape (n.endOwn_shape _)).finish
  · exact .refl n

theorem Node.standstillSecond_keepsShape (n : Node) : n.standstillSecond.KeepsShape n := by
  unfold Node.standstillSecond
  split
  · exact n.timerSecond_shapedOn.finish
  · exact .refl n

theorem Node.timeBase_keepsShape (n : Node) : n.timeBase.KeepsShape n := by
  unfold Node.timeBase
  split
  · exact Node.keepsShape_of_same (n.addCounters_shape _) (by simp [Node.countMillisecond])
  · exact .refl n

/-- A proposal view closed (R99). -/
theorem Node.closeView_keepsShape (n : Node) :
    ({ n with line.proposalView := none } : Node).KeepsShape n := Node.keepsShape_of_same rfl rfl

/-! #### The step -/

/-- A command whose effect on the part keeps the shape. -/
theorem State.act_keepsShape {f : Node → Node} (hf : ∀ n, (f n).KeepsShape n) {s t : State}
    (h : s.act f = .next t) : t.node.KeepsShape s.node := by
  cases h
  exact hf s.node

/-- Every command keeps the capacities and the chain. -/
theorem exec_keepsShape (c : Instr) (s t : State) (h : exec c s = .next t) :
    t.node.KeepsShape s.node := by
  cases c with
  | powerOnReset enc held => exact State.act_keepsShape (Node.reset_keepsShape enc held) h
  | configure args =>
    exact State.act_keepsShape (Node.request_keepsShape 168 args (Node.configure_keepsShape args)) h
  | start args => exact State.act_keepsShape (Node.request_keepsShape 0 args Node.start_keepsShape) h
  | restart args => exact State.act_keepsShape (Node.request_keepsShape 0 args Node.restart_keepsShape) h
  | readStatus args =>
    exact State.act_keepsShape (Node.request_keepsShape 0 args fun n => n.answerRead_keepsShape _) h
  | readWindow args =>
    exact State.act_keepsShape
      (Node.configuredRequest_keepsShape 2 args fun n => n.ranged_keepsShape 47 args _) h
  | readRoster args =>
    exact State.act_keepsShape
      (Node.configuredRequest_keepsShape 2 args fun n => n.ranged_keepsShape 23 args _) h
  | readLog args =>
    exact State.act_keepsShape (Node.configuredRequest_keepsShape 0 args Node.readLog_keepsShape) h
  | readFaults args =>
    exact State.act_keepsShape
      (Node.configuredRequest_keepsShape 0 args fun n => n.answerRead_keepsShape _) h
  | clearFaults args =>
    exact State.act_keepsShape
      (Node.configuredRequest_keepsShape 0 args Node.clearFaults_keepsShape) h
  | postMark args =>
    exact State.act_keepsShape
      (Node.request_keepsShape 3 args (Node.whenTracking_keepsShape (Node.postMark_keepsShape _ _))) h
  | openMark args =>
    exact State.act_keepsShape
      (Node.request_keepsShape 2 args (Node.whenTracking_keepsShape (Node.openMark_keepsShape _))) h
  | closeMark args =>
    exact State.act_keepsShape
      (Node.request_keepsShape 2 args (Node.whenTracking_keepsShape (Node.closeMark_keepsShape _))) h
  | announceStop args =>
    exact State.act_keepsShape (Node.configuredRequest_keepsShape 1 args (Node.announceStop_keepsShape _)) h
  | announceTrip args =>
    exact State.act_keepsShape (Node.configuredRequest_keepsShape 1 args (Node.announceTrip_keepsShape _)) h
  | propose args =>
    exact State.act_keepsShape (Node.configuredRequest_keepsShape 1 args (Node.propose_keepsShape _)) h
  | setHold args =>
    exact State.act_keepsShape (Node.configuredRequest_keepsShape 0 args Node.setHold_keepsShape) h
  | clearHold args =>
    exact State.act_keepsShape (Node.configuredRequest_keepsShape 0 args Node.clearHold_keepsShape) h
  | ackTrip args =>
    exact State.act_keepsShape (Node.configuredRequest_keepsShape 0 args Node.ackTrip_keepsShape) h
  | setParticipation args =>
    exact State.act_keepsShape
      (Node.configuredRequest_keepsShape 1 args (Node.setParticipation_keepsShape args)) h
  | returnToEncoder args =>
    exact State.act_keepsShape
      (Node.configuredRequest_keepsShape 0 args Node.returnToEncoder_keepsShape) h
  | sensorMode args =>
    exact State.act_keepsShape (Node.configuredRequest_keepsShape 1 args (Node.setMode_keepsShape _)) h
  | sensorTransact args =>
    refine State.act_keepsShape (Node.takeRequest_keepsShape fun n => ?_) h
    split
    · exact Node.whenConfigured_keepsShape (Node.transact_keepsShape args) n
    · exact n.respond_keepsShape ..
  | sensorRead args =>
    exact State.act_keepsShape (Node.configuredRequest_keepsShape 0 args Node.sensorRead_keepsShape) h
  | counterSelect args =>
    exact State.act_keepsShape
      (Node.configuredRequest_keepsShape 5 args (Node.counterSelect_keepsShape args)) h
  | counterRead args =>
    exact State.act_keepsShape
      (Node.configuredRequest_keepsShape 0 args fun n => n.respond_keepsShape ..) h
  | freeze args =>
    exact State.act_keepsShape (Node.configuredRequest_keepsShape 0 args Node.freeze_keepsShape) h
  | thaw args =>
    exact State.act_keepsShape (Node.configuredRequest_keepsShape 0 args Node.thaw_keepsShape) h
  | readNotices args =>
    exact State.act_keepsShape (Node.request_keepsShape 0 args fun n => n.respond_keepsShape ..) h
  | clearNotices args =>
    exact State.act_keepsShape (Node.request_keepsShape 2 args (Node.clearNotices_keepsShape _)) h
  | setNoticeMask args =>
    exact State.act_keepsShape (Node.request_keepsShape 2 args (Node.setNoticeMask_keepsShape _)) h
  | unknownRequest kind args =>
    exact State.act_keepsShape (Node.takeRequest_keepsShape (Node.unknownRequest_keepsShape kind)) h
  | quadratureChange a b => exact State.act_keepsShape (Node.quadrature_keepsShape a b) h
  | stall => exact State.act_keepsShape Node.stall_keepsShape h
  | derivedAdvance => exact State.act_keepsShape Node.derivedPoint_keepsShape h
  | referenceAbsent => exact State.act_keepsShape Node.referenceLapse_keepsShape h
  | speedIntervalEnd => exact State.act_keepsShape Node.intervalPoint_keepsShape h
  | receiveStatus sender p => exact State.act_keepsShape (Node.receive_keepsShape sender _) h
  | receiveHandoff sender p => exact State.act_keepsShape (Node.receive_keepsShape sender _) h
  | receiveStop sender p => exact State.act_keepsShape (Node.receive_keepsShape sender _) h
  | receiveTrip sender p => exact State.act_keepsShape (Node.receive_keepsShape sender _) h
  | receivePropose sender p => exact State.act_keepsShape (Node.receive_keepsShape sender _) h
  | receiveAssent sender i => exact State.act_keepsShape (Node.receive_keepsShape sender _) h
  | receiveHold sender p => exact State.act_keepsShape (Node.receive_keepsShape sender _) h
  | receiveEnact sender p => exact State.act_keepsShape (Node.receive_keepsShape sender _) h
  | receiveFault sender p => exact State.act_keepsShape (Node.receive_keepsShape sender _) h
  | frameDiscarded bytes badStop => exact State.act_keepsShape (Node.discard_keepsShape bytes badStop) h
  | entrySilent station =>
    exact State.act_keepsShape
      (fun n => (n.silence_shapedOn station).finish) h
  | transmitBegin => exact State.act_keepsShape Node.transmitBegin_keepsShape h
  | transmitComplete => exact State.act_keepsShape Node.transmitComplete_keepsShape h
  | collision => exact State.act_keepsShape Node.collision_keepsShape h
  | lineJam => exact State.act_keepsShape Node.lineJam_keepsShape h
  | statusTimer => exact State.act_keepsShape Node.statusPoint_keepsShape h
  | joinTimerExpiry => exact State.act_keepsShape Node.joinExpired_keepsShape h
  | voteTimeout => exact State.act_keepsShape Node.voteTimeout_keepsShape h
  | proposalViewTimeout => exact State.act_keepsShape Node.closeView_keepsShape h
  | standstillSecond => exact State.act_keepsShape Node.standstillSecond_keepsShape h
  | pollTimerExpiry ch => exact State.act_keepsShape (Node.pollPoint_keepsShape ch) h
  | transactionComplete ssdi => exact State.act_keepsShape (Node.completeTransaction_keepsShape ssdi) h
  | timeBaseMillisecond => exact State.act_keepsShape Node.timeBase_keepsShape h

/-- Time that passes leaves every collection (log 2). -/
theorem Node.pass_keepsShape (n : Node) : n.pass.KeepsShape n := by
  obtain ⟨bus, hb, hp⟩ := n.pass_cases
  have hq : bus.queue = n.bus.queue := by rw [hb]
  have hbus : ({ n with bus := bus } : Node).KeepsShape n :=
    Node.keepsShape_of_same (congrArg (fun q => { n.shape with queue := q }) hq) rfl
  have ht : ∀ m : Node, m.tick.KeepsShape m := fun m =>
    ⟨Node.shapedOn_others rfl fun h => (List.length_map RosterEntry.tick).trans_le h, id⟩
  rcases hp with hp | hp
  · rw [hp]
    exact hbus
  · rw [hp]
    exact (ht _).trans hbus

/-- A step keeps the capacities and the chain, with a command or without one (log 2). -/
theorem step_keepsShape (s t : State) (h : step s = .next t) : t.node.KeepsShape s.node := by
  have hdue : ∀ k c (n : Node), (n.takingDue k c).KeepsShape n := fun k c n =>
    Node.keepsShape_of_same (n.spend_shape k) (congrArg FaultUnit.reported (by simp [Node.takingDue]))
  unfold step at h
  split at h
  · unfold State.idleStep at h
    split at h
    · cases h
      exact .refl _
    · split at h
      · exact (exec_keepsShape _ _ _ h).trans (hdue _ _ _)
      · cases h
        exact s.node.pass_keepsShape
  · rename_i c rest _
    exact exec_keepsShape c { s with pending := rest } t h

/-- Settles O5: what joins a collection joins one that has room, or takes the place of what it gives up;
and a block is done with an event only when its faults have been taken. -/
theorem stepsKeepCapacities : Obligations.StepsKeepCapacities := by
  intro s t hn h
  obtain ⟨hshaped, hreported⟩ := step_keepsShape s t h
  obtain ⟨hs, hr⟩ := s.node.withinCapacity_iff.1 hn
  exact t.node.withinCapacity_iff.2 ⟨hshaped.sized hs, hreported hr⟩

/-- Settles O6: a boundary closes the entering record at the tracking length, where the next begins with
the successor of its last number; the oldest record leaves, and every other change keeps positions and
ranges. -/
theorem stepsKeepWindowChained : Obligations.StepsKeepWindowChained :=
  fun s t hn h => (step_keepsShape s t h).shaped.chained hn

end Sys2Proof.Machine

/-! ### START (R178) -/

namespace Sys2Proof.Machine

/-- START begins every block (R178). -/
theorem Node.begun_begun (tap : LineTap) (n : Node) : (n.begun tap).Begun := ⟨rfl, rfl, rfl, rfl, rfl⟩

/-- START accepted: the blocks settled, PARTICIPATION_CHANGED, DONE (R178). -/
theorem Node.started_eq (n : Node) : n.started = Node.done []
    (Node.notice Notice.participationChanged (n.begun (LineTap.initial n.bus.tap.others)).settled) := rfl

/-- The choices made again keep the notices that are set (R129, R181). -/
theorem Node.remakeChoices_keepsNotices (n : Node) : n.remakeChoices.keepsNotices n := by
  have hu : n.remakeUpstream.keepsNotices n := by
    unfold Node.remakeUpstream
    split
    · exact fun _ h => h
    · exact Node.notice_keepsNotices _ _
  have hr : ∀ m : Node, m.refreshReference.port = m.port := by
    intro m
    unfold Node.refreshReference
    split <;> rfl
  intro i hi
  have hport : n.remakeChoices.port = n.remakeUpstream.port := hr _
  unfold Node.noticed
  rw [hport]
  exact hu i hi

/-- Settling at START keeps the notices that are set (R181). -/
theorem Node.settled_keepsNotices (n : Node) : n.settled.keepsNotices n := by
  intro i hi
  have hport : n.settled.port = n.remakeChoices.port := by simp [Node.settled]
  unfold Node.noticed
  rw [hport]
  exact n.remakeChoices_keepsNotices i hi

/-- A notice raised is set (R181). -/
theorem Node.noticed_notice_same (i : Nat) (n : Node) (h : i < 16) : (n.notice i).noticed i = true := by
  simp [Node.noticed_notice i i n h]

/-- Settles O16: the blocks as START begins them, then settled. -/
theorem startBeginsJoining : Obligations.StartBeginsJoining := by
  intro s hu hh hvalid
  obtain ⟨b, hb⟩ : ∃ b, b = s.node.begun (LineTap.initial s.node.bus.tap.others) := ⟨_, rfl⟩
  have hbegun : b.Begun := hb ▸ s.node.begun_begun _
  have hframe := hbegun.settled_frame
  have hcell := hbegun.settled_cell
  have hsensors := hbegun.settled_sensors
  have hhandover := hbegun.settled_handover
  have hprotection := hbegun.settled_protection
  have hfollow := (b.settled_follows (by rw [hb]; rfl)).2
  have hnotices := b.settled_keepsNotices
  have hstart : s.node.start = Node.done [] (Node.notice Notice.participationChanged b.settled) := by
    have hc : s.node.configured = false := s.node.configured_eq_false.2 hu
    rw [Node.start, hc, hvalid, hb]
    rfl
  have hexec : exec (.start []) s = .next { s with node := s.node.start } :=
    State.act_eq (Node.request_taken (len := 0) _ (by simp [Node.inReset, hh]) rfl)
  rw [hstart] at hexec
  refine ⟨_, hexec, rfl, ?_⟩
  dsimp only
  generalize b.settled = m at hframe hcell hsensors hhandover hprotection hfollow hnotices ⊢
  subst hb
  obtain ⟨hconf, hlen, hwin, hmarks, hline, hbus, hfaults, hfrozen, -, hmask, -, hwired, hroster,
    hhand⟩ := hframe
  refine ⟨hconf, hbus, hlen, hwin, hmarks, hline, hprotection, hwired, ?_, ?_, ?_, hhandover,
    hsensors, ?_, hfrozen, fun i => ?_, hfaults, m.noticed_notice_same _ (by decide), fun i hi => ?_,
    hmask, rfl⟩
  · exact congrArg Roster.others hroster
  · exact congrArg Roster.highest hroster
  · exact (congrArg Roster.upstream hroster).trans (congrArg Handover.neighbour hhand).symm
  · exact Node.countersFollow_of_followers (n := m) rfl hfollow
  · obtain ⟨hvalue, -, hsel⟩ := hcell i
    exact ⟨hvalue, hsel⟩
  · exact m.notice_keepsNotices _ i (hnotices i hi)

end Sys2Proof.Machine

/-! ### Content filled and merged (R21, R29, R30, R46) -/

namespace Sys2Proof.Machine

/-- What an entry offered adds to a record is a matter of the record's mark list (R46, R47). -/
theorem offerEntry_adds (m : MarkEntry) (marks : List MarkEntry) :
    ∃ (marks' : List MarkEntry) (flags : BitVec 16) (summary : BitVec 8), ∀ b : Body, b.marks = marks →
      offerEntry m b = { b with
        marks := marks', flags := b.flags ||| flags, summary := b.summary ||| summary } := by
  by_cases hdup : holdsEntry m marks = true
  · refine ⟨marks, 0, 1#8 <<< (m.kind.code - 1), fun b hb => ?_⟩
    simp [offerEntry, addEntry, offerOutcome, summarize, hb, hdup]
  · by_cases hroom : marks.length < Config.markListCapacity
    · refine ⟨marks ++ [m], 0, 1#8 <<< (m.kind.code - 1), fun b hb => ?_⟩
      simp [offerEntry, addEntry, offerOutcome, summarize, hb, hdup, hroom]
    · refine ⟨marks, 1#16 <<< RecordFlag.marksOverflow, 1#8 <<< (m.kind.code - 1), fun b hb => ?_⟩
      simp [offerEntry, addEntry, offerOutcome, summarize, hb, hdup, hroom, setFlag]

/-- What entries offered in order add is a matter of the mark list too (R29, R46). -/
theorem offerAll_adds (ms marks : List MarkEntry) :
    ∃ (marks' : List MarkEntry) (flags : BitVec 16) (summary : BitVec 8), ∀ b : Body, b.marks = marks →
      offerAll ms b = { b with
        marks := marks', flags := b.flags ||| flags, summary := b.summary ||| summary } := by
  induction ms generalizing marks with
  | nil =>
    refine ⟨marks, 0, 0, fun b hb => ?_⟩
    simp [offerAll, ← hb]
  | cons m ms ih =>
    obtain ⟨marks1, flags1, summary1, h1⟩ := offerEntry_adds m marks
    obtain ⟨marks2, flags2, summary2, h2⟩ := ih marks1
    refine ⟨marks2, flags1 ||| flags2, summary1 ||| summary2, fun b hb => ?_⟩
    have hstep : offerAll (m :: ms) b = offerAll ms (offerEntry m b) := rfl
    rw [hstep, h2 _ (by rw [h1 b hb]), h1 b hb]
    simp [BitVec.or_assoc]

/-- An origin length removed is all that the removal changes (R21). -/
theorem dropOrigin_eq (b : Body) : dropOrigin b = { b with
    origin := if b.content = .provisional ∨ hasFlag RecordFlag.isPartial b = true then none
      else b.origin } := by
  unfold dropOrigin
  split <;> rfl

/-- What filling and merging treat alike, field by field (R29, R30, R46). -/
theorem joinCommon_eq (own carried : Body) : joinCommon own carried = { own with
    flags := own.flags ||| carried.flags ||| (offerAll carried.marks own).flags
    skip := min Config.maxSkip (own.skip + carried.skip)
    dwell := min Config.max16 (own.dwell + carried.dwell)
    trail := if carried.trail = [] then own.trail else carried.trail
    marks := (offerAll carried.marks own).marks
    summary := (offerAll carried.marks own).summary ||| carried.summary } := by
  obtain ⟨marks, flags, summary, h⟩ := offerAll_adds carried.marks own.marks
  have hor : ∀ a b c : BitVec 16, a ||| b ||| (a ||| c) = a ||| b ||| c := by
    intro a b c
    rw [← BitVec.or_assoc, BitVec.or_comm (a ||| b) a, ← BitVec.or_assoc, BitVec.or_self]
  have hjoined := h { own with
      flags := own.flags ||| carried.flags
      skip := addHold Config.maxSkip own.skip carried.skip
      dwell := addHold Config.max16 own.dwell carried.dwell
      trail := if carried.trail.isEmpty then own.trail else carried.trail } rfl
  rw [h own rfl]
  unfold joinCommon
  rw [hjoined]
  simp only [hor, addHold, List.isEmpty_iff]

/-- A field that filling and merging leave to `joinCommon` is its field in both (R29, R30). -/
theorem fill_merge_common (own carried : Body) : ∀ b ∈ [fillBody own carried, mergeBody own carried],
    b.first = own.first ∧ b.last = own.last ∧ b.skip = (joinCommon own carried).skip ∧
    b.dwell = (joinCommon own carried).dwell ∧ b.trail = (joinCommon own carried).trail ∧
    b.marks = (joinCommon own carried).marks ∧ b.flags = (joinCommon own carried).flags ∧
    b.summary = (joinCommon own carried).summary := by
  obtain ⟨hf1, hf2⟩ := fillBody_range own carried
  obtain ⟨hm1, hm2⟩ := mergeBody_range own carried
  simp only [List.forall_mem_cons, List.not_mem_nil, false_implies, implies_true, and_true]
  refine ⟨⟨hf1, hf2, ?_⟩, ⟨hm1, hm2, ?_⟩⟩
  · simp [fillBody, dropOrigin_eq]
  · simp [mergeBody, dropOrigin_eq]

/-- A reading after filling and after merging (R29, R30). -/
theorem reading_cases (own carried : Option Reading) :
    (own = none → fillReading own carried = carried ∧ mergeReading own carried = carried) ∧
    (carried = none → fillReading own carried = own ∧ mergeReading own carried = own) ∧
    ∀ o c, own = some o → carried = some c →
      fillReading own carried = some { value := o.value, count := min 65535 (o.count + c.count) } ∧
      mergeReading own carried = some { value := c.value, count := min 65535 (o.count + c.count) } := by
  refine ⟨?_, ?_, ?_⟩
  · rintro rfl
    cases carried <;> exact ⟨rfl, rfl⟩
  · rintro rfl
    cases own <;> exact ⟨rfl, rfl⟩
  · rintro o c rfl rfl
    exact ⟨rfl, rfl⟩

/-- The readings after filling and after merging, and what else each sets (R29, R30). -/
theorem fillBody_fields (own carried : Body) :
    let fill := fillBody own carried
    fill.content = carried.content ∧ fill.nominal = carried.nominal ∧ fill.beamSet = carried.beamSet ∧
    fill.origin = (if fill.content = .provisional ∨ hasFlag RecordFlag.isPartial fill = true then none
      else carried.origin) ∧
    fill.pickup = fillReading own.pickup carried.pickup ∧
    fill.moisture = fillReading own.moisture carried.moisture ∧
    fill.tension = fillReading own.tension carried.tension := by
  intro fill
  have h : fill = _ := dropOrigin_eq _
  rw [h]
  exact ⟨rfl, rfl, rfl, rfl, rfl, rfl, rfl⟩

theorem mergeBody_fields (own carried : Body) :
    let merge := mergeBody own carried
    merge.content =
      (if own.content = .provisional ∨ carried.content = .provisional then .provisional else .filled) ∧
    merge.nominal = mergeNominal own.nominal carried.nominal ∧
    merge.beamSet = (if own.beamSet = carried.beamSet then own.beamSet else 0) ∧
    merge.origin = (if merge.content = .provisional ∨ hasFlag RecordFlag.isPartial merge = true then none
      else mergeOrigin own.origin carried.origin) ∧
    merge.pickup = mergeReading own.pickup carried.pickup ∧
    merge.moisture = mergeReading own.moisture carried.moisture ∧
    merge.tension = mergeReading own.tension carried.tension := by
  intro merge
  have h : merge = _ := dropOrigin_eq _
  rw [h]
  exact ⟨rfl, rfl, rfl, rfl, rfl, rfl, rfl⟩

/-- Settles O34. -/
theorem contentFillsAndMerges : Obligations.ContentFillsAndMerges := by
  intro own carried
  obtain ⟨hfc, hfn, hfb, hfo, hfp, hfm, hft⟩ := fillBody_fields own carried
  obtain ⟨hmc, hmn, hmb, hmo, hmp, hmm, hmt⟩ := mergeBody_fields own carried
  refine ⟨fun b hb => ?_, ⟨hfc, hfn, hfo, hfb⟩, ⟨hmc, fun x y hx hy => ?_, fun h => ?_, fun h => ?_,
    fun x y hx hy => ?_, fun h => ?_, hmb⟩, fun field hfield => ?_, rfl⟩
  · have h := fill_merge_common own carried b hb
    rw [joinCommon_eq] at h
    exact h
  · rw [hmn, hx, hy]
    rfl
  · rw [hmn, h]
    cases carried.nominal <;> rfl
  · rw [hmn, h]
    cases own.nominal <;> rfl
  · rw [hx, hy] at hmo
    exact hmo
  · have hnone : mergeOrigin own.origin carried.origin = none := by
      rcases h with h | h
      · rw [h]
        rfl
      · rw [h]
        cases own.origin <;> rfl
    rw [hmo, hnone, ite_self]
  · rcases hfield with rfl | rfl | rfl
    · dsimp only
      rw [hfp, hmp]
      exact reading_cases _ _
    · dsimp only
      rw [hfm, hmm]
      exact reading_cases _ _
    · dsimp only
      rw [hft, hmt]
      exact reading_cases _ _

end Sys2Proof.Machine

/-! ### The entering record cut or declared late (R28, R33, R35, R36, R38 to R40, R45) -/

namespace Sys2Proof.Machine

/-- A fault reported and an event reported meet different blocks, in either order (R170, R183). -/
theorem Node.fault_report (k : FaultKind) (e : CounterEvent) (n : Node) :
    (n.report e).fault k = (n.fault k).report e := by
  have hc : (n.fault k).counters = n.counters := rfl
  unfold Node.report Node.addCounters
  rw [hc]
  split
  · rfl
  · split <;> rfl

/-- With an entering record the window is full at 47 closed records (R24). -/
theorem Window.full_iff (w : Window) (e : EnteringRecord) (he : w.entering = some e) :
    w.full = true ↔ 47 ≤ w.closed.length := by
  simp [Window.full, Window.count, he, bit, Config.windowCapacity]

/-- A shorter record is left at the ORIGIN (R33). -/
theorem Node.testEntering_short (n : Node) (e : EnteringRecord) (expected : Nat)
    (ho : n.isOrigin = true) (he : n.window.entering = some e) (hx : e.expected = some expected)
    (h : n.len.tracking - e.expectFrom < expected) : n.testEntering = n := by
  simp [Node.testEntering, he, ho, cutMet, hx, Nat.not_le.2 h]

/-- A record that has its expected length is cut at the ORIGIN (R33). -/
theorem Node.testEntering_cut (n : Node) (e : EnteringRecord) (expected : Nat)
    (ho : n.isOrigin = true) (he : n.window.entering = some e) (hx : e.expected = some expected)
    (h : expected ≤ n.len.tracking - e.expectFrom) : n.testEntering = n.cut n.len.tracking e := by
  simp [Node.testEntering, he, ho, cutMet, hx, h]

/-- Elsewhere a record that meets the late test is declared late (R35, R36). -/
theorem Node.testEntering_late (n : Node) (e : EnteringRecord) (ho : n.isOrigin = false)
    (he : n.window.entering = some e) (h : n.lateMet n.len.tracking e = true) :
    n.testEntering = n.declareLate n.len.tracking e := by
  simp [Node.testEntering, he, ho, h]

/-- The late test (R35). -/
theorem Node.lateMet_iff (n : Node) (l expected : Nat) (e : EnteringRecord)
    (hx : e.expected = some expected) : n.lateMet l e = true ↔
      expected * (100 + n.config.lateMargin) / 100 + n.handover.allowance < l - e.expectFrom ∧
      ∀ a ∈ n.handover.arrivals,
        rangesOverlap a.body.first a.body.last e.body.first e.body.last = false := by
  have ho : (!n.arrivalOverlaps e.body) = true ↔ ∀ a ∈ n.handover.arrivals,
      rangesOverlap a.body.first a.body.last e.body.first e.body.last = false := by
    simp [Node.arrivalOverlaps]
  rw [Node.lateMet, hx, ← ho]
  exact (Bool.and_eq_true_iff).trans (and_congr_left' decide_eq_true_iff)

/-- Settles O30: the test of the entering record, with room in the window and without. -/
theorem enteringRecordIsCutOrDeclaredLate : Obligations.EnteringRecordIsCutOrDeclaredLate := by
  refine ⟨fun n e expected ho he hx => ⟨fun h => ?_, fun h hroom => ?_, fun h hfull => ?_⟩,
    fun n e expected ho he hx => ⟨n.lateMet_iff _ _ _ hx, fun h hroom => ?_, fun h hfull => ?_⟩⟩
  · exact n.testEntering_short e expected ho he hx h
  · have hf : ¬n.window.full = true := by rw [Window.full_iff _ e he]; omega
    rw [n.testEntering_cut e expected ho he hx h, Node.cut, if_neg hf, Node.closeEntering,
      Node.newEntering, if_pos ho]
    rfl
  · rw [n.testEntering_cut e expected ho he hx h, Node.cut, if_pos ((Window.full_iff _ e he).2 hfull)]
    rfl
  · have hf : ¬n.window.full = true := by rw [Window.full_iff _ e he]; omega
    rw [n.testEntering_late e ho he h, Node.declareLate, if_neg hf, Node.closeEntering,
      Node.newEntering, if_neg (by simp [ho]), hx]
    rfl
  · rw [n.testEntering_late e ho he h, Node.declareLate,
      if_pos ((Window.full_iff _ e he).2 hfull), Node.coalesce, Node.fault_report, hx]
    unfold Node.fault
    simp only [List.append_assoc, List.cons_append, List.nil_append]
    rfl

end Sys2Proof.Machine

/-! ### Exit processing (R42, R64 to R67, R82) -/

namespace Sys2Proof.Machine

/-- The oldest record exits when its tail is at the end of the reach: it is handed over, and the faults of
that are taken (R31, R42). -/
theorem Node.takeExits_cons (k : Nat) (r : ClosedRecord) (rest : List ClosedRecord) (n : Node)
    (h : n.window.closed = r :: rest) : n.takeExits (k + 1) =
      if r.tail + n.config.reach ≤ n.len.tracking then
        ((({ n with window.closed := rest } : Node).exitRecord r
          n.followingNominal).takeFaults).takeExits k
      else n := by
  have hexits : n.exits r = true ↔ r.tail + n.config.reach ≤ n.len.tracking := decide_eq_true_iff
  rw [Node.takeExits, h]
  by_cases hx : r.tail + n.config.reach ≤ n.len.tracking
  · rw [if_pos hx]
    exact if_pos (hexits.2 hx)
  · rw [if_neg hx]
    exact if_neg (mt hexits.1 hx)

/-- A record retired joins the beam log, of which a full one loses its oldest entry (R82). -/
theorem Node.retire_eq (b : Body) (len : Nat) (n : Node) : n.retire b len = { n with
    port.notices := n.port.notices ||| (1#16 <<< Notice.logNotEmpty)
    handover.log := (if 32 ≤ n.handover.log.length then n.handover.log.tail else n.handover.log) ++
      [{ body := b, localLength := len, exitLength := n.len.tracking, beam := n.handover.beam }]
    faults.reported := n.faults.reported ++
      (if 32 ≤ n.handover.log.length then [{ kind := .logOverrun, silent := false }] else []) } := by
  by_cases hfull : 32 ≤ n.handover.log.length
  · simp [Node.retire, Config.logCapacity, hfull, Node.notice, Node.fault]
  · simp [Node.retire, Config.logCapacity, hfull, Node.notice]

/-- A HANDOFF offered to a full queue is lost (R67, R140). -/
theorem Node.offer_handoff_full (p : HandoffPayload) (n : Node) (ha : n.active = true)
    (hq : 16 ≤ n.bus.queue.length) :
    n.offer (.handoff p) = (n.fault .handoffDropped).report (CounterEvent.handoffSent 1) := by
  simp [Node.offer, ha, Node.queueFull, Config.outboundCapacity, hq, Node.offerToFull, Frame.cls,
    Node.dropFault, Node.frameLost, QueuedFrame.fresh]

/-- The disposal of an exiting record: by station and participation (R66, R67, R82). -/
theorem Node.dispose_cases (b : Body) (len : Nat) (following : Option Nat) (n : Node) :
    (n.isTerminal = true → n.dispose b len following = n.retire b len) ∧
    (n.isTerminal = false → n.active = true → n.dispose b len following =
      n.offer (.handoff { nextNominal := following, body := b })) ∧
    (n.isTerminal = false → n.active = false →
      n.dispose b len following = n.report (CounterEvent.handoffSent 2)) := by
  refine ⟨fun h => ?_, fun h ha => ?_, fun h ha => ?_⟩
  · simp [Node.dispose, h]
  · simp [Node.dispose, h, ha]
  · simp [Node.dispose, h, ha]

/-- A stretch reported leaves every block but the counters and their notice (R65). -/
theorem Node.reportStretch_frame (r : ClosedRecord) (n : Node) :
    (n.reportStretch r).config = n.config ∧ (n.reportStretch r).len = n.len ∧
    (n.reportStretch r).handover = n.handover ∧ (n.reportStretch r).bus = n.bus ∧
    (n.reportStretch r).faults = n.faults := by
  unfold Node.reportStretch
  split <;> simp

/-- The stretch as its cases give it (R64). -/
theorem stretchOf_eq (len : Nat) (origin : Option Nat) : stretchOf len origin =
    match origin with
    | none => none
    | some 0 => none
    | some o => some (max (-32768) (min 32767 ((((len : Int) - (o : Int)) * 10000).tdiv (o : Int)))) := by
  unfold stretchOf
  rcases origin with _ | _ | o <;> simp

/-- Settles O31: the measurement, then the disposal. -/
theorem recordsExitAndRetire : Obligations.RecordsExitAndRetire := by
  intro n r rest k hclosed left following len stretch older body out measured
  have hstretch : stretchOf len r.body.origin = stretch := stretchOf_eq _ _
  have hbody : left.measured r = body := by
    change (if n.isOrigin then r.body else _) = _
    rw [hstretch]
    rfl
  have hmeasured : left.reportStretch r = measured := by
    change (if n.isOrigin then left else left.report (stretchEvent (stretchOf len r.body.origin))) = _
    rw [hstretch]
    change _ = if n.isOrigin then left else _
    congr 1
    cases stretch <;> rfl
  have hexit : out = left.exitRecord r n.followingNominal := rfl
  have hout : out = measured.dispose body len following := by
    rw [← hmeasured, ← hbody]
    rfl
  obtain ⟨hc, hl, hh, hb, hf⟩ := left.reportStretch_frame r
  rw [hmeasured] at hc hl hh hb hf
  clear_value measured body out stretch
  have hterm : measured.isTerminal = n.isTerminal := by rw [Node.isTerminal, hc]; rfl
  have hact : measured.active = n.active := by rw [Node.active, hb]; rfl
  have hexits := n.takeExits_cons k r rest hclosed
  obtain ⟨hret, hoff, hdis⟩ := measured.dispose_cases body len following
  rw [hterm] at hret hoff hdis
  rw [hact] at hoff hdis
  refine ⟨fun h => ?_, fun h => ?_, fun ht => ?_, fun ht ha hroom => ?_, fun ht ha hfull => ?_,
    fun ht ha => ?_⟩
  · rw [hexits, if_neg (Nat.not_le.2 h)]
  · rw [hexits, if_pos h, hexit]
  · rw [hout, hret ht, Node.retire_eq, hh, hl, hf]
  · have hq : measured.queueFull = false := by
      simpa [Node.queueFull, hb, Config.outboundCapacity] using hroom
    rw [hout, hoff ht ha, Node.offer_room _ _ (hact.trans ha) hq, Node.joinQueue, hb]
  · rw [hout, hoff ht ha, Node.offer_handoff_full _ _ (hact.trans ha) (by rw [hb]; exact hfull),
      Node.fault, hf]
    rfl
  · rw [hout, hdis ht ha]
    rfl

end Sys2Proof.Machine

/-! ### Mild faults taken, and a block done with them (R183) -/

namespace Sys2Proof.Machine

/-- A fault that is not FATAL is counted and reported, in each turn of the Fault Unit (R183). -/
theorem Node.take_mild_eq (n : Node) (r : FaultReport) (h : n.mild) (hk : mildKind r.kind = true) :
    n.takeFault r = (n.countFault r.kind).reportClass (!r.silent) (n.faultClass r.kind) r.kind ∧
    n.takeFollowing r = (n.countFault r.kind).reportClass false (n.faultClass r.kind) r.kind ∧
    n.takeCounted r = (n.countFault r.kind).reportClass false (n.faultClass r.kind) r.kind := by
  have hc := n.faultClass_mild r.kind h hk
  exact ⟨if_neg hc, if_neg hc, if_neg hc⟩

/-- A property of nodes that says nothing of the faults that wait and of the choices left, and that a fault
counted and reported keeps (R183). -/
structure KeptByReports (P : Node → Prop) : Prop where
  waits : ∀ (n : Node) (waiting : List FaultReport) (turns : List Nat), P n →
    P { n with faults.reported := waiting, turns := turns }
  reports : ∀ (frames : Bool) (k : FaultKind) (n : Node), P n →
    P ((n.countFault k).reportClass frames (n.faultClass k) k)

/-- Mild faults taken by a turn that counts and reports them keep such a property. -/
theorem KeptByReports.takeReported {P : Node → Prop} (hP : KeptByReports P)
    {take : Node → FaultReport → Node}
    (ht : ∀ n r, n.mild → mildKind r.kind = true → ∃ frames,
      take n r = (n.countFault r.kind).reportClass frames (n.faultClass r.kind) r.kind)
    {n : Node} (h : n.mild) (hn : P n) :
    (n.takeReported take).mild ∧ P (n.takeReported take) := by
  have hfold : ∀ (l : List FaultReport) (m : Node), (∀ r ∈ l, mildKind r.kind = true) → m.mild → P m →
      (l.foldl take m).mild ∧ P (l.foldl take m) := by
    intro l
    induction l with
    | nil => exact fun _ _ hm hp => ⟨hm, hp⟩
    | cons r l ih =>
      intro m hl hm hp
      obtain ⟨frames, he⟩ := ht m r hm (hl r List.mem_cons_self)
      refine ih _ (fun q hq => hl q (List.mem_cons_of_mem _ hq)) ?_ ?_
      · rw [he]
        exact (Node.takeMild_kept frames r m).2 hm
      · rw [he]
        exact hP.reports frames r.kind m hp
  exact hfold _ _ (fun r hr => h.2 r (mem_permute _ _ _ _ hr))
    ⟨h.1, fun r hr => absurd hr List.not_mem_nil⟩ (hP.waits n _ _ hn)

/-- Mild faults taken keep such a property. -/
theorem KeptByReports.takeFaults {P : Node → Prop} (hP : KeptByReports P) {n : Node} (h : n.mild)
    (hn : P n) : P n.takeFaults := by
  unfold Node.takeFaults
  split
  · exact hn
  · obtain ⟨h1, hp1⟩ := hP.takeReported (fun m r hm hk => ⟨_, (m.take_mild_eq r hm hk).1⟩) h hn
    obtain ⟨h2, hp2⟩ := hP.takeReported (fun m r hm hk => ⟨_, (m.take_mild_eq r hm hk).2.1⟩) h1 hp1
    obtain ⟨-, hp3⟩ := hP.takeReported (fun m r hm hk => ⟨_, (m.take_mild_eq r hm hk).2.2⟩) h2 hp2
    exact hP.waits _ _ _ hp3

/-- Mild faults taken change what reporting them does (R183). -/
theorem Node.takeFaults_upToFaults {n : Node} (h : n.mild) : n.takeFaults.upToFaults n :=
  KeptByReports.takeFaults (P := fun m => m.upToFaults n)
    ⟨fun _ _ _ hm => Node.upToFaults_trans (Node.upToFaults_of_eq rfl) hm,
      fun frames k m hm => Node.upToFaults_trans (m.reportFault_upToFaults frames _ k).1 hm⟩
    h (Node.upToFaults_of_eq rfl)

/-- Where the station is not ACTIVE mild faults make no frame (R139, R183). -/
theorem Node.takeFaults_bus {n : Node} (h : n.mild) (ha : n.active = false) :
    n.takeFaults.bus = n.bus := by
  refine KeptByReports.takeFaults (P := fun m => m.bus = n.bus) ⟨fun _ _ _ hm => hm,
    fun frames k m hm => ?_⟩ h rfl
  obtain ⟨-, -, hb⟩ := (m.countFault k).faultNotice_upToFaults (m.faultClass k)
  have hact : (m.countFault k).active = false :=
    (congrArg (fun b : LineBus => decide (b.participation = .active)) hm).trans ha
  have hnone : (m.countFault k).reportClass frames (m.faultClass k) k =
      (m.countFault k).faultNotice (m.faultClass k) := by
    simp [Node.reportClass, hact]
  rw [hnone]
  exact hb.trans hm

/-- A block whose faults are mild is done: the node is as the block left it up to reports and the lines, and
no fault waits (R183). -/
theorem Node.finish_upToReports {n : Node} (h : n.mild) (ho : n.line.own = none) :
    n.finish.upToReports { n.noneReported with prot.lines := n.finish.prot.lines } := by
  obtain ⟨hfin, -, hnone⟩ := n.finish_mild h ho
  obtain ⟨⟨frames, hf, hm⟩, hn⟩ := Node.takeFaults_upToFaults h
  rw [hfin]
  rw [hnone] at hm
  generalize n.takeFaults = m at hm hn
  have hown : m.line.own = none := by rw [hm]; exact ho
  have hcells : m.counters = n.counters := by rw [hm]
  obtain ⟨⟨frames', hf', hs⟩, hsel, hnot⟩ := m.settle_reports hown
  refine ⟨⟨frames ++ frames', faultFrames_append hf hf', ?_⟩, fun i => ?_,
    Node.keepsNotices_trans hnot hn⟩
  · generalize m.settle = t at hs
    rw [hs, hm]
    simp [Node.noneReported]
  · have hi := hsel i
    simp only [hcells] at hi
    exact hi

/-- Where the station is not ACTIVE such a block leaves the bus (R139). -/
theorem Node.finish_bus {n : Node} (h : n.mild) (ho : n.line.own = none) (ha : n.active = false) :
    n.finish.bus = n.bus := by
  obtain ⟨hfin, hkept, -⟩ := n.finish_mild h ho
  have hown : n.takeFaults.line.own = none := by
    rw [hkept]
    exact ho
  rw [hfin, (Node.settle_none _ hown).2.1, Node.takeFaults_bus h ha]

end Sys2Proof.Machine

/-! ### The end of JOINING (R32, R49, R89) -/

namespace Sys2Proof.Machine

/-- The same fault reported several times waits, and nothing else moves (R183). -/
theorem Node.faultTimes_eq (k : FaultKind) (c : Nat) (n : Node) :
    n.faultTimes k c = { n with faults.reported := (n.faultTimes k c).faults.reported } := by
  induction c generalizing n with
  | zero => rfl
  | succ c ih => exact ih (n.fault k)

/-- A span mark opened: the window stamped, the table, the report to the counters, and faults that wait
(R48, R49, R57). -/
theorem Node.openSpan_eq (k : MarkKind) (id : Nat) (n : Node) :
    n.openSpan k id = { n with
      window := n.window.stamp n.spanClaim (spanEntry n.config.station k id)
      marks := (n.openSpan k id).marks
      counters.cells := (n.openSpan k id).counters.cells
      port.notices := (n.openSpan k id).port.notices
      faults.reported := (n.openSpan k id).faults.reported } ∧
    (n.openSpan k id).keepsNotices n := by
  obtain ⟨b, hb⟩ : ∃ b : Node, b = { n with
      marks.table := n.roomFor k ++ [
        { kind := k, id := id, countdown := if k.stopOrTrip then .held else .noCountdown
          opening := n.len.tracking, frontier := n.window.frontier n.spanClaim 0 }]
      window := n.window.stamp n.spanClaim (spanEntry n.config.station k id) } := ⟨_, rfl⟩
  obtain ⟨f, hf⟩ : ∃ f : Node, f = Node.faultTimes .marksOverflow
      (n.window.dropCount n.spanClaim (spanEntry n.config.station k id))
      (if (n.evicted k).isSome then b.fault .markEvicted else b) := ⟨_, rfl⟩
  have ho : n.openSpan k id = Node.report (CounterEvent.markOpened k) f := by
    rw [hf, hb]
    rfl
  have hfb : f = { b with faults.reported := f.faults.reported } := by
    rw [hf, Node.faultTimes_eq]
    split <;> rfl
  obtain ⟨hr, -, hn⟩ := f.addCounters_reports (Counter.counts (CounterEvent.markOpened k))
  have hport : f.port = n.port := by rw [hfb, hb]
  rw [ho]
  refine ⟨?_, fun i hi => hn i (by rwa [Node.noticed, hport])⟩
  unfold Node.report
  generalize f.addCounters (Counter.counts (CounterEvent.markOpened k)) = t at hr
  rw [hr, hfb, hb]

/-- The end of an own proposal keeps the notices that are set (R181). -/
theorem Node.endOwn_keepsNotices (e : ProposalEnd) (n : Node) : (n.endOwn e).keepsNotices n := by
  unfold Node.endOwn
  split
  · exact fun _ h => h
  · exact Node.keepsNotices_trans (Node.addCounters_reports _ _).2.2 (Node.notice_keepsNotices _ _)

theorem Node.endAndWithdraw_keepsNotices (e : ProposalEnd) (n : Node) :
    (n.endAndWithdraw e).keepsNotices n := by
  unfold Node.endAndWithdraw
  split
  · exact Node.endOwn_keepsNotices e { n with bus.queue := withdrawPropose n.bus.queue }
  · exact fun _ h => h

/-- A choice made keeps them (log 4). -/
theorem Node.spend_keepsNotices (k : Nat) (n : Node) : (n.spend k).keepsNotices n := fun i hi => by
  have hport : (n.spend k).port = n.port := by simp
  rw [Node.noticed, hport]
  exact hi

/-- Settling keeps the notices that are set (R181). -/
theorem Node.settle_keepsNotices (n : Node) : n.settle.keepsNotices n := by
  have hport : n.followConditions.evalLines.port = n.followConditions.port := by simp
  have he : n.followConditions.evalLines.keepsNotices n := fun i hi => by
    rw [Node.noticed, hport]
    exact n.followConditions_reports.2.2 i hi
  refine Node.keepsNotices_trans ?_ he
  rw [Node.settle]
  unfold Node.denyOwn
  split
  · exact fun _ h => h
  · split
    · exact Node.keepsNotices_trans (Node.endAndWithdraw_keepsNotices _ _)
        (Node.spend_keepsNotices _ _)
    · exact fun _ h => h

/-- `m` is `n` but for the STANDSTILL that an UNKNOWN view has become, its mark and its reports: `n` has no
own proposal open (R49, R89). -/
structure Node.StandsStill (m n : Node) : Prop where
  config : m.config = n.config
  len : m.len = n.len
  handover : m.handover = n.handover
  roster : m.roster = n.roster
  sensor : m.sensor = n.sensor
  bus : m.bus = n.bus
  own : m.line.own = none
  window : m.window = n.window ∨ ∃ c entry, m.window = n.window.stamp c entry
  escalation : m.faults.escalation = n.faults.escalation
  faults : m.markFaults n
  notices : m.keepsNotices n
  standstill : n.line.view = .unknown → m.line.view = .standstill ∧ m.line.number = 0
  known : n.line.view ≠ .unknown → m = n

/-- On a line a view that becomes STANDSTILL from UNKNOWN opens a STOP mark and starts the timer (R49,
R107). -/
theorem Node.viewReported_standstill (number : Nat) (n : Node)
    (hp : n.bus.participation ≠ .offline) :
    n.viewReported .unknown .standstill number =
      { (n.notice Notice.viewChanged).openSpan .stop number with prot := n.prot.startTimer } := by
  have hm : (n.notice Notice.viewChanged).marksOnView .unknown .standstill number =
      (n.notice Notice.viewChanged).openSpan .stop number := by
    simp [Node.marksOnView, View.moving, hp]
  have hprot : ((n.notice Notice.viewChanged).openSpan .stop number).prot = n.prot := by
    rw [(Node.openSpan_eq _ _ _).1]
    rfl
  rw [Node.viewReported, hm, ← hprot]
  rfl

theorem Node.standstillIfUnknown_standsStill (n : Node) (ho : n.line.own = none)
    (hp : n.bus.participation ≠ .offline) : n.standstillIfUnknown.StandsStill n := by
  by_cases hv : n.line.view = .unknown
  · obtain ⟨b, hb⟩ : ∃ b : Node, b = { (if 0 = n.line.number then n else n.numberChanged) with
        line.view := .standstill, line.number := 0 } := ⟨_, rfl⟩
    have hbase : b = { n with line := b.line } ∧ b.line.own = none := by
      have hn : n.numberChanged = { n with line.proposalView := none } := by
        rw [Node.numberChanged, Node.abandonOwn, Node.endAndWithdraw_none _ _ ho]
      rw [hb, hn]
      split
      · exact ⟨rfl, ho⟩
      · exact ⟨rfl, ho⟩
    obtain ⟨hbn, hbo⟩ := hbase
    have hbp : b.bus.participation ≠ .offline := by rw [hbn]; exact hp
    have hbv : b.line.view = .standstill ∧ b.line.number = 0 := by rw [hb]; exact ⟨rfl, rfl⟩
    have he : n.standstillIfUnknown = (b.viewReported .unknown .standstill 0).settle := by
      rw [Node.standstillIfUnknown, if_pos hv, Node.adoptPair, hv, hb]
      rfl
    obtain ⟨v, hvr⟩ : ∃ v, v = b.viewReported .unknown .standstill 0 := ⟨_, rfl⟩
    have hmf := (b.viewReported_leaves .unknown .standstill 0).2.2
    obtain ⟨hopen, hnot⟩ := (b.notice Notice.viewChanged).openSpan_eq .stop 0
    rw [← hvr] at he hmf
    have hvn : v.keepsNotices b := by
      rw [hvr, b.viewReported_standstill 0 hbp]
      exact Node.keepsNotices_trans hnot (Node.notice_keepsNotices _ _)
    rw [b.viewReported_standstill 0 hbp, hopen] at hvr
    have hvl : v.line = b.line := by rw [hvr]; rfl
    obtain ⟨hline, hbus, -⟩ := v.settle_none (hvl ▸ hbo)
    obtain ⟨hc, hl, hw, -, hh, hr, hs, hf, -⟩ := v.settle_frame
    rw [he]
    refine ⟨?_, ?_, ?_, ?_, ?_, ?_, by rw [hline, hvl]; exact hbo, .inr ⟨b.spanClaim,
      spanEntry b.config.station .stop 0, ?_⟩, ?_, ?_, ?_,
      fun _ => by rw [hline, hvl]; exact hbv, fun h => absurd hv h⟩
    · rw [hc, hvr, hbn]; rfl
    · rw [hl, hvr, hbn]; rfl
    · rw [hh, hvr, hbn]; rfl
    · rw [hr, hvr, hbn]; rfl
    · rw [hs, hvr, hbn]; rfl
    · rw [hbus, hvr, hbn]; rfl
    · rw [hw, hvr, hbn]; rfl
    · rw [hf, hvr, hbn]; rfl
    · have hbf : b.faults = n.faults := by rw [hbn]
      exact Node.markFaults_trans (Node.markFaults_of_eq hf)
        (Node.markFaults_trans hmf (Node.markFaults_of_eq hbf))
    · have hbnot : b.keepsNotices n := fun i hi => by rw [hbn]; exact hi
      exact Node.keepsNotices_trans v.settle_keepsNotices (Node.keepsNotices_trans hvn hbnot)
  · have he : n.standstillIfUnknown = n := if_neg hv
    rw [he]
    exact ⟨rfl, rfl, rfl, rfl, rfl, rfl, ho, .inl rfl, rfl, Node.markFaults_of_eq rfl, fun _ h => h,
      fun h => absurd h hv, fun _ => rfl⟩

/-- The faults of a STANDSTILL are mild where nothing is escalated (R183, Table 11-4). -/
theorem Node.StandsStill.mild {m n : Node} (h : m.StandsStill n) (he : n.faults.escalation = 0)
    (hr : n.faults.reported = []) : m.mild := by
  refine ⟨h.escalation.trans he, fun r hmem => ?_⟩
  rcases h.faults.2 r hmem with hold | hkind | hkind
  · rw [hr] at hold
    exact absurd hold List.not_mem_nil
  · rw [hkind]
    rfl
  · rw [hkind]
    rfl

/-- The ORIGIN's first record moves the window alone (R32). -/
theorem Node.openFirst_eq (n : Node) : n.openFirst = { n with window := n.openFirst.window } := by
  unfold Node.openFirst
  split <;> rfl

/-- The first record: it begins at the tracking length, filled, with the number after the highest learned
(R32, R133). -/
def EnteringRecord.opens (n : Node) (e : EnteringRecord) : Prop :=
  e.head = n.len.tracking ∧ e.body.content = .filled ∧ e.body.first = n.firstNumber

theorem Node.newEntering_opens (n : Node) (ho : n.isOrigin = true) :
    (n.newEntering n.firstNumber n.len.tracking none).opens n := by
  obtain ⟨hhead, hfirst⟩ := n.newEntering_place n.firstNumber n.len.tracking none
  refine ⟨hhead, ?_, hfirst⟩
  rw [Node.newEntering, if_pos ho]
  unfold freshBody setFlagIf
  split <;> rfl

/-- A mark entry leaves the place, the content and the number of a record (R46). -/
theorem EnteringRecord.opens_stamped {n : Node} {e : EnteringRecord} (m : MarkEntry)
    (h : e.opens n) : ({ e with body := offerEntry m e.body } : EnteringRecord).opens n := by
  obtain ⟨marks, flags, summary, hm⟩ := offerEntry_adds m e.body.marks
  obtain ⟨hhead, hcontent, hfirst⟩ := h
  unfold EnteringRecord.opens
  rw [hm e.body rfl]
  exact ⟨hhead, hcontent, hfirst⟩

/-- At the end of JOINING the ORIGIN's empty window holds the first record, stamped or not (R32, R49). -/
theorem Node.StandsStill.first {m n : Node} (h : m.StandsStill n.openFirst)
    (ho : n.isOrigin = true) (hw : n.window = Window.empty) :
    ∃ e, m.window = { closed := [], entering := some e } ∧ e.opens n := by
  obtain ⟨f, hf⟩ : ∃ f, f = n.newEntering n.firstNumber n.len.tracking none := ⟨_, rfl⟩
  have hopens : f.opens n := hf ▸ n.newEntering_opens ho
  have hfirst : n.openFirst.window = { closed := [], entering := some f } := by
    rw [hf, Node.openFirst, ho, hw]
    rfl
  rcases h.window with hsame | ⟨c, entry, hstamp⟩
  · exact ⟨f, hsame.trans hfirst, hopens⟩
  · refine ⟨if c.entering f then { f with body := offerEntry entry f.body } else f, ?_, ?_⟩
    · rw [hstamp, hfirst]
      rfl
    · split
      · exact f.opens_stamped entry hopens
      · exact hopens

/-- The end of JOINING at a station without an own proposal (R32, R89). -/
theorem Node.endJoining_standsStill (n : Node) (ho : n.line.own = none)
    (hp : n.bus.participation ≠ .offline) : n.endJoining.StandsStill n.openFirst := by
  have he := n.openFirst_eq
  refine n.openFirst.standstillIfUnknown_standsStill ?_ ?_
  · rw [he]
    exact ho
  · rw [he]
    exact hp

end Sys2Proof.Machine

/-! ### JOIN_TIMER_EXPIRY and STATUS_TIMER (R32, R89, R145, R147) -/

namespace Sys2Proof.Machine

/-- With no STATUS that waits a STATUS joins a queue that has room (R139, R145). -/
theorem Node.generateStatus_joins (n : Node) (ha : n.active = true)
    (hs : ∀ q ∈ n.bus.queue, q.isStatus = true → q.inTransmission = true)
    (hroom : n.bus.queue.length < 16) : n.generateStatus =
      { n with bus.queue := n.bus.queue ++ [QueuedFrame.fresh n.statusFrame false] } := by
  have hnone : n.bus.queue.any QueuedFrame.waitingStatus = false := by
    rw [List.any_eq_false]
    intro q hq
    simpa [QueuedFrame.waitingStatus] using hs q hq
  have hfull : n.queueFull = false := decide_eq_false (Nat.not_le.2 hroom)
  rw [Node.generateStatus, hnone, if_neg Bool.false_ne_true, Node.offer_room _ _ ha hfull]
  rfl

/-- A STATUS takes the place of the one that waits (R145). -/
theorem Node.generateStatus_replaces (n : Node) (before after : List QueuedFrame) (q : QueuedFrame)
    (hq : n.bus.queue = before ++ q :: after) (hs : q.isStatus = true) (hw : q.inTransmission = false)
    (hothers : ∀ x ∈ before ++ after, x.isStatus = true → x.inTransmission = true) :
    n.generateStatus =
      { n with bus.queue := before ++ QueuedFrame.fresh n.statusFrame false :: after } := by
  have hwait : q.waitingStatus = true := by simp [QueuedFrame.waitingStatus, hs, hw]
  have hkeep : ∀ l : List QueuedFrame, (∀ x ∈ l, x ∈ before ++ after) →
      l.map (fun x => if x.waitingStatus then QueuedFrame.fresh n.statusFrame false else x) = l := by
    intro l hl
    refine (List.map_congr_left fun x hx => ?_).trans l.map_id
    have hx' : x.waitingStatus = false := by
      simpa [QueuedFrame.waitingStatus] using hothers x (hl x hx)
    simp [hx']
  have hany : n.bus.queue.any QueuedFrame.waitingStatus = true :=
    List.any_eq_true.2 ⟨q, by simp [hq], hwait⟩
  rw [Node.generateStatus, if_pos hany, hq, List.map_append, List.map_cons,
    hkeep before fun x hx => List.mem_append_left _ hx,
    hkeep after fun x hx => List.mem_append_right _ hx, if_pos hwait]

/-- STATUS_TIMER at a quiet ACTIVE station changes the period and the queue alone (R145). -/
theorem Node.statusPoint_eq {n : Node} (ha : n.active = true) (hq : n.quiet) {queue : List QueuedFrame}
    (hg : ({ n with bus.statusTimer := 0 } : Node).generateStatus =
      { n with bus.statusTimer := 0, bus.queue := queue }) :
    n.statusPoint = { n with bus.statusTimer := 0, bus.queue := queue } := by
  obtain ⟨-, hr, ho⟩ := Node.of_quiet hq
  rw [Node.statusPoint, if_pos ha, hg]
  exact Node.finish_still hq rfl ho hr

/-- The station once it has become ACTIVE, before what ends JOINING (R147). -/
def Node.activated (n : Node) : Node :=
  Node.notice Notice.participationChanged
    { n with
      bus.participation := .active, bus.joinTimer := Config.joinTime, bus.joinRunning := false
      bus.statusTimer := 0, bus.statusRunning := true }

/-- JOIN_TIMER_EXPIRY at a quiet station with an empty queue: the end of JOINING, the STATUS of it as the
only frame, and what its faults report (R89, R145, R147). -/
theorem Node.joinExpired_joins {n : Node} (hp : n.bus.participation = .joining) (hq : n.quiet)
    (hempty : n.bus.queue = []) : ∃ m : Node, m.StandsStill n.activated.openFirst ∧
      n.joinExpired.upToReports { m.noneReported with
        bus.queue := [QueuedFrame.fresh m.statusFrame false]
        prot.lines := n.joinExpired.prot.lines } := by
  obtain ⟨hesc, hr, ho⟩ := Node.of_quiet hq
  have hact : n.activated.bus.participation = .active := rfl
  have hstill := n.activated.endJoining_standsStill ho (by rw [hact]; decide)
  refine ⟨n.activated.endJoining, hstill, ?_⟩
  have hfirst := n.activated.openFirst_eq
  have hjoin : n.joinExpired = n.activated.endJoining.generateStatus.finish := if_pos hp
  have hmild := hstill.mild (by rw [hfirst]; exact hesc) (by rw [hfirst]; exact hr)
  rw [hjoin]
  generalize n.activated.endJoining = m at hstill hmild ⊢
  have hbus : m.bus = n.activated.bus := by rw [hstill.bus, hfirst]
  have hmq : m.bus.queue = [] := by rw [hbus]; exact hempty
  have hg := m.generateStatus_joins (by rw [Node.active, hbus]; rfl) (by simp [hmq]) (by simp [hmq])
  rw [hmq] at hg
  rw [hg]
  exact Node.finish_upToReports (n := { m with
    bus.queue := [QueuedFrame.fresh m.statusFrame false] }) hmild hstill.own

/-- Settles O53: the end of JOINING leaves what it does not open or report, and the STATUS is made last. -/
theorem activeReportsItsStatus : Obligations.ActiveReportsItsStatus := by
  refine ⟨fun s => ⟨fun hp => State.act_same (if_neg hp), fun hp hq hempty => ?_⟩,
    fun s => ⟨fun ha => State.act_same ?_, fun ha hq hs hroom => State.act_eq ?_,
      fun before q after ha hq hqueue hs hw hothers => State.act_eq ?_⟩⟩
  · obtain ⟨m, hstill, ⟨faults, hf, ht⟩, -, hnot⟩ := Node.joinExpired_joins hp hq hempty
    refine ⟨_, State.act_eq rfl, rfl, ?_⟩
    dsimp only
    generalize s.node.joinExpired = t at ht hnot
    have hfirst := s.node.activated.openFirst_eq
    have hbus : t.bus = { s.node.activated.bus with
        queue := QueuedFrame.fresh m.statusFrame false :: faults } := by
      rw [ht, ← show m.bus = s.node.activated.bus by rw [hstill.bus, hfirst]]
      rfl
    have hline : t.line = m.line := by rw [ht]; rfl
    have hwindow : t.window = m.window := by rw [ht]; rfl
    have hlen : t.len = s.node.len := by
      rw [ht]
      exact hstill.len.trans (by rw [hfirst]; rfl)
    have hconfig : t.config = s.node.config := by
      rw [ht]
      exact hstill.config.trans (by rw [hfirst]; rfl)
    have hstatus : t.statusFrame = m.statusFrame := by
      rw [ht]
      rfl
    refine ⟨by rw [hbus]; rfl, by rw [hbus]; rfl, by rw [hbus]; rfl, by rw [hbus]; rfl, hnot _ ?_,
      ⟨faults, hf, by rw [hbus, hstatus]⟩, fun hv => ?_, fun hv => ?_, fun hor hw => ?_, hconfig,
      by rw [hlen], ?_, ?_, ?_⟩
    · exact hstill.notices _ (by
        rw [hfirst]
        exact Node.noticed_notice_same _ _ (by decide))
    · rw [hline]
      exact hstill.standstill (by rw [hfirst]; exact hv)
    · rw [hline, hstill.known (by rw [hfirst]; exact hv), hfirst]
      rfl
    · rw [hwindow]
      exact hstill.first hor hw
    · rw [ht]
      exact hstill.handover.trans (by rw [hfirst]; rfl)
    · rw [ht]
      exact hstill.roster.trans (by rw [hfirst]; rfl)
    · rw [ht]
      exact hstill.sensor.trans (by rw [hfirst]; rfl)
  · rw [Node.statusPoint, ha]
    rfl
  · exact Node.statusPoint_eq ha hq (Node.generateStatus_joins _ ha hs hroom)
  · exact Node.statusPoint_eq ha hq (Node.generateStatus_replaces _ _ _ _ hqueue hs hw hothers)

end Sys2Proof.Machine

/-! ### Participation left: queue purged, timers stopped (R101, R141, R148 to R150) -/

namespace Sys2Proof.Machine

/-- What the end of an own proposal, a frame lost and the followers leave of a node. -/
structure Blocks where
  config : ConfigRecord
  len : LengthUnit
  window : Window
  marks : MarkUnit
  handover : Handover
  roster : Roster
  sensor : SensorPort
  faults : FaultUnit
  view : View
  number : Nat
  participation : Participation
  joinTimer : Nat
  joinRunning : Bool
  statusRunning : Bool
  lde : Bool

/-- The reading of a node as its blocks. -/
def Node.blocks (n : Node) : Blocks :=
  { config := n.config, len := n.len, window := n.window, marks := n.marks, handover := n.handover
    roster := n.roster, sensor := n.sensor, faults := n.faults, view := n.line.view
    number := n.line.number, participation := n.bus.participation
    joinTimer := n.bus.joinTimer, joinRunning := n.bus.joinRunning
    statusRunning := n.bus.statusRunning, lde := n.bus.lde }

/-- `m` has the blocks of `n`, opens no own proposal and clears no notice. -/
structure Node.Stands (m n : Node) : Prop where
  blocks : m.blocks = n.blocks
  own : n.line.own = none → m.line.own = none
  notices : m.keepsNotices n

theorem Node.Stands.refl (n : Node) : n.Stands n := ⟨rfl, id, fun _ h => h⟩

theorem Node.Stands.trans {l m n : Node} (h : l.Stands m) (k : m.Stands n) : l.Stands n :=
  ⟨h.blocks.trans k.blocks, h.own ∘ k.own, Node.keepsNotices_trans h.notices k.notices⟩

theorem Node.endOwn_stands (e : ProposalEnd) (n : Node) : (n.endOwn e).Stands n :=
  ⟨by simp [Node.blocks], fun _ => by simp, n.endOwn_keepsNotices e⟩

theorem Node.endAndWithdraw_stands (e : ProposalEnd) (n : Node) : (n.endAndWithdraw e).Stands n :=
  ⟨by simp [Node.blocks], fun _ => by simp, n.endAndWithdraw_keepsNotices e⟩

theorem Node.settle_stands (n : Node) : n.settle.Stands n :=
  ⟨by simp [Node.blocks], fun h => by rw [(n.settle_none h).1]; exact h, n.settle_keepsNotices⟩

theorem Node.spend_stands (k : Nat) (n : Node) : (n.spend k).Stands n := by
  exact ⟨by simp [Node.blocks], fun h => by simpa using h, n.spend_keepsNotices k⟩

theorem Node.report_stands (e : CounterEvent) (n : Node) : (n.report e).Stands n :=
  ⟨by simp [Node.blocks], fun h => by simpa using h, (Node.addCounters_reports _ n).2.2⟩

/-- A frame lost is reported, or ends the own proposal, or tells the fate of the own ENACT (R141). -/
theorem Node.frameLost_stands (q : QueuedFrame) (n : Node) : (n.frameLost q).Stands n := by
  unfold Node.frameLost
  split
  · exact n.report_stands _
  · split
    · exact .refl n
    · unfold Node.proposeLost
      split
      · split
        · exact n.endOwn_stands _
        · exact .refl n
      · exact .refl n
  · exact ⟨rfl, id, fun _ h => h⟩
  · exact .refl n

/-- A purge: the transmission cut, every frame lost (R141). -/
theorem Node.purge_stands (n : Node) :
    n.purge.Stands (Node.cutShort { n with bus.queue := [] }) := by
  have hfold : ∀ (l : List QueuedFrame) (m : Node), (l.foldl (fun m q => m.frameLost q) m).Stands m := by
    intro l
    induction l with
    | nil => exact Node.Stands.refl
    | cons q l ih => exact fun m => (ih _).trans (m.frameLost_stands q)
  exact hfold _ _

/-- `m` is `n` once it has left its participation for `p` (R101, R141, R148 to R150). -/
structure Node.LeftFor (p : Participation) (m n : Node) : Prop where
  blocks : m.blocks = { n.blocks with
    participation := p, joinRunning := false, statusRunning := false, lde := false }
  queue : m.bus.queue = []
  own : m.line.own = none
  changed : m.noticed Notice.participationChanged = true

theorem Node.leaveFor_left (p : Participation) (n : Node) : (n.leaveFor p).LeftFor p n := by
  obtain ⟨b, hb⟩ : ∃ b : Node, b = Node.notice Notice.participationChanged
      { n with bus.participation := p, bus.joinRunning := false, bus.statusRunning := false
               bus.statusTimer := 0 } := ⟨_, rfl⟩
  have hnotice : b.noticed Notice.participationChanged = true :=
    hb ▸ Node.noticed_notice_same _ _ (by decide)
  have hpurged : ∃ m : Node, n.leaveFor p = m.purge ∧ m.Stands b ∧ m.line.own = none := by
    rw [Node.leaveFor, ← hb]
    split
    · split
      · exact ⟨_, rfl, (Node.endAndWithdraw_stands _ _).trans (b.spend_stands 2), by
          simp [Node.abandonOwn]⟩
      · exact ⟨_, rfl, (Node.endAndWithdraw_stands _ _).trans
          ((Node.settle_stands _).trans (b.spend_stands 2)), by simp [Node.abandonOwn]⟩
    · rename_i ho
      exact ⟨b, rfl, .refl b, by rw [hb]; simpa using ho⟩
  obtain ⟨m, he, hm, ho⟩ := hpurged
  have hp := m.purge_stands
  rw [he]
  refine ⟨?_, congrArg Shape.queue m.purge_shape, hp.own ho, hp.notices _ (hm.notices _ hnotice)⟩
  have hcut : (Node.cutShort { m with bus.queue := [] }).blocks = { m.blocks with lde := false } := rfl
  rw [hp.blocks, hcut, hm.blocks, hb]
  rfl

end Sys2Proof.Machine

/-! ### SET_PARTICIPATION and LINE_JAM (R119, R144, R146 to R150) -/

namespace Sys2Proof.Machine

/-! #### LISTEN -/

/-- `m` is `n` once it listens: its bus as participation was left (R101, R141, R148). -/
structure Node.Listens (m n : Node) : Prop where
  bus : m.bus = (n.leaveFor .listen).bus
  own : m.line.own = none
  tracking : m.len.tracking = n.len.tracking
  changed : m.noticed Notice.participationChanged = true

/-- ACTIVE left for LISTEN: view and window are as they were (R148). -/
theorem Node.listens_of_active {n : Node} (hp : n.bus.participation = .active)
    (hr : n.faults.reported = []) :
    n.enterListen.finish.Listens n ∧ n.enterListen.finish.line.view = n.line.view ∧
    n.enterListen.finish.window = n.window := by
  have hlisten : n.enterListen = n.leaveFor .listen := by simp [Node.enterListen, hp]
  have hleft := n.leaveFor_left .listen
  have hblocks := hleft.blocks
  simp only [Node.blocks, Blocks.mk.injEq] at hblocks
  obtain ⟨-, hl, hw, -, -, -, -, hf, hv, -⟩ := hblocks
  obtain ⟨hline, hbus, -⟩ := (n.leaveFor .listen).settle_none hleft.own
  obtain ⟨-, hlen, hwindow, -⟩ := (n.leaveFor .listen).settle_frame
  rw [hlisten, Node.finish_nil _ (by rw [hf]; exact hr)]
  exact ⟨⟨hbus, by rw [hline]; exact hleft.own, by rw [hlen, hl],
    Node.settle_keepsNotices _ _ hleft.changed⟩, by rw [hline]; exact hv, hwindow.trans hw⟩

/-- What ends JOINING for LISTEN: bus, length and notices as participation was left, no own proposal, and
STANDSTILL for an UNKNOWN view (R89, R148). -/
theorem Node.leaveFor_endJoining {n : Node} (hcalm : n.calm) :
    let m := (n.leaveFor .listen).endJoining
    m.mild ∧ m.line.own = none ∧ m.bus = (n.leaveFor .listen).bus ∧ m.len = n.len ∧
    m.noticed Notice.participationChanged = true ∧
    (n.line.view = .unknown → m.line.view = .standstill ∧ m.line.number = 0) := by
  have hleft := n.leaveFor_left .listen
  have hblocks := hleft.blocks
  simp only [Node.blocks, Blocks.mk.injEq] at hblocks
  obtain ⟨-, hl, -, -, -, -, -, hf, hv, -, hp, -⟩ := hblocks
  have hfirst := (n.leaveFor .listen).openFirst_eq
  have hstill := (n.leaveFor .listen).endJoining_standsStill hleft.own (by rw [hp]; decide)
  refine ⟨hstill.mild ?_ ?_, hstill.own, ?_, ?_, hstill.notices _ ?_, fun hu => hstill.standstill ?_⟩
  · rw [hfirst]
    exact (congrArg FaultUnit.escalation hf).trans hcalm.1
  · rw [hfirst]
    exact (congrArg FaultUnit.reported hf).trans hcalm.2
  · rw [hstill.bus, hfirst]
  · rw [hstill.len, hfirst]
    exact hl
  · rw [hfirst]
    exact hleft.changed
  · rw [hfirst]
    exact hv.trans hu

/-- JOINING left for LISTEN ends as it does for ACTIVE: an UNKNOWN view becomes STANDSTILL (R89, R148). -/
theorem Node.listens_of_joining {n : Node} (hp : n.bus.participation = .joining) (hcalm : n.calm) :
    n.enterListen.finish.Listens n ∧ (n.line.view = .unknown →
      n.enterListen.finish.line.view = .standstill ∧ n.enterListen.finish.line.number = 0) := by
  have hlisten : n.enterListen = (n.leaveFor .listen).endJoining := by simp [Node.enterListen, hp]
  have hpart : (n.leaveFor .listen).bus.participation = .listen :=
    congrArg Blocks.participation (n.leaveFor_left .listen).blocks
  obtain ⟨hmild, hown, hbus, hlen, hchanged, hstill⟩ := Node.leaveFor_endJoining hcalm
  rw [hlisten]
  generalize (n.leaveFor .listen).endJoining = m at hmild hown hbus hlen hchanged hstill ⊢
  have hact : m.active = false := by
    rw [Node.active, hbus, hpart]
    rfl
  obtain ⟨⟨_, _, ht⟩, -, hnot⟩ := Node.finish_upToReports hmild hown
  have hline : m.finish.line = m.line := by rw [ht]; rfl
  rw [hline]
  exact ⟨⟨(Node.finish_bus hmild hown hact).trans hbus, by rw [hline]; exact hown,
    by rw [m.finish_len, hlen], hnot _ hchanged⟩, hstill⟩

/-- A station that listens has its queue empty, its driver released and its timers stopped (R141, R148). -/
theorem Node.Listens.stopped {m n : Node} (h : m.Listens n) :
    m.bus.participation = .listen ∧ m.bus.queue = [] ∧ m.bus.lde = false ∧
    m.bus.joinRunning = false ∧ m.bus.statusRunning = false := by
  have hleft := n.leaveFor_left .listen
  have hblocks := hleft.blocks
  simp only [Node.blocks, Blocks.mk.injEq] at hblocks
  obtain ⟨-, -, -, -, -, -, -, -, -, -, hp, -, hjr, hsr, hlde⟩ := hblocks
  rw [h.bus]
  exact ⟨hp, hleft.queue, hlde, hjr, hsr⟩

/-- The move to LISTEN (R148). -/
theorem Node.enterListen_finish (n : Node)
    (hp : n.bus.participation = .active ∨ n.bus.participation = .joining) (hcalm : n.calm) :
    let m := n.enterListen.finish
    m.Listens n ∧
    (n.bus.participation = .active → m.line.view = n.line.view ∧ m.window = n.window) ∧
    (n.bus.participation = .joining → n.line.view = .unknown →
      m.line.view = .standstill ∧ m.line.number = 0) := by
  rcases hp with hp | hp
  · obtain ⟨hlistens, hkept⟩ := Node.listens_of_active hp hcalm.2
    exact ⟨hlistens, fun _ => hkept, fun hj => absurd (hp.symm.trans hj) (by decide)⟩
  · obtain ⟨hlistens, hstill⟩ := Node.listens_of_joining hp hcalm
    exact ⟨hlistens, fun ha => absurd (hp.symm.trans ha) (by decide), fun _ => hstill⟩

/-! #### JOINING -/

/-- What the choices made again change (R10, R68, R129, R131). -/
theorem Node.remakeChoices_eq (n : Node) : n.remakeChoices = { n with
    len.reference := n.remakeChoices.len.reference
    len.absenceTimer := n.remakeChoices.len.absenceTimer
    handover.neighbour := n.remakeChoices.handover.neighbour
    handover.gap := n.remakeChoices.handover.gap
    handover.allowance := n.remakeChoices.handover.allowance
    handover.bridging := n.remakeChoices.handover.bridging
    roster.upstream := n.remakeChoices.roster.upstream
    roster.reference := n.remakeChoices.roster.reference
    port.notices := n.remakeChoices.port.notices } := by
  unfold Node.remakeChoices Node.remakeReference Node.refreshReference Node.remakeUpstream
  split <;> split <;> rfl

/-- The station as it begins to join (R122, R147). -/
def Node.joinBegun (n : Node) : Node :=
  Node.notice Notice.participationChanged
    { n with
      bus.participation := .joining, bus.joinTimer := 0, bus.joinRunning := true
      roster.highest := none }

/-- Without a creel conflict entry to JOINING begins it and makes the choices again (R128, R147). -/
theorem Node.enterJoining_eq {n : Node} (h : n.creel = false) :
    n.enterJoining = n.joinBegun.remakeChoices := by
  have hcreel : n.joinBegun.remakeChoices.creel = false := by
    rw [n.joinBegun.remakeChoices_eq]
    exact h
  exact if_neg (by rw [← Node.joinBegun, hcreel]; exact Bool.false_ne_true)

/-- Without a creel conflict and with no fault waiting the move to ACTIVE begins JOINING (R122, R147). -/
theorem Node.enterJoining_finish (n : Node) (hr : n.faults.reported = []) (hc : n.creel = false) :
    let m := n.enterJoining.finish
    m.bus.participation = .joining ∧ m.bus.joinTimer = 0 ∧ m.bus.joinRunning = true ∧
    m.roster.highest = none ∧ m.window = n.window ∧ m.marks = n.marks ∧
    m.len.tracking = n.len.tracking ∧ m.line.view = n.line.view ∧
    m.noticed Notice.participationChanged = true := by
  have heq := n.joinBegun.remakeChoices_eq
  have hnot := n.joinBegun.remakeChoices_keepsNotices _
    (Node.noticed_notice_same Notice.participationChanged _ (by decide))
  rw [Node.enterJoining_eq hc]
  generalize n.joinBegun.remakeChoices = b at heq hnot ⊢
  have hb : b.faults = n.faults := by rw [heq]; rfl
  have hs := b.settle_stands.blocks
  rw [Node.finish_nil b (by rw [hb]; exact hr)]
  simp only [Node.blocks, Blocks.mk.injEq] at hs
  obtain ⟨-, hl, hw, hm, -, hro, -, -, hv, -, hp, hjt, hjr, -⟩ := hs
  refine ⟨hp.trans ?_, hjt.trans ?_, hjr.trans ?_, ?_, hw.trans ?_, hm.trans ?_, ?_, hv.trans ?_,
    b.settle_keepsNotices _ hnot⟩
  · rw [heq]; rfl
  · rw [heq]; rfl
  · rw [heq]; rfl
  · rw [hro, heq]; rfl
  · rw [heq]; rfl
  · rw [heq]; rfl
  · rw [hl, heq]; rfl
  · rw [heq]; rfl

/-! #### OFFLINE -/

/-- `m` is `n` once it has gone OFFLINE, its held lines with it (R25, R48, R101, R119, R122, R150). -/
structure Node.WentOffline (m n : Node) : Prop where
  config : m.config = n.config
  participation : m.bus.participation = .offline
  queue : m.bus.queue = []
  lde : m.bus.lde = false
  joinRunning : m.bus.joinRunning = false
  statusRunning : m.bus.statusRunning = false
  window : m.window = Window.empty
  marks : m.marks.table = []
  arrivals : m.handover.arrivals = []
  others : m.roster.others = []
  view : m.line.view = .unknown
  number : m.line.number = 0
  own : m.line.own = none
  tracking : m.len.tracking = n.len.tracking
  changed : m.noticed Notice.participationChanged = true
  lines : ∀ i ≤ 3, (n.config.lines.get i).latch ≠ 0 → (n.prot.lines.get i).asserted = true →
    (m.prot.lines.get i).asserted = true ∧ (m.prot.lines.get i).latch = true

/-- A latched line stays asserted while the view is not RUN (R116). -/
theorem Node.evalLine_latched (n : Node) (a : ActionConfig) (l : ActionLine) (ha : a.latch ≠ 0)
    (hv : n.line.view ≠ .run) (hl : l.latch = true) :
    (n.evalLine a l).asserted = true ∧ (n.evalLine a l).latch = true := by
  have hlatch : (n.evalLine a l).latch = true := by simp [Node.evalLine, latchAfter, ha, hv, hl]
  refine ⟨?_, hlatch⟩
  have hasserted : (n.evalLine a l).asserted = (n.lineCondition a || (n.evalLine a l).latch) := rfl
  rw [hasserted, hlatch, Bool.or_true]

theorem Node.settle_latched (n : Node) (i : Nat) (ha : (n.config.lines.get i).latch ≠ 0)
    (hv : n.line.view ≠ .run)
    (h : (n.prot.lines.get i).asserted = true ∧ (n.prot.lines.get i).latch = true) :
    (n.settle.prot.lines.get i).asserted = true ∧ (n.settle.prot.lines.get i).latch = true := by
  have hs : n.settle.prot = n.followConditions.evalLines.prot := by simp [Node.settle]
  rw [hs]
  unfold Node.evalLines
  split
  · simp only [Node.followConditions_frame, Quad.get_zip]
    exact Node.evalLine_latched _ _ _ ha (by simpa using hv) h.2
  · simpa using h

/-- Settling leaves a station OFFLINE with its lines held (R119). -/
theorem Node.WentOffline.settle {m n : Node} (h : m.WentOffline n) : m.settle.WentOffline n := by
  have hview : m.line.view ≠ .run := by rw [h.view]; decide
  obtain ⟨hline, hbus, -⟩ := m.settle_none h.own
  obtain ⟨hc, hl, hw, hm, hh, hr, -⟩ := m.settle_frame
  exact
    { config := hc.trans h.config
      participation := by rw [hbus]; exact h.participation
      queue := by rw [hbus]; exact h.queue
      lde := by rw [hbus]; exact h.lde
      joinRunning := by rw [hbus]; exact h.joinRunning
      statusRunning := by rw [hbus]; exact h.statusRunning
      window := hw.trans h.window
      marks := by rw [hm]; exact h.marks
      arrivals := by rw [hh]; exact h.arrivals
      others := by rw [hr]; exact h.others
      view := by rw [hline]; exact h.view
      number := by rw [hline]; exact h.number
      own := by rw [hline]; exact h.own
      tracking := by rw [hl]; exact h.tracking
      changed := m.settle_keepsNotices _ h.changed
      lines := fun i hi ha has =>
        m.settle_latched i (by rw [h.config]; exact ha) hview (h.lines i hi ha has) }

/-- A fault counted is no part of it (R183). -/
theorem Node.WentOffline.countFault {m n : Node} (k : FaultKind) (h : m.WentOffline n) :
    (m.countFault k).WentOffline n := { h with }

/-- OFFLINE a view that becomes UNKNOWN stops the standstill timer and opens no mark (R49, R107). -/
theorem Node.viewReported_offline (before : View) (number : Nat) (n : Node)
    (hp : n.bus.participation = .offline) : n.viewReported before .unknown number =
      { n.notice Notice.viewChanged with prot := n.prot.stopTimer } := by
  have hm : (n.notice Notice.viewChanged).marksOnView before .unknown number =
      n.notice Notice.viewChanged := by
    simp [Node.marksOnView, View.moving, hp]
  rw [Node.viewReported, hm]
  rfl

/-- OFFLINE the view is forgotten (R85). -/
theorem Node.forgetView_offline (n : Node) (hp : n.bus.participation = .offline) :
    n.forgetView = { n with
      line.view := .unknown, line.number := 0, line.proposalView := none
      prot.timer := n.forgetView.prot.timer, prot.phase := n.forgetView.prot.phase
      prot.running := n.forgetView.prot.running
      port.notices := n.forgetView.port.notices } ∧
    n.forgetView.keepsNotices n := by
  by_cases hv : n.line.view = .unknown
  · have he : n.forgetView = { n with
        line.view := .unknown, line.number := 0, line.proposalView := none } := if_pos hv
    rw [he]
    exact ⟨rfl, fun _ h => h⟩
  · obtain ⟨b, hb⟩ : ∃ b : Node, b = { n with
        line.view := .unknown, line.number := 0, line.proposalView := none } := ⟨_, rfl⟩
    have he : n.forgetView = b.viewReported n.line.view .unknown 0 := by
      rw [hb]
      exact if_neg hv
    rw [he, b.viewReported_offline _ _ (by rw [hb]; exact hp), hb]
    exact ⟨rfl, Node.notice_keepsNotices _ _⟩

/-- An asserted line with the latch option is held through OFFLINE (R119). -/
theorem Node.heldLines_get (n : Node) (i : Nat) (ha : (n.config.lines.get i).latch ≠ 0)
    (has : (n.prot.lines.get i).asserted = true) :
    ((n.config.lines.zip ActionLine.hold n.prot.lines).get i).asserted = true ∧
    ((n.config.lines.zip ActionLine.hold n.prot.lines).get i).latch = true := by
  rw [Quad.get_zip]
  exact ⟨has, by simp [ActionLine.hold, ha, has]⟩

/-- Entry to OFFLINE (R150). -/
theorem Node.enterOffline_wentOffline (n : Node) :
    n.enterOffline.WentOffline n ∧ n.enterOffline.faults = n.faults := by
  have hleft := n.leaveFor_left .offline
  have hblocks := hleft.blocks
  simp only [Node.blocks, Blocks.mk.injEq] at hblocks
  obtain ⟨hc, hl, -, -, -, -, -, hf, -, -, hp, -, hjr, hsr, hlde⟩ := hblocks
  obtain ⟨hforget, hnot⟩ := n.emptied.forgetView_offline hp
  obtain ⟨f, hfdef⟩ : ∃ f : Node, f = { n.emptied.forgetView with roster.others := [] } := ⟨_, rfl⟩
  have hfnot : f.noticed Notice.participationChanged = true := by
    rw [hfdef]
    exact hnot _ hleft.changed
  have hrem := f.remakeChoices_keepsNotices _ hfnot
  have hrfaults : f.remakeChoices.faults = n.faults := by
    rw [f.remakeChoices_eq, hfdef, hforget]
    exact hf
  have hwent : f.remakeChoices.WentOffline n := by
    have htracking : (n.leaveFor .offline).len.tracking = n.len.tracking := by rw [hl]
    rw [hforget] at hfdef
    rw [f.remakeChoices_eq] at hrem ⊢
    generalize f.remakeChoices = r at hrem ⊢
    subst hfdef
    exact
      { config := hc, participation := hp, queue := hleft.queue, lde := hlde, joinRunning := hjr
        statusRunning := hsr, window := rfl, marks := rfl, arrivals := rfl, others := rfl, view := rfl
        number := rfl, own := hleft.own, tracking := htracking, changed := hrem
        lines := fun i _ ha has => n.heldLines_get i ha has }
  rw [n.enterOffline_eq, ← hfdef]
  exact ⟨hwent.settle, (congrArg Blocks.faults (Node.settle_stands _).blocks).trans hrfaults⟩

/-! #### LINE_JAM -/

/-- A FATAL fault where the station is not on the line is counted alone (R144, R184). -/
theorem Node.takeFaults_offLine (k : FaultKind) (n : Node) (hoff : n.onLine = false)
    (hr : n.faults.reported = []) (hk : n.faultClass k = .fatal) :
    (n.fault k).takeFaults = n.countFault k := by
  have hone : (n.fault k).faults.reported = [{ kind := k, silent := false }] := by simp [hr]
  have hnone : (n.fault k).noneReported = n := n.noneReported_of_nil hr
  have htake : (n.fault k).takeReported Node.takeFault = n.countFault k := by
    rw [Node.takeReported_one _ _ _ hone, hnone]
    exact (if_pos hk).trans (if_neg (by rw [hoff]; exact Bool.false_ne_true))
  have hcr : (n.countFault k).faults.reported = [] := hr
  unfold Node.takeFaults
  rw [htake, Node.takeReported_none _ _ hcr, Node.takeReported_none _ _ hcr, hone]
  exact (n.countFault k).noneReported_of_nil hcr

/-- LINE_JAM is FATAL at any station (Table 11-4). -/
theorem Node.lineJam_class (n : Node) : n.faultClass .lineJam = .fatal := rfl

/-- LINE_JAM: the station OFFLINE, and the fault counted (R144, R184). -/
theorem Node.lineJam_eq {n : Node} (h : n.receiving = true) (hr : n.faults.reported = []) :
    n.lineJam = (n.enterOffline.countFault .lineJam).settle := by
  obtain ⟨hwent, hf⟩ := n.enterOffline_wentOffline
  have hown : (n.enterOffline.fault .lineJam).line.own = none := hwent.own
  have hoff : n.enterOffline.onLine = false := by rw [Node.onLine, hwent.participation]
  have hjam : n.lineJam = (n.enterOffline.fault .lineJam).finish := if_pos h
  rw [hjam, Node.finish, hown, ← n.enterOffline.takeFaults_offLine .lineJam hoff (by rw [hf]; exact hr)
    n.enterOffline.lineJam_class]
  rfl

/-! #### The targets -/

/-- A code that names no target is refused (R146, log 44). -/
theorem targetOf_none (code : Nat) (h2 : code ≠ 2) (h3 : code ≠ 3) (h5 : code ≠ 5) :
    targetOf code = none := by
  unfold targetOf
  split
  · exact absurd rfl h2
  · exact absurd rfl h3
  · exact absurd rfl h5
  · rfl

/-- SET_PARTICIPATION from START onward (R146). -/
theorem exec_setParticipation {args : List Byte} {s : State} {n : Node} (hl : args.length = 1)
    (hc : s.node.bus.participation ≠ .unconfigured)
    (h : s.node.setParticipation args = n) : exec (.setParticipation args) s = .next { s with node := n } :=
  State.act_eq ((Node.request_configured _ (s.node.configured_eq_true.2 hc) hl).trans h)

/-- A target named is moved to. -/
theorem Node.setParticipation_target {args : List Byte} {t : Participation} (n : Node)
    (h : targetOf (fieldAt args 0 1) = some t) : n.setParticipation args = n.moveTo t := by
  rw [Node.setParticipation, h]

/-- ACTIVE: the move made from LISTEN and OFFLINE, ignored elsewhere (R147). -/
theorem Node.moveTo_active (n : Node) :
    (n.bus.participation = .listen ∨ n.bus.participation = .offline →
      n.moveTo .active = n.enterJoining.finish.doneParticipation) ∧
    (n.bus.participation = .joining ∨ n.bus.participation = .active ∨
      n.bus.participation = .withdrawing → n.moveTo .active = n.ignored []) := by
  refine ⟨?_, ?_⟩
  · rintro (h | h) <;> (unfold Node.moveTo; rw [h])
  · rintro (h | h | h) <;> (unfold Node.moveTo; rw [h])

/-- LISTEN: the move made from ACTIVE and JOINING, ignored elsewhere (R148). -/
theorem Node.moveTo_listen (n : Node) :
    (n.bus.participation = .active ∨ n.bus.participation = .joining →
      n.moveTo .listen = n.enterListen.finish.doneParticipation) ∧
    (n.bus.participation = .listen ∨ n.bus.participation = .offline ∨
      n.bus.participation = .withdrawing → n.moveTo .listen = n.ignored []) := by
  refine ⟨?_, ?_⟩
  · rintro (h | h) <;> (unfold Node.moveTo; rw [h])
  · rintro (h | h | h) <;> (unfold Node.moveTo; rw [h])

/-- OFFLINE: the move made from ACTIVE, JOINING and LISTEN, ignored elsewhere (R150). -/
theorem Node.moveTo_offline (n : Node) :
    (n.bus.participation = .active ∨ n.bus.participation = .joining ∨
      n.bus.participation = .listen → n.moveTo .offline = n.enterOffline.finish.doneParticipation) ∧
    (n.bus.participation = .offline ∨ n.bus.participation = .withdrawing →
      n.moveTo .offline = n.ignored []) := by
  refine ⟨?_, ?_⟩
  · rintro (h | h | h) <;> (unfold Node.moveTo; rw [h])
  · rintro (h | h) <;> (unfold Node.moveTo; rw [h])

/-- DONE gives the participation now in force (log 38). -/
theorem Node.doneParticipation_answers {n : Node} {p : Participation} (h : n.bus.participation = p) :
    n.doneParticipation.answers Result.done 0 (be 1 p.code) := by
  rw [← h]
  rfl

/-- Settles O54: the blocks as each move leaves them, by target and participation. -/
theorem participationFollowsItsTarget : Obligations.ParticipationFollowsItsTarget := by
  refine ⟨fun args s hl hu => ?_, fun s => ⟨fun h => ?_, fun h hr => ?_⟩⟩
  · intro code p ignored
    have hexec := fun n => exec_setParticipation (n := n) hl hu
    have htarget := fun {t} => s.node.setParticipation_target (args := args) (t := t)
    obtain ⟨hactive, hactiveNot⟩ := s.node.moveTo_active
    obtain ⟨hlisten, hlistenNot⟩ := s.node.moveTo_listen
    obtain ⟨hoffline, hofflineNot⟩ := s.node.moveTo_offline
    refine ⟨fun h2 h3 h5 => ?_, fun hc hp => ?_, fun hc hp => ?_, fun hc hp => ?_,
      fun hc hp hcalm hcr => ?_, fun hc hp hcalm => ?_, fun hc hp hcalm => ?_⟩
    · refine hexec _ ?_
      rw [Node.setParticipation, targetOf_none _ h2 h3 h5]
      rfl
    · exact hexec _ ((htarget (congrArg targetOf hc)).trans (hactiveNot hp))
    · exact hexec _ ((htarget (congrArg targetOf hc)).trans (hlistenNot hp))
    · exact hexec _ ((htarget (congrArg targetOf hc)).trans (hofflineNot hp))
    · refine ⟨_, hexec _ ((htarget (congrArg targetOf hc)).trans (hactive hp)), rfl, ?_⟩
      obtain ⟨hpart, htimer, hrunning, hhighest, hwindow, hmarks, htracking, hview, hchanged⟩ :=
        s.node.enterJoining_finish hcalm.2 hcr
      generalize s.node.enterJoining.finish = m at *
      exact ⟨hpart, htimer, hrunning, hhighest, hwindow, hmarks, htracking, hview, hchanged,
        Node.doneParticipation_answers hpart⟩
    · refine ⟨_, hexec _ ((htarget (congrArg targetOf hc)).trans (hlisten hp)), rfl, ?_⟩
      obtain ⟨hlistens, hactiveView, hjoiningView⟩ := s.node.enterListen_finish hp hcalm
      obtain ⟨hpart, hqueue, hlde, hjoin, hstatus⟩ := hlistens.stopped
      generalize s.node.enterListen.finish = m at *
      exact ⟨hpart, hqueue, hlde, hjoin, hstatus, hlistens.own, hlistens.tracking, hactiveView,
        hjoiningView, hlistens.changed, Node.doneParticipation_answers hpart⟩
    · refine ⟨_, hexec _ ((htarget (congrArg targetOf hc)).trans (hoffline hp)), rfl, ?_⟩
      obtain ⟨hwent, hf⟩ := s.node.enterOffline_wentOffline
      have h : s.node.enterOffline.finish.WentOffline s.node := by
        rw [Node.finish_nil _ (by rw [hf]; exact hcalm.2)]
        exact hwent.settle
      generalize s.node.enterOffline.finish = m at *
      exact ⟨h.participation, h.queue, h.lde, h.joinRunning, h.statusRunning, h.window, h.marks,
        h.arrivals, h.others, h.view, h.number, h.own, h.tracking, h.changed, h.lines,
        Node.doneParticipation_answers h.participation⟩
  · refine State.act_same ?_
    rw [Node.lineJam, h]
    rfl
  · obtain ⟨hwent, hf⟩ := s.node.enterOffline_wentOffline
    have hjam := (hwent.countFault .lineJam).settle
    have hstands := (s.node.enterOffline.countFault .lineJam).settle_stands.blocks
    have hfaults : (s.node.enterOffline.countFault .lineJam).settle.faults =
        (s.node.countFault .lineJam).faults :=
      (congrArg Blocks.faults hstands).trans (by rw [Node.countFault, hf, Node.countFault]; rfl)
    refine ⟨_, State.act_eq (Node.lineJam_eq h hr), rfl, ?_⟩
    generalize (s.node.enterOffline.countFault .lineJam).settle = m at *
    refine ⟨hjam.participation, hjam.queue, hjam.lde, hjam.window, hjam.marks, hjam.arrivals,
      hjam.others, hjam.view, hjam.number, hjam.own, hjam.tracking, ?_, hjam.changed, hjam.lines, ?_⟩
    · exact (congrArg FaultUnit.firstFatal hfaults :)
    · have hcount := s.node.countFault_counted .lineJam
      rw [Node.countedOnce, ← hfaults] at hcount
      exact hcount

end Sys2Proof.Machine

/-! ### Marks: what is up to reports, the lines and the faults that wait (R114, R170, R181, R183) -/

namespace Sys2Proof.Machine

/-- `m` is `n` but for reports, the action lines and the faults that wait: what an event touches besides its
own effect before its faults are taken (R114, R170, R181, R183). -/
def Node.upToFollowing (m n : Node) : Prop :=
  (∃ frames, FaultFrames frames ∧
    m = { n with
      counters.cells := m.counters.cells
      port.notices := m.port.notices
      port.response := m.port.response
      prot.lines := m.prot.lines
      faults.counts := m.faults.counts
      faults.reported := m.faults.reported
      bus.queue := n.bus.queue ++ frames
      turns := m.turns }) ∧
  m.sameSelections n ∧ m.keepsNotices n

theorem Node.sameSelections_refl (n : Node) : n.sameSelections n := fun _ =>
  (Counter.sameSelection_iff _ _).2 ⟨rfl, rfl, rfl⟩

theorem Node.sameSelections_trans {l m n : Node} (h : l.sameSelections m) (k : m.sameSelections n) :
    l.sameSelections n := fun i => by
  obtain ⟨hc, hm, hk⟩ := (Counter.sameSelection_iff _ _).1 (h i)
  obtain ⟨kc, km, kk⟩ := (Counter.sameSelection_iff _ _).1 (k i)
  exact (Counter.sameSelection_iff _ _).2 ⟨hc.trans kc, hm.trans km, hk.trans kk⟩

theorem Node.upToFollowing_refl (n : Node) : n.upToFollowing n :=
  ⟨⟨[], faultFrames_nil, by rw [List.append_nil]⟩, n.sameSelections_refl, fun _ h => h⟩

theorem Node.upToFollowing_trans {l m n : Node} (h : l.upToFollowing m) (k : m.upToFollowing n) :
    l.upToFollowing n := by
  obtain ⟨⟨f1, hf1, he1⟩, hs1, hn1⟩ := h
  obtain ⟨⟨f2, hf2, he2⟩, hs2, hn2⟩ := k
  refine ⟨⟨f2 ++ f1, faultFrames_append hf2 hf1, ?_⟩, Node.sameSelections_trans hs1 hs2,
    Node.keepsNotices_trans hn1 hn2⟩
  rw [he1, he2]
  simp

/-- What an addition to the counters may touch is among the reports (R172). -/
theorem Node.report_upToFollowing (e : CounterEvent) (n : Node) : (n.report e).upToFollowing n := by
  obtain ⟨he, hs, hn⟩ := n.addCounters_reports (Counter.counts e)
  refine ⟨⟨[], faultFrames_nil, ?_⟩, hs, hn⟩
  unfold Node.report
  generalize n.addCounters (Counter.counts e) = t at he
  rw [he, List.append_nil]

/-- Faults that wait are no part of what an event is judged by (R183). -/
theorem Node.waits_upToFollowing (waiting : List FaultReport) (n : Node) :
    ({ n with faults.reported := waiting } : Node).upToFollowing n :=
  ⟨⟨[], faultFrames_nil, by rw [List.append_nil]⟩, n.sameSelections_refl, fun _ h => h⟩

theorem Node.notice_upToFollowing (i : Nat) (n : Node) : (n.notice i).upToFollowing n :=
  ⟨⟨[], faultFrames_nil, by rw [List.append_nil]; rfl⟩, n.sameSelections_refl, n.notice_keepsNotices i⟩

/-- Once no more faults wait in the one than in the other, reports and lines are all that differs. -/
theorem Node.upToFollowing_iff {m n : Node} (h : m.faults.reported = n.faults.reported) :
    m.upToFollowing n ↔ m.upToReports { n with prot.lines := m.prot.lines } := by
  unfold Node.upToFollowing
  rw [h]
  exact Iff.rfl

/-- Settling without an own proposal (R114, R171). -/
theorem Node.settle_upToFollowing {n : Node} (ho : n.line.own = none) : n.settle.upToFollowing n :=
  (Node.upToFollowing_iff (by simp)).2 (n.settle_reports ho)

/-- A block done with an event whose faults are mild (R183). -/
theorem Node.finish_upToFollowing {n : Node} (h : n.mild) (ho : n.line.own = none) :
    n.finish.upToFollowing n := by
  have hnone : n.finish.upToFollowing n.noneReported :=
    (Node.upToFollowing_iff n.finish_reported).2 (Node.finish_upToReports h ho)
  exact Node.upToFollowing_trans hnone (n.waits_upToFollowing [])

theorem Node.upToFollowing_line {m n : Node} (h : m.upToFollowing n) : m.line = n.line := by
  obtain ⟨⟨_, _, he⟩, _⟩ := h
  rw [he]

/-- The same change of the line state in both. -/
theorem Node.upToFollowing_mapLine {m n : Node} (g : LineState → LineState) (h : m.upToFollowing n) :
    ({ m with line := g m.line } : Node).upToFollowing { n with line := g n.line } := by
  obtain ⟨⟨frames, hf, he⟩, hs, hn⟩ := h
  refine ⟨⟨frames, hf, ?_⟩, hs, hn⟩
  rw [he]

/-- The same change of the Protection Unit, lines and all. -/
theorem Node.upToFollowing_setProt {m n : Node} (p : Protection) (h : m.upToFollowing n) :
    ({ m with prot := p } : Node).upToFollowing { n with prot := p } := by
  obtain ⟨⟨frames, hf, he⟩, hs, hn⟩ := h
  refine ⟨⟨frames, hf, ?_⟩, hs, hn⟩
  rw [he]

/-- An event that has come to `n`, its faults mild and none of them waiting before it, is done: it is `n` up
to reports and the lines (R183). -/
theorem Node.finish_comesTo {m n : Node} (h : m.upToFollowing n) (hm : m.mild)
    (ho : n.line.own = none) (hr : n.faults.reported = []) :
    m.finish.upToReports { n with prot.lines := m.finish.prot.lines } := by
  have hown : m.line.own = none := (congrArg LineState.own (Node.upToFollowing_line h)).trans ho
  exact (Node.upToFollowing_iff (m.finish_reported.trans hr.symm)).1
    (Node.upToFollowing_trans (Node.finish_upToFollowing hm hown) h)

/-- Where the lines followed, mild faults taken leave them (R114). -/
theorem Node.finish_lines {n : Node} (h : n.mild) (ho : n.line.own = none) (hl : n.linesFollow) :
    n.finish.prot.lines = n.prot.lines := by
  obtain ⟨hfin, hkept, -⟩ := n.finish_mild h ho
  have hfol : n.takeFaults.followers = n.followers := by
    rw [hkept]
    rfl
  rw [hfin, n.takeFaults.settle_lines (Node.linesFollow_of_followers hfol hl)]
  exact congrArg Followers.lines hfol

/-! #### How often a fault is counted (R183) -/

/-- How many faults of a kind wait. -/
def Node.waiting (k : FaultKind) (n : Node) : Nat :=
  n.faults.reported.countP fun r => decide (r.kind.index = k.index)

/-- A detected count after `j` more faults of its kind (R183). -/
def raised (j : Nat) (count : Option Nat) : Option Nat := count.map (fun c => addHold 255 c 1)^[j]

theorem raised_zero (count : Option Nat) : raised 0 count = count := Option.map_id_apply

theorem raised_raised (i j : Nat) (count : Option Nat) :
    raised i (raised j count) = raised (j + i) count := by
  unfold raised
  rw [Option.map_map, ← Function.iterate_add, Nat.add_comm]

/-- An order chosen is an order of the same list (log 4). -/
theorem permute_perm {α : Type} (k : Nat) (ts : List Nat) (l : List α) :
    (permute k ts l).Perm l := by
  induction k generalizing ts l with
  | zero => exact .refl l
  | succ k ih =>
    unfold permute
    split
    · rename_i a ha
      obtain ⟨hi, rfl⟩ := List.getElem?_eq_some_iff.1 ha
      exact ((ih _ _).cons _).trans (List.getElem_cons_eraseIdx_perm hi)
    · exact .refl l

/-- `m` comes of `n` by `j` more faults of kind `k` counted, and its faults are mild (R183). -/
structure Node.Counted (k : FaultKind) (j : Nat) (m n : Node) : Prop where
  mild : m.mild
  count : m.faults.counts[k.index]? = raised j n.faults.counts[k.index]?

theorem Node.Counted.trans {k : FaultKind} {i j : Nat} {l m n : Node} (h : l.Counted k i m)
    (g : m.Counted k j n) : l.Counted k (j + i) n :=
  ⟨h.mild, by rw [h.count, g.count, raised_raised]⟩

/-- One mild fault counted and reported: its own kind is counted, and of the other kinds FRAME_DROPPED alone
may come to wait (R140, R183). -/
theorem Node.reportFault_counted {k : FaultKind} (hd : FaultKind.frameDropped.index ≠ k.index)
    (frames : Bool) (r : FaultReport) {n : Node} (h : n.mild) :
    let m := (n.countFault r.kind).reportClass frames (n.faultClass r.kind) r.kind
    m.Counted k (if r.kind.index = k.index then 1 else 0) n ∧ m.waiting k = n.waiting k := by
  intro m
  obtain ⟨-, hcounts, hwaits⟩ := n.reportFault_upToFaults frames (n.faultClass r.kind) r.kind
  refine ⟨⟨(Node.takeMild_kept frames r n).2 h, ?_⟩, ?_⟩
  · rw [hcounts]
    split
    · rename_i hk
      rw [← hk]
      simp [Node.countFault, raised]
    · rename_i hk
      rw [n.countFault_other k r.kind hk, raised_zero]
  · unfold Node.waiting
    rcases hwaits with hw | ⟨-, hw⟩
    · rw [hw]
    · rw [hw, List.countP_append, List.countP_singleton]
      simp [hd]

/-- A turn of the Fault Unit over mild faults counts each that waits (R183). -/
theorem Node.takeReported_counted {k : FaultKind} (hd : FaultKind.frameDropped.index ≠ k.index)
    {take : Node → FaultReport → Node}
    (ht : ∀ n r, n.mild → mildKind r.kind = true → ∃ frames,
      take n r = (n.countFault r.kind).reportClass frames (n.faultClass r.kind) r.kind)
    {n : Node} (h : n.mild) :
    (n.takeReported take).Counted k (n.waiting k) n ∧ (n.takeReported take).waiting k = 0 := by
  have hfold : ∀ (l : List FaultReport) (m : Node), (∀ r ∈ l, mildKind r.kind = true) → m.mild →
      (l.foldl take m).Counted k (l.countP fun r => decide (r.kind.index = k.index)) m ∧
      (l.foldl take m).waiting k = m.waiting k := by
    intro l
    induction l with
    | nil => exact fun m _ hm => ⟨⟨hm, (raised_zero _).symm⟩, rfl⟩
    | cons r l ih =>
      intro m hl hm
      obtain ⟨frames, he⟩ := ht m r hm (hl r List.mem_cons_self)
      obtain ⟨hone, hwait⟩ := Node.reportFault_counted hd frames r hm
      rw [← he] at hone hwait
      obtain ⟨hrest, hwaits⟩ := ih _ (fun q hq => hl q (List.mem_cons_of_mem _ hq)) hone.mild
      refine ⟨?_, hwaits.trans hwait⟩
      have hboth := hrest.trans hone
      rw [List.countP_cons, Nat.add_comm]
      simpa using hboth
  have hbase : (Node.spendOrder n.faults.reported.length { n with faults.reported := [] }).mild :=
    ⟨h.1, fun r hr => absurd hr List.not_mem_nil⟩
  obtain ⟨hcounted, hnone⟩ := hfold (n.inOrder n.faults.reported) _
    (fun r hr => h.2 r (mem_permute _ _ _ _ hr)) hbase
  rw [Node.inOrder, (permute_perm _ _ _).countP_eq] at hcounted
  exact ⟨⟨hcounted.mild, hcounted.count⟩, hnone⟩

/-- Mild faults taken: each kind but FRAME_DROPPED, which taking faults may make, is counted as often as it
waits (R140, R183). -/
theorem Node.takeFaults_counts {k : FaultKind} (hd : FaultKind.frameDropped.index ≠ k.index) {n : Node}
    (h : n.mild) :
    n.takeFaults.faults.counts[k.index]? = raised (n.waiting k) n.faults.counts[k.index]? := by
  unfold Node.takeFaults
  split
  · rename_i hnone
    rw [Node.waiting, List.isEmpty_iff.1 hnone]
    exact (raised_zero _).symm
  · obtain ⟨h1, w1⟩ := Node.takeReported_counted hd
      (fun m r hm hk => ⟨_, (m.take_mild_eq r hm hk).1⟩) h
    obtain ⟨h2, w2⟩ := Node.takeReported_counted hd
      (fun m r hm hk => ⟨_, (m.take_mild_eq r hm hk).2.1⟩) h1.mild
    obtain ⟨h3, -⟩ := Node.takeReported_counted hd
      (fun m r hm hk => ⟨_, (m.take_mild_eq r hm hk).2.2⟩) h2.mild
    rw [w1] at h2
    rw [w2] at h3
    exact (h3.trans (h2.trans h1)).count

/-- A block done with an event whose faults are mild has counted each of them (R183). -/
theorem Node.finish_counts {k : FaultKind} (hd : FaultKind.frameDropped.index ≠ k.index) {n : Node}
    (h : n.mild) (ho : n.line.own = none) :
    n.finish.faults.counts[k.index]? = raised (n.waiting k) n.faults.counts[k.index]? := by
  obtain ⟨hfin, -⟩ := n.finish_mild h ho
  rw [← Node.takeFaults_counts hd h, hfin]
  simp

end Sys2Proof.Machine

/-! ### POST_MARK: entries offered, claims, point marks (R26, R27, R46, R47, R58 to R60) -/

namespace Sys2Proof.Machine

/-! #### Entries and claims -/

/-- The list holds an entry of the same kind, id and station (R46). -/
theorem holdsEntry_iff (m : MarkEntry) (l : List MarkEntry) : holdsEntry m l = true ↔
    ∃ e ∈ l, e.kind = m.kind ∧ e.id = m.id ∧ e.station = m.station := by
  simp [holdsEntry, and_assoc]

/-- An entry of the same kind, id and station changes nothing but the summary (R46, R47). -/
theorem offerEntry_duplicate (m : MarkEntry) (b : Body) (h : holdsEntry m b.marks = true) :
    offerEntry m b = { b with summary := b.summary ||| (1#8 <<< (m.kind.code - 1)) } := by
  simp [offerEntry, addEntry, offerOutcome, summarize, h]

/-- With room it is the newest (R46). -/
theorem offerEntry_stamped (m : MarkEntry) (b : Body) (h : holdsEntry m b.marks = false)
    (hroom : b.marks.length < 4) : offerEntry m b = { b with
      summary := b.summary ||| (1#8 <<< (m.kind.code - 1)), marks := b.marks ++ [m] } := by
  simp [offerEntry, addEntry, offerOutcome, summarize, Config.markListCapacity, h, hroom]

/-- A full list drops it (R46). -/
theorem offerEntry_dropped (m : MarkEntry) (b : Body) (h : holdsEntry m b.marks = false)
    (hfull : 4 ≤ b.marks.length) : offerEntry m b = { b with
      summary := b.summary ||| (1#8 <<< (m.kind.code - 1)), flags := b.flags ||| (1#16 <<< 12) } := by
  simp [offerEntry, addEntry, offerOutcome, summarize, Config.markListCapacity, h, Nat.not_lt.2 hfull,
    setFlag, RecordFlag.marksOverflow]

/-- The code of the outcome of an offer (R46, Table 8-12). -/
theorem offerOutcome_code (m : MarkEntry) (b : Body) : (offerOutcome m b).code =
    if holdsEntry m b.marks then 1 else if b.marks.length < 4 then 0 else 2 := by
  unfold offerOutcome Config.markListCapacity
  split
  · rfl
  · split <;> rfl

/-- A closed record covers the positions from its tail up to, not with, its head (R26). -/
theorem ClosedRecord.covers_iff (l p : Nat) (r : ClosedRecord) :
    r.covers l p = true ↔ (l : Int) - r.tail ≤ p ∧ (p : Int) < (l : Int) - r.head := by
  simp only [ClosedRecord.covers, Bool.and_eq_true, decide_eq_true_eq]
  omega

/-- The entering record covers the positions below its head (R26). -/
theorem EnteringRecord.covers_iff (l p : Nat) (e : EnteringRecord) :
    e.covers l p = true ↔ (p : Int) < (l : Int) - e.head := by
  simp only [EnteringRecord.covers, decide_eq_true_eq]
  omega

/-- A claim on a span reaches the closed records that cover a position of it: the first position that both
the span and the record have, if any (R26). -/
theorem ClosedRecord.overlaps_iff (l s e : Nat) (r : ClosedRecord) (hse : s ≤ e) :
    r.overlaps l s e = true ↔
      ∃ q : Nat, s ≤ q ∧ q ≤ e ∧ (l : Int) - r.tail ≤ q ∧ (q : Int) < (l : Int) - r.head := by
  simp only [ClosedRecord.overlaps, Bool.and_eq_true, decide_eq_true_eq]
  constructor
  · intro h
    exact ⟨max s (l - r.tail), by omega⟩
  · rintro ⟨q, h⟩
    omega

/-- It reaches the entering record when that covers the span's start (R26). -/
theorem EnteringRecord.covers_span_iff (l s e : Nat) (x : EnteringRecord) (hse : s ≤ e) :
    x.covers l s = true ↔ ∃ q : Nat, s ≤ q ∧ q ≤ e ∧ (q : Int) < (l : Int) - x.head := by
  rw [x.covers_iff]
  constructor
  · exact fun h => ⟨s, le_rfl, hse, h⟩
  · rintro ⟨q, h⟩
    omega

/-! #### Requests of the Mark Unit -/

/-- From START onward and on the line a mark request of the right length comes to its effect (R55, R56,
R58). -/
theorem Node.request_tracking {len : Nat} {args : List Byte} (act : Node → Node) {n : Node}
    (hu : n.bus.participation ≠ .unconfigured) (ho : n.bus.participation ≠ .offline)
    (hl : args.length = len) : n.request len args (Node.whenTracking act) = act n := by
  have hc := n.configured_eq_true.2 hu
  rw [Node.request_taken _ (n.inReset_configured hc) hl, Node.whenTracking, if_neg (by simp [hc, ho])]

/-- In OFFLINE it is refused (R55, R56, R58). -/
theorem Node.request_offline {len : Nat} {args : List Byte} (act : Node → Node) {n : Node}
    (ho : n.bus.participation = .offline) (hl : args.length = len) :
    n.request len args (Node.whenTracking act) = n.refuseState := by
  have hc : n.configured = true := n.configured_eq_true.2 (by simp [ho])
  rw [Node.request_taken _ (n.inReset_configured hc) hl, Node.whenTracking, if_pos (.inr ho)]

/-- The refusals of POST_MARK by kind, then by id (R58 to R60, log 35). -/
theorem Node.postMark_refuses (kind id : Nat) (n : Node) :
    (kind < 4 ∨ 7 < kind → n.postMark kind id = n.refuseArgument 1) ∧
    (kind = 4 → n.isOrigin = false → n.postMark kind id = n.refuseArgument 1) ∧
    (kind = 6 → n.isTerminal = false → n.postMark kind id = n.refuseArgument 1) ∧
    (kind = 4 → n.isOrigin = true → (id = 0 ∨ id = n.marks.beamSet) →
      n.postMark kind id = n.refuseArgument 2) ∧
    ((kind = 5 ∨ kind = 7) → id = 0 → n.postMark kind id = n.refuseArgument 2) := by
  refine ⟨fun h => ?_, ?_, ?_, ?_, ?_⟩
  · unfold Node.postMark
    rcases kind with _ | _ | _ | _ | _ | _ | _ | _ | kind
    iterate 4 rfl
    iterate 4 omega
    rfl
  · rintro rfl ho
    simp [Node.postMark, MarkKind.ofCode?, ho]
  · rintro rfl ht
    simp [Node.postMark, MarkKind.ofCode?, ht]
  · rintro rfl ho hid
    simp [Node.postMark, MarkKind.ofCode?, ho, hid]
  · rintro (rfl | rfl) rfl <;> rfl

/-- A LEASE or OPERATOR mark with an id is posted at the mark point (R58). -/
theorem Node.postMark_point (kind id : Nat) (k : MarkKind) (n : Node)
    (hk : MarkKind.ofCode? kind = some k) (hpoint : k = .lease ∨ k = .operator) (hid : id ≠ 0) :
    n.postMark kind id = n.postAtPoint k id := by
  unfold Node.postMark
  rw [hk]
  rcases hpoint with rfl | rfl <;> exact if_neg hid

/-! #### A point mark stamped -/

/-- The same fault reported several times waits so many times (R183). -/
theorem Node.faultTimes_replicate (k : FaultKind) (c : Nat) (n : Node) : n.faultTimes k c = { n with
    faults.reported := n.faults.reported ++ List.replicate c { kind := k, silent := false } } := by
  induction c generalizing n with
  | zero =>
    rw [List.replicate_zero, List.append_nil]
    rfl
  | succ c ih =>
    rw [Node.faultTimes, ih, List.replicate_succ]
    simp [Node.fault]

/-- Entries dropped are no fault of another kind (R46). -/
theorem Node.overflows_waiting (k : FaultKind) (c : Nat) (n : Node)
    (hk : FaultKind.marksOverflow.index ≠ k.index) :
    (n.faultTimes .marksOverflow c).waiting k = n.waiting k := by
  rw [Node.faultTimes_replicate, Node.waiting, List.countP_append, List.countP_replicate]
  simp [hk, Node.waiting]

/-- Entries dropped are mild (Table 11-4). -/
theorem Node.overflows_mild (c : Nat) {n : Node} (h : n.mild) :
    (n.faultTimes .marksOverflow c).mild := by
  rw [Node.faultTimes_replicate]
  refine ⟨h.1, fun r hr => ?_⟩
  rcases List.mem_append.1 hr with hold | hnew
  · exact h.2 r hold
  · rw [List.eq_of_mem_replicate hnew]
    rfl

/-- The window with a point mark stamped (R46, R58). -/
def Node.stamped (c : Claim) (k : MarkKind) (id p : Nat) (n : Node) : Node :=
  { n with window := n.window.write c fun h b => offerEntry (n.pointEntry k id p h) b }

/-- What a point mark does depends on the record, the tracking length and the window alone (R46, R58). -/
theorem Node.stamped_upToFollowing (c : Claim) (k : MarkKind) (id p : Nat) {m n : Node}
    (h : m.upToFollowing n) : (m.stamped c k id p).upToFollowing (n.stamped c k id p) ∧
      m.pointOutcome c k id p = n.pointOutcome c k id p := by
  obtain ⟨⟨frames, hf, he⟩, hs, hn⟩ := h
  refine ⟨⟨⟨frames, hf, ?_⟩, hs, hn⟩, ?_⟩
  · rw [he]
    rfl
  · rw [he]
    rfl

/-- A point mark taken by a part that has come to `n`, its faults mild and its lines following: it is `n` with
the window stamped, up to reports; each fault but FRAME_DROPPED and MARKS_OVERFLOW is counted as often as it
waited; and the answer tells what the stamp did (R58, R183). -/
theorem Node.postPoint_stamps (c : Claim) (k : MarkKind) (id p beam : Nat) {m n : Node}
    (h : m.upToFollowing n) (hm : m.mild) (ho : n.line.own = none) (hr : n.faults.reported = [])
    (hl : m.linesFollow) (hp : m.prot = n.prot) :
    (m.postPoint c k id p beam).upToReports (n.stamped c k id p) ∧
    (∀ j : FaultKind, FaultKind.frameDropped.index ≠ j.index →
      FaultKind.marksOverflow.index ≠ j.index →
      (m.postPoint c k id p beam).faults.counts[j.index]? =
        raised (m.waiting j) m.faults.counts[j.index]?) ∧
    (m.postPoint c k id p beam).answers Result.done 0 (postData (n.pointOutcome c k id p) beam) := by
  obtain ⟨drops, hdrops⟩ : ∃ drops, m.stampPoint c k id p =
      Node.faultTimes .marksOverflow drops (m.stamped c k id p) := ⟨_, rfl⟩
  obtain ⟨t, ht⟩ : ∃ t, t = (m.stampPoint c k id p).report (CounterEvent.markOpened k) := ⟨_, rfl⟩
  have hpost : m.postPoint c k id p beam = t.finish.done (postData (m.pointOutcome c k id p) beam) := by
    rw [ht]
    rfl
  obtain ⟨hboth, hout⟩ := Node.stamped_upToFollowing c k id p h
  have hstamp : t.upToFollowing (n.stamped c k id p) := by
    refine Node.upToFollowing_trans ?_ hboth
    rw [ht, hdrops, Node.faultTimes_replicate]
    exact Node.upToFollowing_trans (Node.report_upToFollowing _ _)
      ((m.stamped c k id p).waits_upToFollowing _)
  have hfaults : t.faults = (Node.faultTimes .marksOverflow drops (m.stamped c k id p)).faults := by
    rw [ht, hdrops]
    simp
  have hmild : t.mild := by
    have hover := Node.overflows_mild drops (n := m.stamped c k id p) hm
    unfold Node.mild at hover ⊢
    rwa [hfaults]
  have hown : t.line.own = none :=
    (congrArg LineState.own (Node.upToFollowing_line hstamp)).trans ho
  have hlines : t.linesFollow := by
    refine Node.linesFollow_of_followers (n := m) ?_ hl
    rw [ht, hdrops, Node.report_followers, Node.faultTimes_replicate]
    rfl
  have hprot : t.prot = n.prot := by
    rw [ht, hdrops, ← hp]
    simp [Node.stamped]
  rw [hpost, hout]
  refine ⟨Node.upToReports_respond ?_ _ _ _, fun j hd hj => ?_, rfl⟩
  · have hcome := Node.finish_comesTo hstamp hmild ho hr
    rw [Node.finish_lines hmild hown hlines, hprot] at hcome
    exact hcome
  · have hcounts := Node.finish_counts hd hmild hown
    have hwait : t.waiting j = m.waiting j := by
      rw [Node.waiting, hfaults]
      exact Node.overflows_waiting j drops (m.stamped c k id p) hj
    rw [hwait, hfaults, Node.faultTimes_replicate] at hcounts
    exact hcounts

/-- A node with the faults of a quiet one has mild faults: none. -/
theorem Node.mild_of_quiet {m n : Node} (hq : n.quiet) (hf : m.faults = n.faults) : m.mild := by
  obtain ⟨he, hr, -⟩ := Node.of_quiet hq
  refine ⟨by rw [hf, he], fun r hmem => ?_⟩
  rw [hf, hr] at hmem
  exact absurd hmem List.not_mem_nil

/-- The same at a quiet part of which the request has made `m`, nothing that the followers read changed
(R58). -/
theorem Node.postPoint_quiet (c : Claim) (k : MarkKind) (id p beam : Nat) {m n : Node} (hq : n.quiet)
    (hfol : m.followers = n.followers) (hf : m.faults = n.faults) (ho : m.line.own = none) :
    (m.postPoint c k id p beam).upToReports (m.stamped c k id p) ∧
    (m.postPoint c k id p beam).answers Result.done 0 (postData (m.pointOutcome c k id p) beam) := by
  have hnone : m.faults.reported = [] := by rw [hf, (Node.of_quiet hq).2.1]
  obtain ⟨hup, -, hans⟩ := Node.postPoint_stamps c k id p beam m.upToFollowing_refl
    (Node.mild_of_quiet hq hf) ho hnone (Node.linesFollow_of_followers hfol hq.2.1) rfl
  exact ⟨hup, hans⟩

/-- What a point mark will do, by the first record that its claim reaches (R58). -/
theorem Node.pointOutcome_cases (c : Claim) (k : MarkKind) (id p : Nat) (n : Node) :
    (n.window.reached c = [] →
      n.pointOutcome c k id p = { outcome := 3, first := 0, last := 0, offset := 0 }) ∧
    (∀ h b rest, n.window.reached c = (h, b) :: rest → n.pointOutcome c k id p =
      { outcome := if holdsEntry (n.pointEntry k id p h) b.marks then 1
          else if b.marks.length < 4 then 0 else 2
        first := b.first, last := b.last, offset := n.len.tracking - p - h }) := by
  refine ⟨fun h => ?_, fun h b rest hr => ?_⟩
  · simp [Node.pointOutcome, h]
  · simp [Node.pointOutcome, hr, offerOutcome_code]

/-- Settles O26: entries by what the mark list holds, point marks by `Node.postPoint_quiet`, claims by the
positions that a record covers. -/
theorem pointMarksAndTheirEntries : Obligations.PointMarksAndTheirEntries := by
  refine ⟨fun m b => ⟨fun hdup => ?_, fun hnew => ?_⟩, ⟨fun args s k hl hk hpoint hid hu ho hq => ?_,
    fun args s hl hu => ⟨fun ho => ?_, fun ho => ?_⟩⟩, fun l p s e r x hse => ?_, fun c w f => ?_⟩
  · exact offerEntry_duplicate m b ((holdsEntry_iff m b.marks).2 hdup)
  · have h : holdsEntry m b.marks = false := by
      rw [Bool.eq_false_iff, Ne, holdsEntry_iff]
      exact fun ⟨e, he, hsame⟩ => hnew e he hsame
    exact ⟨offerEntry_stamped m b h, offerEntry_dropped m b h⟩
  · intro l p c entry
    obtain ⟨hup, hans⟩ := Node.postPoint_quiet c k (fieldAt args 1 2) p 0 hq rfl rfl
      (Node.of_quiet hq).2.2
    obtain ⟨hnone, hsome⟩ := s.node.pointOutcome_cases c k (fieldAt args 1 2) p
    refine ⟨_, State.act_eq ((Node.request_tracking _ hu ho hl).trans
      (s.node.postMark_point _ _ k hk hpoint hid)), rfl, hup, fun hr => ?_, fun h b rest hr => ?_⟩
    · rw [hnone hr] at hans
      exact hans
    · rw [hsome h b rest hr] at hans
      exact hans
  · exact State.act_eq (Node.request_offline _ ho hl)
  · obtain ⟨hkind, hknot, hcut, hbeam, hid⟩ :=
      s.node.postMark_refuses (fieldAt args 0 1) (fieldAt args 1 2)
    have hreq : ∀ {m}, s.node.postMark (fieldAt args 0 1) (fieldAt args 1 2) = m →
        exec (.postMark args) s = .next { s with node := m } := fun hm =>
      State.act_eq ((Node.request_tracking _ hu ho hl).trans hm)
    exact ⟨fun h => hreq (hkind h), fun h h' => hreq (hknot h h'), fun h h' => hreq (hcut h h'),
      fun h h' h'' => hreq (hbeam h h' h''), fun h h' => hreq (hid h h')⟩
  · exact ⟨r.covers_iff l p, x.covers_iff l p, r.overlaps_iff l s e hse, x.covers_span_iff l s e hse,
      rfl, rfl⟩
  · refine ⟨?_, rfl, ?_⟩
    · unfold Window.reached
      cases w.entering with
      | none => rfl
      | some x => cases hx : c.entering x <;> simp [Option.filter, hx]
    · unfold Window.write
      cases w.entering <;> rfl

end Sys2Proof.Machine

/-! ### A CUT and a KNOT (R34, R40, R59, R60) -/

namespace Sys2Proof.Machine

/-! #### The claim on the entering record -/

/-- A claim on the entering record writes into that record alone (R59). -/
theorem Window.write_enteringRecord (f : Nat → Body → Body) (w : Window) :
    w.write Claim.enteringRecord f =
      { w with entering := w.entering.map fun e => { e with body := f e.head e.body } } := by
  simp [Window.write, Claim.enteringRecord]

/-- It reaches that record, where there is one (R59). -/
theorem Window.reached_enteringRecord (w : Window) : w.reached Claim.enteringRecord =
    (w.entering.map fun e => (e.head, e.body)).toList := by
  cases he : w.entering <;> simp [Window.reached, Claim.enteringRecord, he]

/-- A record with nothing written into it yet (R28). -/
theorem freshBody_fields (number : Nat) (content : Content) (nominal : Option Nat) (beamSet : Nat)
    (derived : Bool) : let b := freshBody number content nominal beamSet derived
    b.first = number ∧ b.last = number ∧ b.marks = [] := by
  cases derived <;> exact ⟨rfl, rfl, rfl⟩

/-! #### The boundary claim of a KNOT -/

/-- The record that a cut with room closes (R33). -/
def Node.cutClosed (e : EnteringRecord) (n : Node) : ClosedRecord :=
  { body := { e.body with content := .filled, origin := some (n.len.tracking - e.head) }
    head := e.head, tail := n.len.tracking }

/-- The record that opens behind it (R28). -/
def Node.cutOpened (e : EnteringRecord) (n : Node) : EnteringRecord :=
  { body := freshBody (segSucc e.body.last) .filled (some n.config.segmentLength) n.marks.beamSet
      n.lengthDerived
    head := n.len.tracking, expectFrom := n.len.tracking, expected := some n.config.segmentLength }

/-- The ORIGIN after a cut with room (R33). -/
def Node.afterCut (e : EnteringRecord) (n : Node) : Node :=
  { n with window :=
    { closed := n.window.closed ++ [n.cutClosed e], entering := some (n.cutOpened e) } }

/-- The entering record after a cut in a full window (R40). -/
def Node.cutWidened (e : EnteringRecord) (n : Node) : EnteringRecord :=
  { head := e.head, expectFrom := n.len.tracking, expected := some n.config.segmentLength
    body := { e.body with
      last := segSucc e.body.last
      nominal := some (min 4294967295 (e.body.nominal.getD 0 + n.config.segmentLength))
      beamSet := if e.body.beamSet = n.marks.beamSet then e.body.beamSet else 0
      flags := e.body.flags ||| (1#16 <<< 2) } }

/-- The boundary claim of a KNOT makes no boundary in an empty window (R34). -/
theorem Node.knotClaim_empty (n : Node) (h : n.window.entering = none) :
    n.knotClaim n.len.tracking = n := by
  simp [Node.knotClaim, h]

/-- At the head of the entering record it makes none either (log 16). -/
theorem Node.knotClaim_head (n : Node) (e : EnteringRecord) (he : n.window.entering = some e)
    (hh : e.head = n.len.tracking) : n.knotClaim n.len.tracking =
      { n with window.entering := some { e with body.beamSet := n.marks.beamSet } } := by
  simp [Node.knotClaim, he, hh]

/-- With room in the window it cuts (R34). -/
theorem Node.knotClaim_room (n : Node) (e : EnteringRecord) (ho : n.isOrigin = true)
    (he : n.window.entering = some e) (hh : e.head < n.len.tracking)
    (hroom : n.window.closed.length < 47) : n.knotClaim n.len.tracking =
      Node.report (CounterEvent.boundary 3 (n.len.tracking - e.head)) (n.afterCut e) := by
  have hfull : ¬n.window.full = true := by rw [Window.full_iff _ e he]; omega
  have hcut : n.knotClaim n.len.tracking = n.cut n.len.tracking e := by
    simp [Node.knotClaim, he, hh]
  rw [hcut, Node.cut, if_neg hfull, Node.closeEntering, Node.newEntering, if_pos ho]
  rfl

/-- In a full window it widens the entering record (R34, R40). -/
theorem Node.knotClaim_full (n : Node) (e : EnteringRecord) (he : n.window.entering = some e)
    (hh : e.head < n.len.tracking) (hfull : 47 ≤ n.window.closed.length) :
    n.knotClaim n.len.tracking =
      Node.report (CounterEvent.boundary 1 (n.len.tracking - e.expectFrom))
        (Node.fault .windowCoalesce { n with window.entering := some (n.cutWidened e) }) := by
  have hcut : n.knotClaim n.len.tracking = n.cut n.len.tracking e := by
    simp [Node.knotClaim, he, hh]
  rw [hcut, Node.cut, if_pos ((Window.full_iff _ e he).2 hfull)]
  rfl

/-! #### The requests -/

/-- A CUT at the TERMINAL is posted (R60). -/
theorem Node.postMark_cut (id : Nat) (n : Node) (ht : n.isTerminal = true) :
    n.postMark 6 id = n.postCut := by
  simp [Node.postMark, MarkKind.ofCode?, ht]

/-- A KNOT with a new beam set at the ORIGIN is posted (R59). -/
theorem Node.postMark_knot (id : Nat) (n : Node) (ho : n.isOrigin = true) (hid : id ≠ 0)
    (hb : id ≠ n.marks.beamSet) : n.postMark 4 id = n.postKnot id := by
  simp [Node.postMark, MarkKind.ofCode?, ho, hid, hb]

/-- The beam set taken by a KNOT (R59, R61). -/
def Node.withBeam (id : Nat) (n : Node) : Node := { n with marks.beamSet := id }

/-- A KNOT at a quiet part whose boundary claim comes, up to reports, to `m`, with mild faults: it is `m` with
the KNOT stamped on the entering record (R59). -/
theorem Node.postKnot_stamps (id : Nat) {k m n : Node} (hq : n.quiet)
    (hk : (n.withBeam id).knotClaim n.len.tracking = k) (h : k.upToFollowing m) (hm : k.mild)
    (hfol : k.followers = n.followers) (hp : k.prot = m.prot) (ho : m.line.own = none)
    (hf : m.faults = n.faults) :
    (n.postKnot id).upToReports { m with
      window.entering := m.window.entering.map fun e =>
        { e with body := offerEntry (m.pointEntry .knot id 0 e.head) e.body } } ∧
    (∀ j : FaultKind, FaultKind.frameDropped.index ≠ j.index →
      FaultKind.marksOverflow.index ≠ j.index →
      (n.postKnot id).faults.counts[j.index]? = raised (k.waiting j) k.faults.counts[j.index]?) ∧
    (n.postKnot id).answers Result.done 0
      (postData (m.pointOutcome Claim.enteringRecord .knot id 0) id) := by
  have hpost : n.postKnot id = k.postPoint Claim.enteringRecord .knot id 0 id := by
    rw [← hk]
    rfl
  obtain ⟨hup, hcount, hans⟩ := Node.postPoint_stamps Claim.enteringRecord .knot id 0 id h hm ho
    (by rw [hf, (Node.of_quiet hq).2.1]) (Node.linesFollow_of_followers hfol hq.2.1) hp
  rw [Node.stamped, Window.write_enteringRecord] at hup
  rw [hpost]
  exact ⟨hup, hcount, hans⟩

/-- A KNOT in an empty window takes the beam set and drops its stamp (R34, R59). -/
theorem Node.postKnot_empty (id : Nat) {n : Node} (hq : n.quiet) (he : n.window.entering = none) :
    (n.postKnot id).upToReports (n.withBeam id) ∧
    (n.postKnot id).answers Result.done 0 (be 1 3 ++ be 3 0 ++ be 3 0 ++ be 4 0 ++ be 2 id) := by
  obtain ⟨hup, -, hans⟩ := Node.postKnot_stamps id hq ((n.withBeam id).knotClaim_empty he)
    (Node.upToFollowing_refl _) (Node.mild_of_quiet hq rfl) rfl rfl (Node.of_quiet hq).2.2 rfl
  have hsame : n.window.entering.map (fun e : EnteringRecord =>
      { e with body := offerEntry ((n.withBeam id).pointEntry .knot id 0 e.head) e.body }) =
        n.window.entering := by
    rw [he]
    rfl
  have hreached : n.window.reached Claim.enteringRecord = [] := by
    rw [Window.reached_enteringRecord, he]
    rfl
  rw [((n.withBeam id).pointOutcome_cases _ _ _ _).1 hreached] at hans
  refine ⟨?_, hans⟩
  change (n.postKnot id).upToReports { n.withBeam id with window.entering := n.window.entering.map _ } at hup
  rw [hsame] at hup
  exact hup

/-- A KNOT at the head of the entering record sets that record's beam set and falls on it (R59, log 16). -/
theorem Node.postKnot_head (id : Nat) {n : Node} (hq : n.quiet) (e : EnteringRecord)
    (he : n.window.entering = some e) (hh : e.head = n.len.tracking) :
    (n.postKnot id).upToReports { n.withBeam id with
      window.entering := some { e with
        body := offerEntry (n.pointEntry .knot id 0 n.len.tracking) { e.body with beamSet := id } } } := by
  obtain ⟨hup, -⟩ := Node.postKnot_stamps id hq ((n.withBeam id).knotClaim_head e he hh)
    (Node.upToFollowing_refl _) (Node.mild_of_quiet hq rfl) rfl rfl (Node.of_quiet hq).2.2 rfl
  rw [← hh]
  exact hup

/-- At the head of a record a point mark's offset is 0 (R46). -/
theorem Node.pointEntry_head (k : MarkKind) (id : Nat) (n : Node) : n.pointEntry k id 0 n.len.tracking =
    { kind := k, id := id, station := n.config.station, offset := 0 } := by
  simp [Node.pointEntry]

/-- A KNOT falls on the record that a cut opened, at its head (R58, R59). -/
theorem Node.afterCut_pointOutcome (e : EnteringRecord) (id : Nat) (n : Node) :
    (n.afterCut e).pointOutcome Claim.enteringRecord .knot id 0 =
      { outcome := 0, first := segSucc e.body.last, last := segSucc e.body.last, offset := 0 } := by
  obtain ⟨hfirst, hlast, hmarks⟩ := freshBody_fields (segSucc e.body.last) .filled
    (some n.config.segmentLength) n.marks.beamSet n.lengthDerived
  have hout := ((n.afterCut e).pointOutcome_cases Claim.enteringRecord .knot id 0).2 n.len.tracking
    (n.cutOpened e).body [] (Window.reached_enteringRecord _)
  rw [hout]
  simp [Node.cutOpened, Node.afterCut, hfirst, hlast, hmarks, holdsEntry]

/-- A KNOT with room in the window makes a boundary and falls on the record that opens (R34, R59). -/
theorem Node.postKnot_room (id : Nat) {n : Node} (hq : n.quiet) (ho : n.isOrigin = true)
    (e : EnteringRecord) (he : n.window.entering = some e) (hh : e.head < n.len.tracking)
    (hroom : n.window.closed.length < 47) :
    (n.postKnot id).upToReports { (n.withBeam id).afterCut e with
      window.entering := some { (n.withBeam id).cutOpened e with
        body := offerEntry { kind := .knot, id := id, station := n.config.station, offset := 0 }
          ((n.withBeam id).cutOpened e).body } } ∧
    (n.postKnot id).answers Result.done 0 (be 1 0 ++ be 3 (segSucc e.body.last) ++
      be 3 (segSucc e.body.last) ++ be 4 0 ++ be 2 id) := by
  obtain ⟨hup, -, hans⟩ := Node.postKnot_stamps id hq ((n.withBeam id).knotClaim_room e ho he hh hroom)
    (Node.report_upToFollowing _ _)
    (Node.mild_of_quiet hq (by simp [Node.withBeam, Node.afterCut]))
    (Node.report_followers _ _) (by simp) (Node.of_quiet hq).2.2 rfl
  rw [Node.afterCut_pointOutcome] at hans
  rw [← Node.pointEntry_head .knot id n]
  exact ⟨hup, hans⟩

/-- A KNOT in a full window widens the entering record and falls on it, with WINDOW_COALESCE (R34, R40,
R59). -/
theorem Node.postKnot_full (id : Nat) {n : Node} (hq : n.quiet) (e : EnteringRecord)
    (he : n.window.entering = some e) (hh : e.head < n.len.tracking)
    (hfull : 47 ≤ n.window.closed.length) :
    (n.postKnot id).upToReports { n.withBeam id with
      window.entering := some { (n.withBeam id).cutWidened e with
        body := offerEntry (n.pointEntry .knot id 0 e.head) ((n.withBeam id).cutWidened e).body } } ∧
    (n.postKnot id).countedOnce .windowCoalesce n := by
  obtain ⟨hesc, hrep, hown⟩ := Node.of_quiet hq
  obtain ⟨w, hw⟩ : ∃ w : Node, w =
      { n.withBeam id with window.entering := some ((n.withBeam id).cutWidened e) } := ⟨_, rfl⟩
  obtain ⟨k, hk⟩ : ∃ k, k = Node.report (CounterEvent.boundary 1 (n.len.tracking - e.expectFrom))
      (w.fault .windowCoalesce) := ⟨_, rfl⟩
  have hfaults : k.faults = (w.fault .windowCoalesce).faults := by
    rw [hk]
    simp
  have hwaits : k.faults.reported = [{ kind := .windowCoalesce, silent := false }] := by
    rw [hfaults, hw]
    exact congrArg (· ++ _) hrep
  have hmild : k.mild := by
    refine ⟨by rw [hfaults, hw]; exact hesc, fun r hr => ?_⟩
    rw [hwaits, List.mem_singleton] at hr
    rw [hr]
    rfl
  have hcome : k.upToFollowing w := by
    rw [hk]
    exact Node.upToFollowing_trans (Node.report_upToFollowing _ _) (w.waits_upToFollowing _)
  have hfol : k.followers = n.followers := by
    rw [hk, Node.report_followers, hw]
    rfl
  have hprot : k.prot = w.prot := by
    rw [hk]
    simp
  have hclaim : (n.withBeam id).knotClaim n.len.tracking = k := by
    rw [hk, hw]
    exact (n.withBeam id).knotClaim_full e he hh hfull
  obtain ⟨hup, hcount, -⟩ := Node.postKnot_stamps id hq hclaim hcome hmild hfol hprot
    (by rw [hw]; exact hown) (by rw [hw]; rfl)
  have hone : k.waiting .windowCoalesce = 1 := by
    rw [Node.waiting, hwaits]
    rfl
  have hcounts : k.faults.counts = n.faults.counts := by
    rw [hfaults, hw]
    rfl
  have hcoal := hcount .windowCoalesce (by decide) (by decide)
  rw [hone, hcounts] at hcoal
  rw [hw] at hup
  exact ⟨hup, hcoal⟩

/-- A KNOT with a new beam set, asked for at the ORIGIN on the line (R58, R59). -/
theorem exec_postKnot {args : List Byte} {s : State} (hl : args.length = 3) (hk : fieldAt args 0 1 = 4)
    (hid : fieldAt args 1 2 ≠ 0) (hb : fieldAt args 1 2 ≠ s.node.marks.beamSet)
    (hu : s.node.bus.participation ≠ .unconfigured) (hoff : s.node.bus.participation ≠ .offline)
    (ho : s.node.isOrigin = true) :
    exec (.postMark args) s = .next { s with node := s.node.postKnot (fieldAt args 1 2) } :=
  State.act_eq ((Node.request_tracking _ hu hoff hl).trans
    (by rw [hk]; exact s.node.postMark_knot _ ho hid hb))

/-- Settles O27: the CUT as a point mark at the exit point, the KNOT by what its boundary claim makes. -/
theorem cutAndKnotMarkTheSheet : Obligations.CutAndKnotMarkTheSheet := by
  refine ⟨fun args s hl hk hu hoff ht hq => ?_,
    fun args s e hl hk hid hb hu hoff ho hq he hh hroom => ?_,
    fun args s hl hk hid hb hu hoff ho hq => ?_⟩
  · have hexec : exec (.postMark args) s = .next { s with node := s.node.postCut } :=
      State.act_eq ((Node.request_tracking _ hu hoff hl).trans
        (by rw [hk]; exact s.node.postMark_cut _ ht))
    intro l p beam
    obtain ⟨hup, -⟩ := Node.postPoint_quiet (Claim.point l p) .cut beam p beam
      (m := { s.node with handover.beam := beam }) hq rfl rfl (Node.of_quiet hq).2.2
    exact ⟨_, hexec, rfl, hup⟩
  · have hexec := exec_postKnot hl hk hid hb hu hoff ho
    obtain ⟨hup, hans⟩ := Node.postKnot_room (fieldAt args 1 2) hq ho e he hh hroom
    exact ⟨_, hexec, rfl, hup, hans⟩
  · have hexec := exec_postKnot hl hk hid hb hu hoff ho
    refine ⟨fun he => ?_, fun e he hh => ?_, fun e he hh hfull => ?_⟩
    · obtain ⟨hup, hans⟩ := Node.postKnot_empty (fieldAt args 1 2) hq he
      exact ⟨_, hexec, rfl, hup, hans⟩
    · exact ⟨_, hexec, rfl, Node.postKnot_head (fieldAt args 1 2) hq e he hh⟩
    · obtain ⟨hup, hcount⟩ := Node.postKnot_full (fieldAt args 1 2) hq e he hh hfull
      exact ⟨_, hexec, rfl, hup, hcount⟩

end Sys2Proof.Machine

/-! ### Span marks at an advance and at a change of view (R50, R51, R53) -/

namespace Sys2Proof.Machine

/-! #### What a claim written leaves of another claim -/

/-- A claim that judges a record by its place and its first number, which no content written changes (R27,
R50). -/
structure Claim.Ranged (c : Claim) : Prop where
  closed : ∀ (r : ClosedRecord) (b : Body), b.first = r.body.first →
    c.closed { r with body := b } = c.closed r
  entering : ∀ (e : EnteringRecord) (b : Body), b.first = e.body.first →
    c.entering { e with body := b } = c.entering e

/-- The claim of an open mark at an advance is one (R50). -/
theorem frontierClaim_ranged (l s e : Nat) (m : SpanMark) :
    (frontierClaim (Claim.span l s e) m).Ranged := by
  constructor
  · intro r b hb
    simp only [frontierClaim, Claim.narrow, hb]
    rfl
  · intro x b hb
    simp only [frontierClaim, Claim.narrow, hb]
    rfl

/-- Contents written that keep the first numbers leave which records such a claim reaches (R27). -/
theorem Window.reached_write (c d : Claim) (f : Nat → Body → Body) (hd : d.Ranged)
    (hf : ∀ h b, (f h b).first = b.first) (w : Window) :
    ((w.write c f).reached d).map (fun hb => hb.2.first) = (w.reached d).map fun hb => hb.2.first := by
  have hclosed : ∀ r : ClosedRecord,
      d.closed (if c.closed r then { r with body := f r.head r.body } else r) = d.closed r ∧
      (if c.closed r then { r with body := f r.head r.body } else r).body.first = r.body.first := by
    intro r
    split
    · exact ⟨hd.closed r _ (hf _ _), hf _ _⟩
    · exact ⟨rfl, rfl⟩
  have hentering : ∀ e : EnteringRecord,
      d.entering (if c.entering e then { e with body := f e.head e.body } else e) = d.entering e ∧
      (if c.entering e then { e with body := f e.head e.body } else e).body.first = e.body.first := by
    intro e
    split
    · exact ⟨hd.entering e _ (hf _ _), hf _ _⟩
    · exact ⟨rfl, rfl⟩
  have hfilter : d.closed ∘ (fun r => if c.closed r then { r with body := f r.head r.body } else r) =
      d.closed := funext fun r => (hclosed r).1
  unfold Window.reached Window.write
  rw [List.map_append, List.map_append, List.filter_map, hfilter]
  congr 1
  · simp only [List.map_map]
    exact List.map_congr_left fun r _ => (hclosed r).2
  · cases w.entering with
    | none => rfl
    | some e =>
      obtain ⟨hreach, hfirst⟩ := hentering e
      simp only [Option.map_some, Option.filter_some, hreach]
      split
      · simpa using hfirst
      · rfl

/-- The frontier after a claim is a matter of the first numbers that it reaches (R50). -/
theorem Window.frontier_eq (c : Claim) (w : Window) (old : Nat) : w.frontier c old =
    (((w.reached c).map fun hb => hb.2.first).getLast?).getD old := by
  unfold Window.frontier
  rw [List.getLast?_map]
  cases (w.reached c).getLast? <;> rfl

/-- A stamp leaves the frontier that such a claim gives (R46, R50). -/
theorem Window.frontier_stamp (c d : Claim) (m : MarkEntry) (hd : d.Ranged) (w : Window) (old : Nat) :
    (w.stamp c m).frontier d old = w.frontier d old := by
  rw [Window.frontier_eq, Window.frontier_eq, Window.stamp,
    Window.reached_write c d _ hd fun _ b => (offerEntry_range m b).1]

/-! #### The sweep -/

/-- An open mark after an advance, with the frontier that the window gives it; none when it closes (R50,
R51). -/
def SpanMark.swept (c : Claim) (mm : Nat) (w : Window) (s : SpanMark) : Option SpanMark :=
  (s.countdown.after mm).map fun d =>
    { s with countdown := d, frontier := w.frontier (frontierClaim c s) s.frontier }

/-- A mark that stamps leaves what the next will make of itself (R50). -/
theorem SpanMark.swept_stamp (c d : Claim) (mm : Nat) (m : MarkEntry) (w : Window) (s : SpanMark)
    (hd : (frontierClaim d s).Ranged) : s.swept d mm (w.stamp c m) = s.swept d mm w := by
  unfold SpanMark.swept
  rw [Window.frontier_stamp _ _ _ hd]

/-- The marks in their order: each stamps the window that those before it have stamped, and each that stays
open has counted down and moved its frontier (R50, R51). -/
theorem sweep_foldl (c : Claim) (hc : ∀ s, (frontierClaim c s).Ranged) (station mm : Nat)
    (l : List SpanMark) (acc : Sweep) :
    (l.foldl (Sweep.mark c station mm) acc).window = l.foldl
      (fun w s => w.stamp (frontierClaim c s) (spanEntry station s.kind s.id)) acc.window ∧
    (l.foldl (Sweep.mark c station mm) acc).open_ =
      acc.open_ ++ l.filterMap (SpanMark.swept c mm acc.window) := by
  induction l generalizing acc with
  | nil => exact ⟨rfl, (List.append_nil _).symm⟩
  | cons s l ih =>
    obtain ⟨hwindow, hopen⟩ := ih (Sweep.mark c station mm acc s)
    refine ⟨hwindow, ?_⟩
    have hrest : SpanMark.swept c mm (Sweep.mark c station mm acc s).window =
        SpanMark.swept c mm acc.window :=
      funext fun q => q.swept_stamp (frontierClaim c s) c mm _ acc.window (hc q)
    have hone : (Sweep.mark c station mm acc s).open_ =
        acc.open_ ++ (s.swept c mm acc.window).toList := by
      unfold Sweep.mark SpanMark.swept
      cases s.countdown.after mm with
      | none => exact (List.append_nil _).symm
      | some d => rfl
    rw [List.foldl_cons, hopen, hrest, hone, List.append_assoc, List.filterMap_cons]
    cases s.swept c mm acc.window <;> rfl

/-- The sweep of an advance, field by field (R50). -/
theorem Node.sweepMarks_eq (mm : Nat) (n : Node) : ∃ k, n.sweepMarks mm = { n with
    marks.table := n.marks.table.filterMap (SpanMark.swept n.spanClaim mm n.window)
    window := n.marks.table.foldl
      (fun w s => w.stamp (frontierClaim n.spanClaim s) (spanEntry n.config.station s.kind s.id)) n.window
    faults.reported := n.faults.reported ++
      List.replicate k { kind := .marksOverflow, silent := false } } := by
  obtain ⟨r, hr⟩ : ∃ r, r = n.marks.table.foldl (Sweep.mark n.spanClaim n.config.station mm)
      { window := n.window, open_ := [], dropped := 0 } := ⟨_, rfl⟩
  obtain ⟨hwindow, hopen⟩ := sweep_foldl n.spanClaim (frontierClaim_ranged _ _ _) n.config.station mm
    n.marks.table { window := n.window, open_ := [], dropped := 0 }
  have hsweep : n.sweepMarks mm = Node.faultTimes .marksOverflow r.dropped
      { n with window := r.window, marks.table := r.open_ } := by
    rw [hr]
    rfl
  rw [← hr] at hwindow hopen
  refine ⟨r.dropped, ?_⟩
  rw [hsweep, Node.faultTimes_replicate, hwindow, hopen]
  rfl

/-- A line that starts to move starts the countdown of its held STOP and TRIP marks (R53). -/
theorem Node.marksOnView_moving (before after : View) (number : Nat) (n : Node)
    (ha : after.moving = true) (hb : before.moving = false) :
    (n.marksOnView before after number).marks.table = n.marks.table.map
      (SpanMark.start (n.config.spanEnd - n.config.spanStart + n.config.markTail)) := by
  simp [Node.marksOnView, ha, hb]

/-- STOP and TRIP marks (R49). -/
theorem MarkKind.stopOrTrip_iff (k : MarkKind) : k.stopOrTrip = true ↔ k = .stop ∨ k = .trip := by
  cases k <;> decide

/-- Settles O29: the sweep as a fold over the table, whose stamps leave the frontiers. -/
theorem spanMarksSweepAndCountDown : Obligations.SpanMarksSweepAndCountDown := by
  refine ⟨fun n mm => ?_, fun n before after number ha hb => ?_⟩
  · intro span claim entry left frontier swept
    obtain ⟨k, hk⟩ := n.sweepMarks_eq mm
    have hswept : swept = _ := hk
    have hleft : ∀ s, s.countdown.after mm = left s := fun s => by
      simp only [left]
      cases s.countdown <;> rfl
    have hfrontier : ∀ s, n.window.frontier (frontierClaim n.spanClaim s) s.frontier = frontier s :=
      fun s => by
        have hclaim : frontierClaim n.spanClaim s = claim s := rfl
        simp only [Window.frontier, frontier, hclaim]
        cases (n.window.reached (claim s)).getLast? <;> rfl
    have hmark : SpanMark.swept n.spanClaim mm n.window = fun s =>
        (left s).map fun d => { s with countdown := d, frontier := frontier s } := by
      funext s
      rw [SpanMark.swept, hleft, hfrontier]
    rw [← hmark, hswept]
    exact ⟨rfl, rfl, ⟨k, rfl⟩, rfl⟩
  · rw [n.marksOnView_moving before after number ha hb]
    refine List.map_congr_left fun s _ => ?_
    unfold SpanMark.start
    simp only [MarkKind.stopOrTrip_iff]

end Sys2Proof.Machine

/-! ### Span marks opened and closed (R49, R51, R55 to R57) -/

namespace Sys2Proof.Machine

/-! #### A mark opened -/

/-- The part with a span mark opened: its mark the newest of the table, its entry offered to the records in
the span (R49, R57). -/
def Node.spanOpened (k : MarkKind) (id : Nat) (n : Node) : Node :=
  { n with
    marks.table := n.roomFor k ++ [
      { kind := k, id := id, countdown := if k.stopOrTrip then .held else .noCountdown
        opening := n.len.tracking, frontier := n.window.frontier n.spanClaim 0 }]
    window := n.window.stamp n.spanClaim (spanEntry n.config.station k id) }

/-- A mark is evicted when eight others are open (R57). -/
theorem Node.evicted_eq (k : MarkKind) (n : Node) : n.evicted k =
    if 8 ≤ (tableFor k n.marks.table).length then (tableFor k n.marks.table).head? else none := rfl

theorem Node.evicted_isSome (k : MarkKind) (n : Node) :
    (n.evicted k).isSome = true ↔ 8 ≤ (tableFor k n.marks.table).length := by
  rw [Node.evicted_eq]
  split
  · rename_i h
    have hne : tableFor k n.marks.table ≠ [] := List.ne_nil_of_length_pos (by omega)
    simp [h, List.isSome_head?, hne]
  · rename_i h
    simp [h]

/-- The table with room, as the eviction leaves it (R57). -/
theorem Node.roomFor_eq (k : MarkKind) (n : Node) : n.roomFor k =
    if 8 ≤ (tableFor k n.marks.table).length then (tableFor k n.marks.table).tail
    else tableFor k n.marks.table := rfl

/-- The frontier at the opening: the first number of the newest record offered (R49). -/
theorem Node.spanFrontier_eq (n : Node) : n.window.frontier n.spanClaim 0 =
    match (n.window.reached n.spanClaim).getLast? with
    | some (_, b) => b.first
    | none => 0 := by
  unfold Window.frontier
  cases (n.window.reached n.spanClaim).getLast? <;> rfl

/-- What an opening is up to reports and the faults that wait, and how its faults stand: they are mild, and
MARK_EVICTED is one of them when a mark was evicted (R46, R49, R57, R183). -/
structure Node.Opened (k : MarkKind) (id : Nat) (m n : Node) : Prop where
  comesTo : m.upToFollowing (n.spanOpened k id)
  prot : m.prot = n.prot
  counts : m.faults.counts = n.faults.counts
  mild : n.mild → m.mild
  evicts : m.waiting .markEvicted =
    n.waiting .markEvicted + if 8 ≤ (tableFor k n.marks.table).length then 1 else 0

theorem Node.openSpan_opened (k : MarkKind) (id : Nat) (n : Node) : (n.openSpan k id).Opened k id n := by
  obtain ⟨b, hb⟩ : ∃ b : Node, b = { n.spanOpened k id with
      faults.reported := n.faults.reported ++
        if 8 ≤ (tableFor k n.marks.table).length then [{ kind := .markEvicted, silent := false }]
        else [] } := ⟨_, rfl⟩
  obtain ⟨drops, hdrops⟩ : ∃ drops, n.openSpan k id = Node.report (CounterEvent.markOpened k)
      (b.faultTimes .marksOverflow drops) := by
    refine ⟨n.window.dropCount n.spanClaim (spanEntry n.config.station k id), ?_⟩
    have hbase : b = if (n.evicted k).isSome then (n.spanOpened k id).fault .markEvicted
        else n.spanOpened k id := by
      rw [hb]
      simp only [Node.evicted_isSome]
      split
      · rfl
      · rw [List.append_nil]
        rfl
    rw [hbase]
    rfl
  have hfaults : (n.openSpan k id).faults = (b.faultTimes .marksOverflow drops).faults := by
    rw [hdrops]
    simp
  refine ⟨?_, ?_, ?_, fun hm => ?_, ?_⟩
  · rw [hdrops, Node.faultTimes_replicate, hb]
    exact Node.upToFollowing_trans (Node.report_upToFollowing _ _)
      ((n.spanOpened k id).waits_upToFollowing _)
  · rw [hdrops, hb]
    simp [Node.spanOpened]
  · rw [hfaults, hb]
    simp [Node.spanOpened]
  · have hbm : b.mild := by
      rw [hb]
      refine ⟨hm.1, fun r hr => ?_⟩
      rcases List.mem_append.1 hr with hold | hnew
      · exact hm.2 r hold
      · split at hnew
        · rw [List.mem_singleton.1 hnew]
          rfl
        · exact absurd hnew List.not_mem_nil
    have hover := Node.overflows_mild drops hbm
    unfold Node.mild at hover ⊢
    rwa [hfaults]
  · have hwait : (n.openSpan k id).waiting .markEvicted = b.waiting .markEvicted := by
      rw [Node.waiting, hfaults]
      exact Node.overflows_waiting .markEvicted drops b (by decide)
    rw [hwait, hb, Node.waiting, List.countP_append]
    split <;> rfl

/-- Nothing of a kind waits at a part with no fault waiting. -/
theorem Node.waiting_nil (k : FaultKind) {n : Node} (h : n.faults.reported = []) : n.waiting k = 0 := by
  rw [Node.waiting, h]
  rfl

/-- The count of MARK_EVICTED once an opening is done: one more when eight others were open, else as it was
(R57, R183). -/
theorem Node.evictions_counted {m n : Node} {full : Prop} [Decidable full]
    (h : m.faults.counts[FaultKind.markEvicted.index]? =
      raised (if full then 1 else 0) n.faults.counts[FaultKind.markEvicted.index]?) :
    (full → m.countedOnce .markEvicted n) ∧
    (¬full → m.faults.counts[FaultKind.markEvicted.index]? =
      n.faults.counts[FaultKind.markEvicted.index]?) := by
  refine ⟨fun hf => ?_, fun hf => ?_⟩
  · rw [if_pos hf] at h
    exact h
  · rw [if_neg hf, raised_zero] at h
    exact h

/-! #### OPEN_MARK and CLOSE_MARK -/

/-- The table holds an open OPERATOR_SPAN mark with the id (R55, R56). -/
theorem SpanMark.operatorWith_iff (id : Nat) (m : SpanMark) :
    m.operatorWith id = true ↔ m.kind = .operatorSpan ∧ m.id = id := by
  simp [SpanMark.operatorWith]

/-- OPEN_MARK refused: the id 0, or one already open (R55). -/
theorem Node.openMark_refuses (id : Nat) (n : Node)
    (h : id = 0 ∨ ∃ m ∈ n.marks.table, m.kind = .operatorSpan ∧ m.id = id) :
    n.openMark id = n.refuseArgument 1 := by
  refine if_pos (h.imp_right ?_)
  rintro ⟨m, hm, hopen⟩
  exact List.any_eq_true.2 ⟨m, hm, (m.operatorWith_iff id).2 hopen⟩

/-- OPEN_MARK taken (R55). -/
theorem Node.openMark_opens (id : Nat) (n : Node) (hid : id ≠ 0)
    (h : ∀ m ∈ n.marks.table, ¬(m.kind = .operatorSpan ∧ m.id = id)) : n.openMark id =
      ((n.openSpan .operatorSpan id).finish).done
        (openData (n.window.reached n.spanClaim).length (n.evicted .operatorSpan)) := by
  refine if_neg (not_or.2 ⟨hid, fun hany => ?_⟩)
  obtain ⟨m, hm, hopen⟩ := List.any_eq_true.1 hany
  exact h m hm ((m.operatorWith_iff id).1 hopen)

/-- A span mark opened at a quiet part, and done with (R49, R55, R57). -/
theorem Node.openSpan_finish (k : MarkKind) (id : Nat) {n : Node} (hq : n.quiet) :
    let t := (n.openSpan k id).finish
    t.upToReports { n.spanOpened k id with prot.lines := t.prot.lines } ∧ t.linesFollow ∧
    t.faults.counts[FaultKind.markEvicted.index]? =
      raised (if 8 ≤ (tableFor k n.marks.table).length then 1 else 0)
        n.faults.counts[FaultKind.markEvicted.index]? := by
  intro t
  obtain ⟨-, hr, ho⟩ := Node.of_quiet hq
  have hopened := n.openSpan_opened k id
  have hmild := hopened.mild (Node.mild_of_quiet hq rfl)
  have hown : (n.openSpan k id).line.own = none :=
    (congrArg LineState.own (n.openSpan_leaves k id).1).trans ho
  have hdriven : (n.openSpan k id).prot.driven = (n.openSpan k id).configured := by
    rw [hopened.prot, Node.configured, (n.openSpan_leaves k id).2.1]
    exact hq.2.1.1
  have hcounts := Node.finish_counts (k := .markEvicted) (by decide) hmild hown
  rw [hopened.evicts, n.waiting_nil _ hr, Nat.zero_add, hopened.counts] at hcounts
  exact ⟨Node.finish_comesTo hopened.comesTo hmild ho hr, Node.finish_linesFollow _ hdriven, hcounts⟩

/-- CLOSE_MARK taken: the mark of its id leaves the table (R51, R56). -/
theorem Node.closeMark_closes (id : Nat) (n : Node) (older newer : List SpanMark) (m : SpanMark)
    (hid : id ≠ 0) (ht : n.marks.table = older ++ m :: newer)
    (hold : ∀ o ∈ older, ¬(o.kind = .operatorSpan ∧ o.id = id)) (hk : m.kind = .operatorSpan)
    (hm : m.id = id) : n.closeMark id =
      (Node.finish { n with marks.table := older ++ newer }).done (be 4 m.opening ++ be 3 m.frontier) := by
  have hmark : m.operatorWith id = true := (m.operatorWith_iff id).2 ⟨hk, hm⟩
  have hnone : ∀ o ∈ older, ¬o.operatorWith id = true := fun o ho h =>
    hold o ho ((o.operatorWith_iff id).1 h)
  have hfind : n.marks.table.find? (SpanMark.operatorWith id) = some m := by
    rw [ht, List.find?_append, List.find?_eq_none.2 hnone]
    simp [hmark]
  have herase : n.marks.table.eraseP (SpanMark.operatorWith id) = older ++ newer := by
    rw [ht, List.eraseP_append_right _ hnone, List.eraseP_cons_of_pos hmark]
  rw [Node.closeMark, if_neg hid, hfind, herase]

/-- A quiet part whose table of marks has changed, done with that (R51, R114). -/
theorem Node.finish_tabled (table : List SpanMark) {n : Node} (hq : n.quiet) :
    let t := Node.finish { n with marks.table := table }
    t.upToReports { n with marks.table := table, prot.lines := t.prot.lines } ∧ t.linesFollow := by
  obtain ⟨m, hm⟩ : ∃ m : Node, m = { n with marks.table := table } := ⟨_, rfl⟩
  obtain ⟨-, hr, ho⟩ := Node.of_quiet hq
  rw [← hm]
  refine ⟨?_, m.finish_linesFollow (by rw [hm]; exact hq.2.1.1)⟩
  have hup := Node.finish_comesTo m.upToFollowing_refl (Node.mild_of_quiet hq (by rw [hm]))
    (by rw [hm]; exact ho) (by rw [hm]; exact hr)
  generalize m.finish = t at hup ⊢
  rw [hm] at hup
  exact hup

/-- CLOSE_MARK ignored: no such mark is open (R56). -/
theorem Node.closeMark_ignored (id : Nat) (n : Node) (hid : id ≠ 0)
    (h : ∀ m ∈ n.marks.table, ¬(m.kind = .operatorSpan ∧ m.id = id)) :
    n.closeMark id = n.ignored [] := by
  have hfind : n.marks.table.find? (SpanMark.operatorWith id) = none :=
    List.find?_eq_none.2 fun m hm hopen => h m hm ((m.operatorWith_iff id).1 hopen)
  rw [Node.closeMark, if_neg hid, hfind]

/-- Settles O28: OPEN_MARK by `Node.openSpan_finish`, CLOSE_MARK by the place of its mark in the table. -/
theorem spanMarksOpenAndClose : Obligations.SpanMarksOpenAndClose := by
  refine ⟨fun args s hl hu hoff => ?_, fun args s hl hu hoff => ?_⟩
  · intro id
    have hreq : ∀ {m}, s.node.openMark id = m →
        exec (.openMark args) s = .next { s with node := m } := fun hm =>
      State.act_eq ((Node.request_tracking _ hu hoff hl).trans hm)
    refine ⟨fun h => hreq (s.node.openMark_refuses id h), fun hid hnew hq => ?_⟩
    intro claim entry full mark
    obtain ⟨hup, hlines, hcount⟩ := Node.openSpan_finish .operatorSpan id hq
    obtain ⟨hevicted, hkept⟩ := Node.evictions_counted hcount
    have hmark : mark = { kind := .operatorSpan, id := id, countdown := .noCountdown
                          opening := s.node.len.tracking
                          frontier := s.node.window.frontier s.node.spanClaim 0 } :=
      congrArg (fun f => { mark with frontier := f }) s.node.spanFrontier_eq.symm
    refine ⟨_, hreq (s.node.openMark_opens id hid hnew), rfl, ?_,
      Node.linesFollow_of_followers (Node.respond_followers ..) hlines, hevicted, hkept, ?_⟩
    · rw [hmark]
      exact Node.upToReports_respond hup _ _ _
    · rw [Node.evicted_eq]
      rfl
  · intro id
    have hreq : ∀ {m}, s.node.closeMark id = m →
        exec (.closeMark args) s = .next { s with node := m } := fun hm =>
      State.act_eq ((Node.request_tracking _ hu hoff hl).trans hm)
    refine ⟨fun h => hreq (if_pos h), fun hid h => hreq (s.node.closeMark_ignored id hid h),
      fun older newer m hid ht hold hk hm hq => ?_⟩
    obtain ⟨hup, hlines⟩ := Node.finish_tabled (older ++ newer) hq
    exact ⟨_, hreq (s.node.closeMark_closes id older newer m hid ht hold hk hm), rfl,
      Node.upToReports_respond hup _ _ _,
      Node.linesFollow_of_followers (Node.respond_followers ..) hlines, rfl⟩

end Sys2Proof.Machine

/-! ### ANNOUNCE_STOP and ANNOUNCE_TRIP (R49, R52, R57, R87, R91 to R93, R107) -/

namespace Sys2Proof.Machine

/-! #### A standing view adopted -/

/-- The successor of an event number is another (R86). -/
theorem evSucc_ne (n : Nat) : evSucc n ≠ n := by
  unfold evSucc
  omega

/-- The pair in force, the change not yet reported (R87, R88, R99). -/
def Node.withPair (m : Nat) (s : View) (n : Node) : Node :=
  { n with line.view := s, line.number := m, line.proposalView := none }

/-- A new number and a new view adopted where no own proposal is open (R87, R88, R99). -/
theorem Node.adoptPair_changed (m : Nat) (s : View) {n : Node} (ho : n.line.own = none)
    (hm : m ≠ n.line.number) (hs : s ≠ n.line.view) :
    n.adoptPair m s = ((n.withPair m s).viewReported n.line.view s m).settle := by
  have hn : n.numberChanged = { n with line.proposalView := none } := by
    rw [Node.numberChanged, Node.abandonOwn, Node.endAndWithdraw_none _ _ ho]
  rw [Node.adoptPair, if_neg hm, hn]
  exact if_neg hs

/-- The mark that a change to a standing view opens (R49, R52). -/
theorem Node.marksOnView_opens (before : View) (number : Nat) (n : Node)
    (hp : n.bus.participation ≠ .offline) :
    (before ≠ .trip → n.marksOnView before .trip number = n.openSpan .trip number) ∧
    (before.moving = true → n.marksOnView before .standstill number = n.openSpan .stop number) := by
  refine ⟨fun h => ?_, fun h => ?_⟩
  · simp [Node.marksOnView, View.moving, hp, h]
  · simp [Node.marksOnView, hp, h]

/-- The standstill timer starts when the view becomes a standing one from another (R107). -/
theorem Node.timerOnView_stands (before after : View) (n : Node) (h : after.standing = true) :
    n.timerOnView before after =
      { n with prot := if before.standing then n.prot else n.prot.startTimer } := by
  have hu : after ≠ .unknown := by
    rintro rfl
    exact absurd h (by decide)
  rw [Node.timerOnView, if_neg hu, if_pos h]
  split <;> rfl

/-- A change to a standing view that opens a mark, reported (R49, R52, R87, R107). -/
theorem Node.viewReported_stands (k : MarkKind) (before after : View) (number : Nat) (n : Node)
    (h : after.standing = true)
    (hk : (n.notice Notice.viewChanged).marksOnView before after number =
      (n.notice Notice.viewChanged).openSpan k number) :
    n.viewReported before after number = { (n.notice Notice.viewChanged).openSpan k number with
      prot := if before.standing then n.prot else n.prot.startTimer } := by
  have hm : after.moving = false := by
    revert h
    cases after <;> decide
  rw [Node.viewReported, hk, Node.stallOnView_still _ _ _ hm, Node.timerOnView_stands _ _ _ h,
    (Node.openSpan_opened k number _).prot]
  rfl

/-! #### The announcement -/

/-- `m` is a part that has come to `target` by a change of view of `n` that opened a mark of kind `k`: what
its faults and its notices are (R49, R57, R87, R183). -/
structure Node.Stopped (k : MarkKind) (m target n : Node) : Prop where
  comesTo : m.upToFollowing target
  mild : m.mild
  counts : m.faults.counts = n.faults.counts
  evicts : m.waiting .markEvicted = if 8 ≤ (tableFor k n.marks.table).length then 1 else 0
  noticed : m.noticed Notice.viewChanged = true

/-- The same change of the line state in both leaves the faults and the notices. -/
theorem Node.Stopped.mapLine {k : MarkKind} {m target n : Node} (g : LineState → LineState)
    (h : m.Stopped k target n) :
    ({ m with line := g m.line } : Node).Stopped k { target with line := g target.line } n :=
  ⟨Node.upToFollowing_mapLine g h.comesTo, h.mild, h.counts, h.evicts, h.noticed⟩

/-- Such a part done with the event (R57, R183). -/
theorem Node.Stopped.finish {k : MarkKind} {m target n : Node} (h : m.Stopped k target n)
    (ho : target.line.own = none) (hr : target.faults.reported = []) :
    m.finish.upToReports { target with prot.lines := m.finish.prot.lines } ∧
    (8 ≤ (tableFor k n.marks.table).length → m.finish.countedOnce .markEvicted n) ∧
    m.finish.noticed Notice.viewChanged = true := by
  have hown : m.line.own = none :=
    (congrArg LineState.own (Node.upToFollowing_line h.comesTo)).trans ho
  have hcounts := Node.finish_counts (k := .markEvicted) (by decide) h.mild hown
  rw [h.evicts, h.counts] at hcounts
  obtain ⟨-, -, hnotices⟩ := Node.finish_upToFollowing h.mild hown
  exact ⟨Node.finish_comesTo h.comesTo h.mild ho hr, (Node.evictions_counted hcounts).1,
    hnotices _ h.noticed⟩

/-- A quiet part that adopts a new number and a standing view with a mark: the pair, the mark and the timer,
up to reports and the lines (R49, R52, R87, R107). -/
theorem Node.adoptPair_stopped (k : MarkKind) (number : Nat) (s : View) {n : Node} (hq : n.calm)
    (ho : n.line.own = none) (hm : number ≠ n.line.number) (hv : s ≠ n.line.view)
    (hs : s.standing = true)
    (hk : ∀ m : Node, m.bus = n.bus →
      m.marksOnView n.line.view s number = m.openSpan k number) :
    (n.adoptPair number s).Stopped k { (n.withPair number s).spanOpened k number with
      prot := if n.line.view.standing then n.prot else n.prot.startTimer } n := by
  obtain ⟨hesc, hrep⟩ := hq
  obtain ⟨b, hb⟩ : ∃ b, b = (n.withPair number s).notice Notice.viewChanged := ⟨_, rfl⟩
  obtain ⟨p, hp⟩ : ∃ p, p = if n.line.view.standing then n.prot else n.prot.startTimer := ⟨_, rfl⟩
  obtain ⟨v, hvr⟩ : ∃ v : Node, v = { b.openSpan k number with prot := p } := ⟨_, rfl⟩
  have hadopt : n.adoptPair number s = v.settle := by
    rw [Node.adoptPair_changed number s ho hm hv,
      Node.viewReported_stands k n.line.view s number (n.withPair number s) hs (hk _ rfl), hvr, hb, hp]
    rfl
  have hopened := b.openSpan_opened k number
  have hfaults : b.faults = n.faults := by rw [hb]; rfl
  have htable : b.marks = n.marks := by rw [hb]; rfl
  have hbmild : b.mild := by
    refine ⟨by rw [hfaults, hesc], fun r hr => ?_⟩
    rw [hfaults, hrep] at hr
    exact absurd hr List.not_mem_nil
  have hvcome : v.upToFollowing { (n.withPair number s).spanOpened k number with prot := p } := by
    rw [hvr]
    have hbase : b.upToFollowing (n.withPair number s) := by
      rw [hb]
      exact Node.notice_upToFollowing _ _
    have hspan : (b.spanOpened k number).upToFollowing ((n.withPair number s).spanOpened k number) := by
      rw [hb]
      exact Node.notice_upToFollowing _ ((n.withPair number s).spanOpened k number)
    exact Node.upToFollowing_setProt p (Node.upToFollowing_trans hopened.comesTo hspan)
  have hvown : v.line.own = none :=
    (congrArg LineState.own (Node.upToFollowing_line hvcome)).trans ho
  have hvfaults : v.faults = (b.openSpan k number).faults := by rw [hvr]
  have hfollow := Node.settle_upToFollowing hvown
  have hsettled : v.settle.faults = (b.openSpan k number).faults := by
    rw [← hvfaults]
    simp
  rw [hadopt, ← hp]
  refine ⟨Node.upToFollowing_trans hfollow hvcome, ?_, ?_, ?_, ?_⟩
  · have hmild := hopened.mild hbmild
    unfold Node.mild at hmild ⊢
    rwa [hsettled]
  · rw [hsettled, hopened.counts, hfaults]
  · have hnone : b.waiting .markEvicted = 0 := b.waiting_nil _ (by rw [hfaults, hrep])
    have hwait := hopened.evicts
    rw [hnone, htable, Nat.zero_add] at hwait
    rw [Node.waiting, hsettled]
    exact hwait
  · have hbn : b.noticed Notice.viewChanged = true := by
      rw [hb]
      exact Node.noticed_notice_same _ _ (by decide)
    have hopen : (b.openSpan k number).noticed Notice.viewChanged = true :=
      (b.openSpan_eq k number).2 _ hbn
    refine hfollow.2.2 _ ?_
    rw [hvr]
    exact hopen

/-- The announcement an own STOP or TRIP becomes (R91). -/
def Node.ownAnnouncement (trip : Bool) (p : AnnouncePayload) (n : Node) : Announcement :=
  { trip := trip, sender := n.config.station, number := p.number, source := p.source, detail := p.detail }

/-- What an own announcement that finds room in the queue comes to: the frame queued, the pair adopted, the
mark opened, the timer, the announcement kept (R49, R87, R91 to R93, R107). -/
def Node.announced (f : Frame) (s : View) (k : MarkKind) (a : Announcement) (n : Node) : Node :=
  { ((n.joinQueue (QueuedFrame.fresh f false)).withPair a.number s).spanOpened k a.number with
    line.lastAnnouncement := some a
    prot := if n.line.view.standing then n.prot else n.prot.startTimer }

/-- An own announcement of a quiet ACTIVE part with room in the queue (R91 to R93). -/
theorem Node.announce_stopped (trip : Bool) (p : AnnouncePayload) (f : Frame) (s : View) (k : MarkKind)
    {n : Node} (hf : f = if trip then .trip p else .stop p) (hs : s = if trip then .trip else .standstill)
    (ha : n.active = true) (hroom : n.bus.queue.length < 16) (hq : n.quiet)
    (hm : p.number ≠ n.line.number) (hv : s ≠ n.line.view)
    (hk : ∀ m : Node, m.bus.participation ≠ .offline →
      m.marksOnView n.line.view s p.number = m.openSpan k p.number) :
    (n.announce trip p).Stopped k (n.announced f s k (n.ownAnnouncement trip p)) n := by
  obtain ⟨j, hj⟩ : ∃ j, j = n.joinQueue (QueuedFrame.fresh f false) := ⟨_, rfl⟩
  have hfull : n.queueFull = false := decide_eq_false (Nat.not_le.2 hroom)
  have hoffer : n.announce trip p = { j.adoptPair p.number s with
      line.lastAnnouncement := some (n.ownAnnouncement trip p) } := by
    rw [Node.announce, ← hf, ← hs, Node.offer_room f n ha hfull, hj]
    rfl
  have hactive : n.bus.participation = .active := of_decide_eq_true ha
  have hpart : j.bus.participation ≠ .offline := by
    rw [hj]
    exact fun h => absurd (hactive.symm.trans h) (by decide)
  have hstands : s.standing = true := by
    rw [hs]
    cases trip <;> rfl
  have hstopped := Node.adoptPair_stopped (n := j) k p.number s (by rw [hj]; exact hq.1)
    (by rw [hj]; exact hq.2.2.2) (by rw [hj]; exact hm) (by rw [hj]; exact hv) hstands
    (fun m hb => by rw [hj]; exact hk m (by rw [hb]; exact hpart))
  have hset := hstopped.mapLine fun l => { l with lastAnnouncement := some (n.ownAnnouncement trip p) }
  rw [hoffer]
  refine ⟨?_, hset.mild, ?_, ?_, hset.noticed⟩
  · have hcome := hset.comesTo
    rw [hj] at hcome ⊢
    exact hcome
  · refine hset.counts.trans ?_
    rw [hj]
    rfl
  · refine hset.evicts.trans ?_
    rw [hj]
    rfl

/-! #### The requests -/

/-- A STOP or TRIP mark that opens gives the table without such marks (R49). -/
theorem tableFor_stopOrTrip (k : MarkKind) (t : List SpanMark) (hk : k.stopOrTrip = true) :
    tableFor k t = t.filter fun m => decide (m.kind ≠ .stop ∧ m.kind ≠ .trip) := by
  rw [tableFor, if_pos hk]
  refine List.filter_congr fun m _ => ?_
  cases m.kind <;> rfl

/-- ANNOUNCE_STOP refused (R92). -/
theorem Node.announceStop_refuses (cause : Nat) (n : Node)
    (h : n.active = false ∨ n.line.view.moving = false) : n.announceStop cause = n.refuseState :=
  if_pos (h.imp (by simp +contextual) (by simp +contextual))

/-- ANNOUNCE_TRIP refused (R93). -/
theorem Node.announceTrip_refuses (cause : Nat) (n : Node)
    (h : n.active = false ∨ n.line.view = .trip) : n.announceTrip cause = n.refuseState :=
  if_pos (h.imp_left (by simp +contextual))

/-- ANNOUNCE_STOP taken by a quiet part with room in the queue (R92). -/
theorem Node.announceStop_taken (cause : Nat) {n : Node} (ha : n.active = true)
    (hv : n.line.view.moving = true) (hq : n.quiet) (hroom : n.bus.queue.length < 16) :
    let p := n.localAnnouncement cause
    let t := n.announceStop cause
    t.upToReports { n.announced (.stop p) .standstill .stop (n.ownAnnouncement false p) with
      prot := { n.prot.startTimer with lines := t.prot.lines } } ∧
    (8 ≤ (tableFor .stop n.marks.table).length → t.countedOnce .markEvicted n) ∧
    t.noticed Notice.viewChanged = true ∧
    t.answers Result.done 0 (be 2 (evSucc n.line.number)) := by
  intro p t
  have hstanding : n.line.view.standing = false := by
    revert hv
    cases n.line.view <;> decide
  have hview : View.standstill ≠ n.line.view := by
    intro h
    rw [← h] at hv
    exact absurd hv (by decide)
  have ht : t = ((n.announce false p).finish).done (be 2 (evSucc n.line.number)) :=
    if_neg (by simp [ha, hv])
  have hstopped := Node.announce_stopped false p (.stop p) .standstill .stop rfl rfl ha hroom hq
    (evSucc_ne _) hview fun m hp => (m.marksOnView_opens n.line.view p.number hp).2 hv
  obtain ⟨hup, hevicted, hnoticed⟩ := hstopped.finish hq.2.2.2 hq.1.2
  rw [ht]
  refine ⟨?_, hevicted, hnoticed, rfl⟩
  refine Node.upToReports_respond ?_ _ _ _
  rw [Node.announced, if_neg (by simp [hstanding])] at hup
  exact hup

/-- ANNOUNCE_TRIP taken by a quiet part with room in the queue (R93). -/
theorem Node.announceTrip_taken (cause : Nat) {n : Node} (ha : n.active = true)
    (hv : n.line.view ≠ .trip) (hq : n.quiet) (hroom : n.bus.queue.length < 16) :
    let p := n.localAnnouncement cause
    let t := n.announceTrip cause
    let target := n.announced (.trip p) .trip .trip (n.ownAnnouncement true p)
    t.upToReports { target with
      line.tripUnack := true
      prot := { (if n.line.view.standing then n.prot else n.prot.startTimer) with
        lines := t.prot.lines } } ∧
    (8 ≤ (tableFor .trip n.marks.table).length → t.countedOnce .markEvicted n) ∧
    t.noticed Notice.viewChanged = true ∧
    t.answers Result.done 0 (be 2 (evSucc n.line.number)) := by
  intro p t target
  have ht : t = (Node.finish { n.announce true p with line.tripUnack := true }).done
      (be 2 (evSucc n.line.number)) := if_neg (by simp [ha, hv])
  have hstopped : (n.announce true p).Stopped .trip target n :=
    Node.announce_stopped true p (.trip p) .trip .trip rfl rfl ha hroom hq
      (evSucc_ne _) hv.symm fun m hp => (m.marksOnView_opens n.line.view p.number hp).1 hv
  obtain ⟨hup, hevicted, hnoticed⟩ :=
    (hstopped.mapLine fun l => { l with tripUnack := true }).finish hq.2.2.2 hq.1.2
  rw [ht]
  exact ⟨Node.upToReports_respond hup _ _ _, hevicted, hnoticed, rfl⟩

/-- The table once a STOP or TRIP mark has opened: it takes the place of an open one, behind the others
(R49, R57). -/
theorem Node.tableWith_stopOrTrip (k : MarkKind) (id : Nat) (n : Node) (hk : k.stopOrTrip = true) :
    let older := n.marks.table.filter fun m => decide (m.kind ≠ .stop ∧ m.kind ≠ .trip)
    (n.spanOpened k id).marks.table = (if 8 ≤ older.length then older.tail else older) ++ [
      { kind := k, id := id, countdown := .held, opening := n.len.tracking
        frontier :=
          match (n.window.reached n.spanClaim).getLast? with
          | some (_, b) => b.first
          | none => 0 }] := by
  intro older
  have hroom : n.roomFor k = if 8 ≤ older.length then older.tail else older := by
    rw [Node.roomFor_eq, tableFor_stopOrTrip k _ hk]
  rw [Node.spanOpened, if_pos hk]
  exact congrArg₂ (fun table frontier => table ++
    [{ kind := k, id := id, countdown := .held, opening := n.len.tracking, frontier := frontier }])
    hroom n.spanFrontier_eq

/-- Reports may be judged against the table of marks as another lemma gives it. -/
theorem Node.upToReports_table {m n : Node} {table : List SpanMark} (h : m.upToReports n)
    (ht : n.marks.table = table) : m.upToReports { n with marks.table := table } := by
  rw [← ht]
  exact h

/-- Settles O40: the refusals; the announcement by `Node.announceStop_taken` and `Node.announceTrip_taken`,
its table by `Node.tableWith_stopOrTrip`. -/
theorem announcementsAreAdopted : Obligations.AnnouncementsAreAdopted := by
  refine ⟨fun args s hl hu => ⟨fun h => ?_, fun ha hv hq hroom => ?_⟩,
    fun args s hl hu => ⟨fun h => ?_, fun ha hv hq hroom => ?_⟩⟩
  · exact State.act_eq ((Node.request_configured _ (s.node.configured_eq_true.2 hu) hl).trans
      (s.node.announceStop_refuses _ h))
  · intro number older payload claim entry mark
    have hexec : exec (.announceStop args) s =
        .next { s with node := s.node.announceStop (fieldAt args 0 1) } :=
      State.act_eq (Node.request_configured _ (s.node.configured_eq_true.2 hu) hl)
    obtain ⟨hup, hevicted, hnoticed, hans⟩ :=
      Node.announceStop_taken (fieldAt args 0 1) ha hv hq hroom
    rw [tableFor_stopOrTrip .stop _ rfl] at hevicted
    exact ⟨_, hexec, rfl,
      Node.upToReports_table hup (s.node.tableWith_stopOrTrip .stop number rfl), hevicted, hnoticed,
      hans⟩
  · exact State.act_eq ((Node.request_configured _ (s.node.configured_eq_true.2 hu) hl).trans
      (s.node.announceTrip_refuses _ h))
  · intro number older payload claim entry mark
    have hexec : exec (.announceTrip args) s =
        .next { s with node := s.node.announceTrip (fieldAt args 0 1) } :=
      State.act_eq (Node.request_configured _ (s.node.configured_eq_true.2 hu) hl)
    obtain ⟨hup, hevicted, hnoticed, hans⟩ :=
      Node.announceTrip_taken (fieldAt args 0 1) ha hv hq hroom
    rw [tableFor_stopOrTrip .trip _ rfl] at hevicted
    have hprot : (s.node.announceTrip (fieldAt args 0 1)).prot =
        { (if s.node.line.view.standing then s.node.prot else s.node.prot.startTimer) with
          lines := (s.node.announceTrip (fieldAt args 0 1)).prot.lines } := by
      obtain ⟨⟨_, _, h⟩, _⟩ := hup
      exact congrArg Node.prot h
    rw [← hprot] at hup
    refine ⟨_, hexec, rfl,
      Node.upToReports_table hup (s.node.tableWith_stopOrTrip .trip number rfl), fun h => ?_,
      fun h => ?_, hevicted, hnoticed, hans⟩
    · have hmoving : s.node.line.view.standing = false := by
        revert hv h
        cases s.node.line.view <;> decide
      rw [hprot, if_neg (by simp [hmoving])]
      exact ⟨rfl, rfl⟩
    · rw [hprot, h]
      exact ⟨rfl, rfl⟩

end Sys2Proof.Machine

/-! ### The Roster's choices: what they are made of, and what leaves it (R68, R122, R129, R131) -/

namespace Sys2Proof.Machine

/-! #### Entries without their age (R124) -/

/-- An entry as though just heard: no choice is made by how long ago that was (R129, R131). -/
def RosterEntry.unaged (e : RosterEntry) : RosterEntry := { e with age := 0 }

/-- The age of an entry is no part of its place (7.4). -/
theorem RosterEntry.nearer_unaged (a b : RosterEntry) :
    a.unaged.nearer b.unaged = (a.nearer b).unaged := by
  unfold RosterEntry.nearer
  cases b with
  | mk station descriptor present age lastView speed newest lastFault =>
    cases descriptor with
    | none => rfl
    | some d => exact (apply_ite RosterEntry.unaged _ _ _).symm

/-- The entry nearest upstream is the same whatever the ages (R129). -/
theorem nearestUpstream_unaged (o s : Nat) (l : List RosterEntry) :
    nearestUpstream o s (l.map RosterEntry.unaged) =
      (nearestUpstream o s l).map RosterEntry.unaged := by
  have hfold : ∀ (es : List RosterEntry) (e : RosterEntry),
      (es.map RosterEntry.unaged).foldl RosterEntry.nearer e.unaged =
        (es.foldl RosterEntry.nearer e).unaged := by
    intro es
    induction es with
    | nil => exact fun _ => rfl
    | cons x es ih =>
      intro e
      rw [List.map_cons, List.foldl_cons, RosterEntry.nearer_unaged, ih, List.foldl_cons]
  have hfilter : (l.map RosterEntry.unaged).filter (fun e => e.present && e.upstreamOf o s) =
      (l.filter fun e => e.present && e.upstreamOf o s).map RosterEntry.unaged := List.filter_map
  unfold nearestUpstream
  rw [hfilter]
  cases l.filter fun e => e.present && e.upstreamOf o s with
  | nil => rfl
  | cons e es => exact congrArg some (hfold es e)

/-- The choice of upstream neighbour reads the record, the entries but for their ages and whether the
station is OFFLINE (R129). -/
theorem Node.chooseUpstream_congr {m n : Node} (hc : m.config = n.config)
    (ho : m.roster.others.map RosterEntry.unaged = n.roster.others.map RosterEntry.unaged)
    (hp : m.bus.participation = .offline ↔ n.bus.participation = .offline) :
    m.chooseUpstream = n.chooseUpstream := by
  have hnear : ∀ (o s : Nat) (l : List RosterEntry), (nearestUpstream o s l).map (fun e => e.station) =
      (nearestUpstream o s (l.map RosterEntry.unaged)).map fun e => e.station := by
    intro o s l
    rw [nearestUpstream_unaged, Option.map_map]
    rfl
  unfold Node.chooseUpstream Node.isOrigin
  rw [hc, hnear, hnear _ _ n.roster.others, ho]
  exact if_congr (or_congr_left hp) rfl rfl

/-- The choice of speed reference reads the record and the entries but for their ages (R131). -/
theorem Node.chooseReference_congr {m n : Node} (hc : m.config = n.config)
    (ho : m.roster.others.map RosterEntry.unaged = n.roster.others.map RosterEntry.unaged) :
    m.chooseReference = n.chooseReference := by
  have hterm : ∀ k : Node, k.terminals = (if k.isTerminal then [k.config.station] else []) ++
      (((k.roster.others.map RosterEntry.unaged).filter fun e => e.present &&
        (match e.descriptor with | some d => decide (d.role = .terminal) | none => false)).map
          fun e => e.station) := by
    intro k
    rw [List.filter_map, List.map_map]
    rfl
  unfold Node.chooseReference
  rw [hterm, hterm n, ho, Node.isTerminal, Node.isTerminal, hc]

/-- The creel condition reads the record and the entries but for their ages (R128). -/
theorem Node.creel_congr {m n : Node} (hc : m.config = n.config)
    (ho : m.roster.others.map RosterEntry.unaged = n.roster.others.map RosterEntry.unaged) :
    m.creel = n.creel := by
  have hcreel : ∀ k : Node, k.creel = (k.isOrigin &&
      (k.roster.others.map RosterEntry.unaged).any (RosterEntry.creel k.config.station)) := by
    intro k
    rw [List.any_map]
    rfl
  rw [hcreel, hcreel n, ho, Node.isOrigin, Node.isOrigin, hc]

/-! #### The reading -/

/-- What the Roster's choices are made of, what they are, and the neighbour in force: of the entries all
but their ages, of participation whether START has been given and whether the station is OFFLINE (R129). -/
structure Placing where
  config : ConfigRecord
  others : List RosterEntry
  upstream : Option Nat
  reference : Option Nat
  neighbour : Option Nat
  started : Bool
  offline : Bool

/-- The reading of a node on which the standing of its choices depends. -/
def Node.placing (n : Node) : Placing :=
  { config := n.config, others := n.roster.others.map RosterEntry.unaged
    upstream := n.roster.upstream, reference := n.roster.reference
    neighbour := n.handover.neighbour, started := n.configured
    offline := decide (n.bus.participation = .offline) }

/-- A node with the same placing has been started as well. -/
theorem Node.configured_of_placing {m n : Node} (h : m.placing = n.placing) :
    m.configured = n.configured := congrArg Placing.started h

/-- Where the choices of `n` stand, those of `m` do. -/
def Node.ChoosesOn (m n : Node) : Prop := n.choicesStand → m.choicesStand

/-- The choices stand or not by the placing alone. -/
theorem Node.choosesOn_of_placing {m n : Node} (h : m.placing = n.placing) : m.ChoosesOn n := by
  have hs := Node.configured_of_placing h
  simp only [Node.placing, Placing.mk.injEq, decide_eq_decide] at h
  obtain ⟨hc, ho, hu, hr, hn, -, hp⟩ := h
  intro hstand hm
  obtain ⟨h1, h2, h3⟩ := hstand (hs.symm.trans hm)
  rw [hu, hn, hr, Node.chooseUpstream_congr hc ho hp, Node.chooseReference_congr hc ho]
  exact ⟨h1, h2, h3⟩

/-- Before START no choice has to stand (R122). -/
theorem Node.choosesOn_unconfigured {m n : Node} (h : m.configured = false) : m.ChoosesOn n :=
  fun _ hm => absurd (h.symm.trans hm) (by decide)

/-! #### The choices made again -/

/-- The choice of upstream neighbour made again is the one in force, where the old one was (R68, R129). -/
theorem Node.remakeUpstream_placing (n : Node) (h : n.handover.neighbour = n.roster.upstream) :
    n.remakeUpstream.placing =
      { n.placing with upstream := n.chooseUpstream, neighbour := n.chooseUpstream } := by
  unfold Node.remakeUpstream
  split
  · rename_i hsame
    rw [hsame]
    simp [Node.placing, h]
  · rfl

/-- The choice of speed reference made again is that of the entries (R131). -/
theorem Node.remakeReference_placing (n : Node) :
    n.remakeReference.placing = { n.placing with reference := n.chooseReference } := by
  unfold Node.remakeReference Node.refreshReference
  split <;> rfl

/-- Both choices made again stand: the old choice need only have been the neighbour in force (R129,
R131). -/
theorem Node.remakeChoices_stand (n : Node)
    (h : n.configured = true → n.handover.neighbour = n.roster.upstream) :
    n.remakeChoices.choicesStand := by
  intro hm
  have hcfg : n.remakeChoices.configured = n.configured :=
    Node.configured_of_standing n.remakeChoices_standing
  have hn := h (hcfg.symm.trans hm)
  have hu := n.remakeUpstream_placing hn
  have hr := n.remakeUpstream.remakeReference_placing
  simp only [Node.placing, Placing.mk.injEq, decide_eq_decide] at hu hr
  obtain ⟨uc, uo, uu, -, un, -, up⟩ := hu
  obtain ⟨rc, ro, ru, rr, rn, -, rp⟩ := hr
  unfold Node.remakeChoices
  refine ⟨?_, ?_, ?_⟩
  · rw [ru, uu, Node.chooseUpstream_congr (rc.trans uc) (ro.trans uo) (rp.trans up)]
  · rw [rn, un, ru, uu]
  · rw [rr, Node.chooseReference_congr rc ro]

/-- Where the choices stand the chosen neighbour is in force, whatever is then made of the entries. -/
theorem Node.choicesStand.inForce {n : Node} (h : n.choicesStand) (hc : n.configured = true) :
    n.handover.neighbour = n.roster.upstream := (h hc).2.1

/-! #### Shared operations -/

@[simp] theorem Node.notice_placing (i : Nat) (n : Node) : (n.notice i).placing = n.placing := rfl

@[simp] theorem Node.fault_placing (k : FaultKind) (n : Node) : (n.fault k).placing = n.placing := rfl

@[simp] theorem Node.respond_placing (r f : Nat) (d : List Byte) (n : Node) :
    (n.respond r f d).placing = n.placing := rfl

/-- A node with the same record, Roster, neighbour in force and participation. -/
theorem Node.placing_of_parts {m n : Node} (hc : m.config = n.config) (hr : m.roster = n.roster)
    (hh : m.handover.neighbour = n.handover.neighbour)
    (hp : m.bus.participation = n.bus.participation) : m.placing = n.placing := by
  simp only [Node.placing, Node.configured, hc, hr, hh, hp]

@[simp] theorem Node.spend_placing (k : Nat) (n : Node) : (n.spend k).placing = n.placing :=
  Node.placing_of_parts (by simp) (by simp) (by simp) (by simp)

@[simp] theorem Node.faultTimes_placing (k : FaultKind) (c : Nat) (n : Node) :
    (n.faultTimes k c).placing = n.placing :=
  Node.placing_of_parts (by simp) (by simp) (by simp) (by simp)

@[simp] theorem Node.addCounters_placing (f : Counter → Option Nat) (n : Node) :
    (n.addCounters f).placing = n.placing :=
  Node.placing_of_parts (by simp) (by simp) (by simp) (by simp)

@[simp] theorem Node.report_placing (e : CounterEvent) (n : Node) : (n.report e).placing = n.placing :=
  Node.addCounters_placing _ n

@[simp] theorem Node.endOwn_placing (e : ProposalEnd) (n : Node) : (n.endOwn e).placing = n.placing :=
  Node.placing_of_parts (by simp) (by simp) (by simp) (by simp)

@[simp] theorem Node.endAndWithdraw_placing (e : ProposalEnd) (n : Node) :
    (n.endAndWithdraw e).placing = n.placing :=
  Node.placing_of_parts (by simp) (by simp) (by simp) (by simp)

@[simp] theorem Node.settle_placing (n : Node) : n.settle.placing = n.placing :=
  Node.placing_of_parts (by simp) (by simp) (by simp) (by simp)

@[simp] theorem Node.frameLost_placing (q : QueuedFrame) (n : Node) :
    (n.frameLost q).placing = n.placing :=
  Node.placing_of_parts (by simp) (by simp) (by simp) (by simp)

@[simp] theorem Node.offer_placing (f : Frame) (n : Node) : (n.offer f).placing = n.placing :=
  Node.placing_of_parts (by simp) (by simp) (by simp) (by simp)

@[simp] theorem Node.generateStatus_placing (n : Node) : n.generateStatus.placing = n.placing := by
  unfold Node.generateStatus
  split
  · rfl
  · simp

@[simp] theorem Node.offerWithdrawal_placing (p : AnnouncePayload) (n : Node) :
    (n.offerWithdrawal p).placing = n.placing := by
  unfold Node.offerWithdrawal
  split
  · split
    · exact Eq.trans rfl ((Node.frameLost_placing _ _).trans rfl)
    · rfl
  · rfl

/-! #### A change of view (R87) -/

@[simp] theorem Node.openSpan_placing (k : MarkKind) (id : Nat) (n : Node) :
    (n.openSpan k id).placing = n.placing := by
  unfold Node.openSpan
  simp only [Node.report_placing, Node.faultTimes_placing]
  split <;> rfl

@[simp] theorem Node.marksOnView_placing (before after : View) (number : Nat) (n : Node) :
    (n.marksOnView before after number).placing = n.placing := by
  unfold Node.marksOnView
  split
  · rfl
  · split
    · rfl
    · split
      · simp
      · split <;> simp

@[simp] theorem Node.timerOnView_placing (before after : View) (n : Node) :
    (n.timerOnView before after).placing = n.placing := by
  have hdwell : n.claimDwell.placing = n.placing := by
    unfold Node.claimDwell
    split <;> rfl
  unfold Node.timerOnView
  split
  · rfl
  · split
    · split <;> rfl
    · split
      · exact Eq.trans rfl hdwell
      · rfl

@[simp] theorem Node.viewReported_placing (before after : View) (number : Nat) (n : Node) :
    (n.viewReported before after number).placing = n.placing := by
  have hstall : ∀ m : Node, (m.stallOnView before after).placing = m.placing := by
    intro m
    unfold Node.stallOnView
    split <;> rfl
  unfold Node.viewReported
  rw [hstall, Node.timerOnView_placing, Node.marksOnView_placing, Node.notice_placing]

@[simp] theorem Node.adoptPair_placing (m : Nat) (s : View) (n : Node) :
    (n.adoptPair m s).placing = n.placing := by
  have hpair : ({ (if m = n.line.number then n else n.numberChanged) with
      line.view := s, line.number := m } : Node).placing = n.placing := by
    split
    · rfl
    · exact Eq.trans rfl (Node.endAndWithdraw_placing .abandoned n)
  unfold Node.adoptPair
  dsimp only
  split
  · rw [Node.settle_placing, hpair]
  · rw [Node.settle_placing, Node.viewReported_placing, hpair]

/-! #### Faults taken (R183, R184) -/

/-- Participation left for `p`: record, Roster and neighbour stand (R146, R148 to R150). -/
theorem Node.leaveFor_placing (p : Participation) (n : Node) :
    (n.leaveFor p).placing =
      { n.placing with started := decide (p ≠ .unconfigured), offline := decide (p = .offline) } := by
  have hb := (n.leaveFor_left p).blocks
  simp only [Node.blocks, Blocks.mk.injEq] at hb
  obtain ⟨hc, -, -, -, hh, hr, -, -, -, -, hp, -⟩ := hb
  simp only [Node.placing, Node.configured, hc, hh, hr, hp]

/-- Participation left between states from START on that are not OFFLINE. -/
theorem Node.leaveFor_placing_onLine (p : Participation) (n : Node) (h : n.onLine = true)
    (hp : p ≠ .unconfigured) (hq : p ≠ .offline) : (n.leaveFor p).placing = n.placing := by
  have hn : n.bus.participation ≠ .unconfigured ∧ n.bus.participation ≠ .offline := by
    revert h
    unfold Node.onLine
    cases n.bus.participation <;> decide
  rw [Node.leaveFor_placing]
  simp [Node.placing, Node.configured, hn, hp, hq]

/-- A withdrawal leaves the choices and the neighbour in force (R94, R149). -/
theorem Node.withdraw_placing (k : FaultKind) (n : Node) (h : n.onLine = true) :
    (n.withdraw k).placing = n.placing := by
  have hbus : ((n.recordFatal k).faultNotice .fatal).bus = n.bus ∧
      ((n.recordFatal k).faultNotice .fatal).placing = n.placing := by
    unfold Node.faultNotice Node.recordFatal
    split <;> split <;> exact ⟨rfl, rfl⟩
  have hon : ((n.recordFatal k).faultNotice .fatal).onLine = true := by
    rw [← h]
    simp only [Node.onLine, hbus.1]
  unfold Node.withdraw Node.fatalTrip
  rw [Node.settle_placing]
  refine Eq.trans rfl ((Node.adoptPair_placing _ _ _).trans ?_)
  rw [Node.offerWithdrawal_placing,
    Node.leaveFor_placing_onLine _ _ hon (by decide) (by decide), hbus.2]

@[simp] theorem Node.reportClass_placing (frames : Bool) (c : FaultClass) (k : FaultKind) (n : Node) :
    (n.reportClass frames c k).placing = n.placing := by
  have hnotice : (n.faultNotice c).placing = n.placing := by
    unfold Node.faultNotice
    split <;> rfl
  unfold Node.reportClass
  dsimp only
  split
  · rw [Node.offer_placing, hnotice]
  · exact hnotice

/-- A fault taken that may withdraw the station. -/
theorem Node.takeFatal_placing (frames : Bool) (r : FaultReport) (n : Node) :
    (if n.faultClass r.kind = .fatal then
      if n.onLine then (n.countFault r.kind).withdraw r.kind else n.countFault r.kind
    else (n.countFault r.kind).reportClass frames (n.faultClass r.kind) r.kind).placing =
      n.placing := by
  split
  · split
    · rename_i h
      exact Node.withdraw_placing r.kind (n.countFault r.kind) h
    · rfl
  · rw [Node.reportClass_placing]
    rfl

theorem Node.takeReported_placing (take : Node → FaultReport → Node)
    (h : ∀ n r, (take n r).placing = n.placing) (n : Node) :
    (n.takeReported take).placing = n.placing := by
  unfold Node.takeReported
  rw [foldl_keeps Node.placing take h]
  rfl

/-- Taking faults leaves the choices and the neighbour in force. -/
@[simp] theorem Node.takeFaults_placing (n : Node) : n.takeFaults.placing = n.placing := by
  have hcounted : ∀ (n : Node) r, (n.takeCounted r).placing = n.placing := by
    intro n r
    unfold Node.takeCounted
    dsimp only
    split
    · rfl
    · rw [Node.reportClass_placing]
      rfl
  unfold Node.takeFaults
  split
  · rfl
  · have h1 := Node.takeReported_placing Node.takeFault
      (fun n r => n.takeFatal_placing (!r.silent) r) n
    have h2 := Node.takeReported_placing Node.takeFollowing
      (fun n r => n.takeFatal_placing false r) (n.takeReported Node.takeFault)
    have h3 := Node.takeReported_placing Node.takeCounted hcounted
      ((n.takeReported Node.takeFault).takeReported Node.takeFollowing)
    exact Eq.trans rfl (h3.trans (h2.trans h1))

@[simp] theorem Node.finish_placing (n : Node) : n.finish.placing = n.placing := by
  unfold Node.finish
  split
  · split <;> simp
  · simp

end Sys2Proof.Machine

/-! ### Every step keeps the choices (R68, R122, R129, R131) -/

namespace Sys2Proof.Machine

theorem Node.ChoosesOn.refl (n : Node) : n.ChoosesOn n := id

theorem Node.ChoosesOn.trans {l m n : Node} (h : l.ChoosesOn m) (k : m.ChoosesOn n) : l.ChoosesOn n :=
  h ∘ k

/-- What leaves the placing keeps on what stood before it. -/
theorem Node.ChoosesOn.keep {l m n : Node} (h : m.ChoosesOn n) (hp : l.placing = m.placing) :
    l.ChoosesOn n := (Node.choosesOn_of_placing hp).trans h

/-! #### The advance (R5) -/

@[simp] theorem Node.coalesce_placing (x : Nat) (e : EnteringRecord) (b : Body)
    (brought next : Option Nat) (n : Node) : (n.coalesce x e b brought next).placing = n.placing := by
  unfold Node.coalesce
  rw [Node.report_placing, Node.fault_placing]
  rfl

@[simp] theorem Node.cut_placing (x : Nat) (e : EnteringRecord) (n : Node) :
    (n.cut x e).placing = n.placing := by
  unfold Node.cut
  split
  · rw [Node.coalesce_placing]
  · rw [Node.report_placing]
    rfl

@[simp] theorem Node.testEntering_placing (n : Node) : n.testEntering.placing = n.placing := by
  have hlate : ∀ x e, (n.declareLate x e).placing = n.placing := by
    intro x e
    unfold Node.declareLate
    rw [Node.report_placing, Node.fault_placing]
    split
    · rw [Node.coalesce_placing]
    · rfl
  unfold Node.testEntering
  split
  · rfl
  · split
    · split
      · rw [Node.cut_placing]
      · rfl
    · split
      · exact hlate _ _
      · rfl

@[simp] theorem Node.exitRecord_placing (r : ClosedRecord) (following : Option Nat) (n : Node) :
    (n.exitRecord r following).placing = n.placing := by
  have hretire : ∀ b len (m : Node), (m.retire b len).placing = m.placing := by
    intro b len m
    unfold Node.retire
    rw [Node.notice_placing]
    split <;> rfl
  have hstretch : (n.reportStretch r).placing = n.placing := by
    unfold Node.reportStretch
    split <;> simp
  unfold Node.exitRecord Node.dispose
  split
  · rw [hretire, hstretch]
  · split
    · rw [Node.offer_placing, hstretch]
    · rw [Node.report_placing, hstretch]

@[simp] theorem Node.takeExits_placing (k : Nat) (n : Node) : (n.takeExits k).placing = n.placing := by
  induction k generalizing n with
  | zero => rfl
  | succ k ih =>
    unfold Node.takeExits
    split
    · rfl
    · split
      · rw [ih, Node.takeFaults_placing, Node.exitRecord_placing]
        rfl
      · rfl

/-- An arrival applied leaves the choices (Table 4-3). -/
@[simp] theorem Node.applyArrival_placing (early : Bool) (a : Arrival) (n : Node) :
    (n.applyArrival early a).placing = n.placing := by
  have hskip : ∀ c (m : Node), (m.reportSkip c).placing = m.placing := by
    intro c m
    unfold Node.reportSkip
    split <;> simp
  have hboundary : ∀ e, (n.applyBoundary early a e).placing = n.placing := by
    intro e
    unfold Node.applyBoundary
    dsimp only
    rw [hskip, Node.marksLost, Node.faultTimes_placing]
    split
    · rw [Node.coalesce_placing]
    · rw [Node.report_placing]
      rfl
  have holder : (n.applyOlder early a).placing = n.placing := by
    unfold Node.applyOlder
    split
    · rw [Node.report_placing, Node.marksLost, Node.faultTimes_placing]
      rfl
    · split <;> simp
  unfold Node.applyArrival
  split
  · unfold Node.applyFirst
    rw [Node.report_placing]
    rfl
  · split
    · exact hboundary _
    · exact holder

@[simp] theorem Node.applyHead_placing (early : Bool) (n : Node) :
    (n.applyHead early).placing = n.placing := by
  unfold Node.applyHead
  split
  · rfl
  · rw [Node.applyArrival_placing]
    rfl

@[simp] theorem Node.takerTurn_placing (t : Taker) (mm : Nat) (n : Node) :
    (n.takerTurn t mm).placing = n.placing := by
  cases t with
  | window => exact (Node.testEntering_placing _).trans (Node.takeExits_placing _ n)
  | handover =>
    unfold Node.takerTurn Node.handoverTurn
    dsimp only
    split
    · exact n.applyHead_placing false
    · rfl
  | marks =>
    unfold Node.takerTurn Node.sweepMarks
    dsimp only
    rw [Node.faultTimes_placing]
    rfl
  | counters => exact Node.addCounters_placing _ n

/-- The turns leave the choices (R5). -/
@[simp] theorem Node.advanceTurns_placing (k mm : Nat) (l : List Taker) (n : Node) :
    (n.advanceTurns k mm l).placing = n.placing := by
  induction k generalizing l n with
  | zero => rfl
  | succ k ih =>
    unfold Node.advanceTurns
    split
    · rfl
    · dsimp only
      rw [ih, Node.finish_placing, Node.takerTurn_placing, Node.spend_placing]

@[simp] theorem Node.advance_placing (mm : Nat) (n : Node) : (n.advance mm).placing = n.placing := by
  unfold Node.advance
  dsimp only
  split
  · rfl
  · rw [Node.advanceTurns_placing]
    rfl

/-! #### The events of the Length Unit -/

@[simp] theorem Node.pulse_placing (forward : Bool) (n : Node) :
    (n.pulse forward).placing = n.placing := by
  unfold Node.pulse
  dsimp only
  split
  · unfold Node.derivedPulse Node.setResumed
    split
    · split <;> rfl
    · rfl
  · split
    · exact (Node.advance_placing _ _).trans rfl
    · unfold Node.reversePulse
      dsimp only
      split <;> rfl

theorem Node.quadrature_placing (a b : Bool) (n : Node) : (n.quadrature a b).placing = n.placing := by
  unfold Node.quadrature
  dsimp only
  split
  · rfl
  · split
    · rw [Node.finish_placing, Node.pulse_placing]
      rfl
    · rw [Node.finish_placing, Node.pulse_placing]
      rfl
    · rfl

theorem Node.stall_placing (n : Node) : n.stall.placing = n.placing := by
  have hlost : ∀ m : Node, m.setLost.placing = m.placing := by
    intro m
    unfold Node.setLost
    split <;> rfl
  have hback : ∀ m : Node, m.fallBack.placing = m.placing := by
    intro m
    unfold Node.fallBack
    split <;> rfl
  unfold Node.stall Node.declareStall
  dsimp only
  split
  · rw [Node.finish_placing, Node.fault_placing, hlost]
    split
    · rw [hback]
      rfl
    · rfl
  · rfl

theorem Node.derivedPoint_placing (n : Node) : n.derivedPoint.placing = n.placing := by
  unfold Node.derivedPoint Node.deriveAdvance
  dsimp only
  split
  · rw [Node.finish_placing]
    split
    · rfl
    · rw [Node.advance_placing]
      rfl
  · rfl

theorem Node.referenceLapse_placing (n : Node) : n.referenceLapse.placing = n.placing := by
  unfold Node.referenceLapse
  split <;> rfl

theorem Node.intervalPoint_placing (n : Node) : n.intervalPoint.placing = n.placing := by
  unfold Node.intervalPoint
  split <;> rfl

theorem Node.returnToEncoder_placing (n : Node) : n.returnToEncoder.placing = n.placing := by
  unfold Node.returnToEncoder
  split
  · rfl
  · split
    · rfl
    · exact (Node.finish_placing _).trans rfl

/-! #### The Line State Unit -/

@[simp] theorem Node.announce_placing (trip : Bool) (p : AnnouncePayload) (n : Node) :
    (n.announce trip p).placing = n.placing := by
  have h : ((n.offer (if trip then .trip p else .stop p)).adoptPair p.number
      (if trip then .trip else .standstill)).placing = n.placing := by simp
  exact Eq.trans rfl h

@[simp] theorem Node.takePair_placing (sender m : Nat) (s : View) (clears : Bool)
    (ann : Option Announcement) (n : Node) : (n.takePair sender m s clears ann).placing = n.placing := by
  unfold Node.takePair Node.relayTrip
  split
  · rfl
  · split <;> simp
  · dsimp only
    split
    · exact Eq.trans rfl (n.adoptPair_placing m s)
    · simp

@[simp] theorem Node.enactOwn_placing (n : Node) : n.enactOwn.placing = n.placing := by
  unfold Node.enactOwn
  split
  · rfl
  · rw [Node.offer_placing]
    exact Eq.trans rfl (Node.endOwn_placing _ n)

theorem Node.takePropose_placing (p : ProposePayload) (n : Node) :
    (n.takePropose p).placing = n.placing := by
  have hanswer : ∀ r (m : Node), (m.answer p.id r).placing = m.placing := by
    intro r m
    unfold Node.answer
    split <;> simp
  have hended : (if n.queuedOwn then n.abandonOwn else n).placing = n.placing := by
    split
    · exact Node.endAndWithdraw_placing _ n
    · rfl
  unfold Node.takePropose
  generalize (if n.queuedOwn then n.abandonOwn else n) = m at hended ⊢
  dsimp only
  split
  · rw [hanswer, hended]
  · rw [hanswer]
    exact hended

theorem Node.takeAssent_placing (sender : Nat) (i : ProposalId) (n : Node) :
    (n.takeAssent sender i).placing = n.placing := by
  unfold Node.takeAssent
  split
  · split
    · dsimp only
      split
      · rw [Node.enactOwn_placing]
        rfl
      · rfl
    · rfl
  · rfl

theorem Node.takeHold_placing (sender : Nat) (p : HoldPayload) (n : Node) :
    (n.takeHold sender p).placing = n.placing := by
  unfold Node.takeHold
  split
  · split <;> simp
  · rfl

theorem Node.takeEnact_placing (sender : Nat) (p : EnactPayload) (n : Node) :
    (n.takeEnact sender p).placing = n.placing := by
  have hclose : ∀ m : Node, (m.closeViewOf p.id).placing = m.placing := by
    intro m
    unfold Node.closeViewOf
    split
    · split <;> rfl
    · rfl
  unfold Node.takeEnact
  rw [hclose, Node.takePair_placing]

theorem Node.takeHandoff_placing (sender : Nat) (p : HandoffPayload) (n : Node) :
    (n.takeHandoff sender p).placing = n.placing := by
  unfold Node.takeHandoff
  split
  · rfl
  · split
    · exact Node.applyArrival_placing _ _ n
    · unfold Node.joinArrivals
      dsimp only
      split
      · exact Eq.trans rfl (n.applyHead_placing true)
      · rfl

/-- What another block than the Roster takes of a frame leaves the choices (R137). -/
theorem Node.deliver_placing (sender : Nat) (f : Frame) (n : Node) :
    (n.deliver sender f).placing = n.placing := by
  cases f with
  | status p => exact Node.takePair_placing ..
  | handoff p => exact Node.takeHandoff_placing ..
  | stop p => exact Node.takePair_placing ..
  | trip p => exact Node.takePair_placing ..
  | propose p => exact Node.takePropose_placing ..
  | assent i => exact Node.takeAssent_placing ..
  | hold p => exact Node.takeHold_placing ..
  | enact p => exact Node.takeEnact_placing ..
  | fault p => rfl

theorem Node.announceStop_placing (cause : Nat) (n : Node) :
    (n.announceStop cause).placing = n.placing := by
  unfold Node.announceStop
  split
  · rfl
  · exact (Node.finish_placing _).trans (n.announce_placing _ _)

theorem Node.announceTrip_placing (cause : Nat) (n : Node) :
    (n.announceTrip cause).placing = n.placing := by
  unfold Node.announceTrip
  split
  · rfl
  · exact (Node.finish_placing _).trans (Eq.trans rfl (n.announce_placing true _))

theorem Node.propose_placing (code : Nat) (n : Node) : (n.propose code).placing = n.placing := by
  have hmade : ∀ v, (n.makeProposal v).placing = n.placing := fun v =>
    (Node.offer_placing _ _).trans rfl
  unfold Node.propose
  split
  · rfl
  · split
    · rfl
    · split
      · rfl
      · split
        · rfl
        · split
          · rfl
          · exact (Node.finish_placing _).trans (hmade _)

theorem Node.setHold_placing (n : Node) : n.setHold.placing = n.placing := by
  unfold Node.setHold
  split
  · rfl
  · exact (Node.finish_placing _).trans rfl

theorem Node.clearHold_placing (n : Node) : n.clearHold.placing = n.placing := by
  unfold Node.clearHold
  split <;> rfl

theorem Node.ackTrip_placing (n : Node) : n.ackTrip.placing = n.placing := by
  unfold Node.ackTrip
  split <;> rfl

/-! #### Participation (R146 to R151) -/

@[simp] theorem Node.endJoining_placing (n : Node) : n.endJoining.placing = n.placing := by
  have hopen : n.openFirst.placing = n.placing := by
    unfold Node.openFirst
    split <;> rfl
  unfold Node.endJoining Node.standstillIfUnknown
  split
  · rw [Node.adoptPair_placing, hopen]
  · exact hopen

/-- Entry to ACTIVE leaves the choices (R147). -/
theorem Node.enterActive_placing (n : Node) (h : n.bus.participation = .joining) :
    n.enterActive.placing = n.placing := by
  unfold Node.enterActive
  dsimp only
  rw [Node.generateStatus_placing, Node.endJoining_placing, Node.notice_placing]
  simp [Node.placing, Node.configured, h]

/-- A station in service is on the line. -/
theorem Node.onLine_of_inService (n : Node) (h : n.inService = true) : n.onLine = true := by
  revert h
  unfold Node.inService Node.active Node.onLine
  cases n.bus.participation <;> decide

/-- Entry to LISTEN leaves the choices (R148). -/
theorem Node.enterListen_placing (n : Node) (h : n.inService = true) :
    n.enterListen.placing = n.placing := by
  have hleft := n.leaveFor_placing_onLine .listen (n.onLine_of_inService h) (by decide) (by decide)
  unfold Node.enterListen
  dsimp only
  split
  · rw [Node.endJoining_placing, hleft]
  · exact hleft

@[simp] theorem Node.creelConflict_placing (n : Node) : n.creelConflict.placing = n.placing := by
  unfold Node.creelConflict
  dsimp only
  split
  · rename_i h
    rw [Node.enterListen_placing _ h, Node.takeFaults_placing, Node.fault_placing]
  · rw [Node.takeFaults_placing, Node.fault_placing]

/-- Entry to JOINING makes the choices afresh (R122). -/
theorem Node.enterJoining_choosesOn (n : Node) (hc : n.configured = true) :
    n.enterJoining.ChoosesOn n := by
  intro h
  have hstand := Node.remakeChoices_stand
    (Node.notice Notice.participationChanged
      { n with bus.participation := .joining, bus.joinTimer := 0, bus.joinRunning := true
               roster.highest := none }) (fun _ => h.inForce hc)
  unfold Node.enterJoining
  dsimp only
  split
  · exact Node.choosesOn_of_placing (Node.creelConflict_placing _) hstand
  · exact hstand

/-- Entry to OFFLINE makes the choices afresh, of no entry (R122, R129). -/
theorem Node.enterOffline_choosesOn (n : Node) (hc : n.configured = true) :
    n.enterOffline.ChoosesOn n := by
  have hforget : ∀ m : Node, m.forgetView.placing = m.placing := by
    intro m
    unfold Node.forgetView
    dsimp only
    split
    · rfl
    · rw [Node.viewReported_placing]
      rfl
  have hempty : n.emptied.placing = (n.leaveFor .offline).placing := rfl
  have hp := ((hforget n.emptied).trans hempty).trans (n.leaveFor_placing .offline)
  intro h
  rw [Node.enterOffline_eq]
  refine Node.choosesOn_of_placing (Node.settle_placing _) (Node.remakeChoices_stand _ fun _ => ?_)
  exact (congrArg Placing.neighbour hp).trans
    ((h.inForce hc).trans (congrArg Placing.upstream hp).symm)

theorem Node.setParticipation_choosesOn (args : List Byte) (n : Node) (hc : n.configured = true) :
    (n.setParticipation args).ChoosesOn n := by
  have hfinish : ∀ m : Node, m.ChoosesOn n → m.finish.doneParticipation.ChoosesOn n :=
    fun m h => h.keep (Eq.trans rfl m.finish_placing)
  have hlisten : n.inService = true → n.enterListen.finish.doneParticipation.ChoosesOn n :=
    fun h => hfinish _ (Node.choosesOn_of_placing (n.enterListen_placing h))
  have hoffline := hfinish _ (n.enterOffline_choosesOn hc)
  have hjoin := hfinish _ (n.enterJoining_choosesOn hc)
  unfold Node.setParticipation
  split
  · exact Node.choosesOn_of_placing rfl
  · unfold Node.moveTo
    split
    · exact hjoin
    · exact hjoin
    · rename_i hp _
      exact hlisten (by simp [Node.inService, hp])
    · rename_i hp _
      exact hlisten (by simp [Node.inService, Node.active, hp])
    · exact hoffline
    · exact hoffline
    · exact hoffline
    · exact Node.choosesOn_of_placing rfl

/-! #### The Line Bus Interface -/

theorem Node.transmitBegin_placing (n : Node) : n.transmitBegin.placing = n.placing := by
  unfold Node.transmitBegin
  split
  · rfl
  · split <;> rfl

/-- The completion of a frame: that of the TRIP of a withdrawal takes the station OFFLINE (R142,
R149). -/
theorem Node.frameSent_choosesOn (q : QueuedFrame) (n : Node) (hc : n.configured = true) :
    (n.frameSent q).ChoosesOn n := by
  have hpropose : ∀ i, (n.proposeSent i).placing = n.placing := by
    intro i
    unfold Node.proposeSent
    split
    · rfl
    · split
      · dsimp only
        split
        · rw [Node.enactOwn_placing]
          rfl
        · rfl
      · rfl
  unfold Node.frameSent
  split
  · exact n.enterOffline_choosesOn hc
  · split
    · exact .refl n
    · refine Node.choosesOn_of_placing ?_
      split
      · exact n.report_placing _
      · exact hpropose _
      · exact (Node.takePair_placing ..).trans rfl
      · rfl

theorem Node.transmitComplete_choosesOn (n : Node) : n.transmitComplete.ChoosesOn n := by
  unfold Node.transmitComplete
  split
  · exact .refl n
  · rename_i q h
    have hsent := Node.frameSent_choosesOn q n.lineSent.leaveQueue (n.configured_of_sending q h)
    exact (hsent.keep (Node.finish_placing _)).trans (Node.choosesOn_of_placing rfl)

@[simp] theorem Node.collided_placing (n : Node) : n.collided.placing = n.placing := by
  simp [Node.collided]

theorem Node.abandonFrame_choosesOn (q : QueuedFrame) (n : Node) (hc : n.configured = true) :
    (n.abandonFrame q).ChoosesOn n := by
  have hp : ((((n.leaveQueue.collided).frameLost q).fault .transmitAbandoned).finish).placing =
      n.placing := by
    simp only [Node.finish_placing, Node.fault_placing, Node.frameLost_placing, Node.collided_placing]
    rfl
  have hc' := (Node.configured_of_placing hp).trans hc
  have hon := Node.choosesOn_of_placing hp
  unfold Node.abandonFrame
  dsimp only
  split
  · exact ((Node.enterOffline_choosesOn _ hc').keep (Node.finish_placing _)).trans hon
  · split
    · rename_i ha
      refine hon.keep ((Node.finish_placing _).trans (Node.enterListen_placing _ ?_))
      simp [Node.inService, ha]
    · exact hon

theorem Node.collision_choosesOn (n : Node) : n.collision.ChoosesOn n := by
  unfold Node.collision
  split
  · exact .refl n
  · rename_i q h
    unfold Node.frameCollided
    split
    · exact Node.choosesOn_of_placing
        ((Node.finish_placing _).trans ((Node.collided_placing _).trans rfl))
    · split
      · exact (Node.abandonFrame_choosesOn q n.lineDominant (n.configured_of_sending q h)).trans
          (Node.choosesOn_of_placing rfl)
      · exact Node.choosesOn_of_placing
          ((Node.finish_placing _).trans ((Node.collided_placing _).trans rfl))

theorem Node.lineJam_choosesOn (n : Node) : n.lineJam.ChoosesOn n := by
  unfold Node.lineJam
  split
  · rename_i h
    exact (n.enterOffline_choosesOn (n.configured_of_receiving h)).keep (Node.finish_placing _)
  · exact .refl n

theorem Node.statusPoint_placing (n : Node) : n.statusPoint.placing = n.placing := by
  unfold Node.statusPoint
  split
  · rw [Node.finish_placing, Node.generateStatus_placing]
    rfl
  · rfl

theorem Node.joinExpired_placing (n : Node) : n.joinExpired.placing = n.placing := by
  unfold Node.joinExpired
  split
  · rename_i h
    rw [Node.finish_placing, n.enterActive_placing h]
  · rfl

/-! #### The Roster (R123 to R131) -/

/-- Whatever becomes of the entries, the choices are made again of them (R129, R131). -/
theorem Node.changeEntries_choosesOn (station : Nat) (entries : List RosterEntry) (n : Node) :
    (n.changeEntries station entries).ChoosesOn n := by
  have horder : ∀ b a (m : Node), (m.testOrder b a).placing = m.placing := by
    intro b a m
    unfold Node.testOrder
    split <;> rfl
  have hlost : ∀ b a (m : Node), (m.testLost b a).placing = m.placing := by
    intro b a m
    unfold Node.testLost
    split
    · split <;> rfl
    · rfl
  have hcreel : ∀ b (m : Node), (m.testCreel b).placing = m.placing := by
    intro b m
    unfold Node.testCreel
    split
    · exact m.creelConflict_placing
    · rfl
  intro h
  unfold Node.changeEntries
  dsimp only
  refine Node.choosesOn_of_placing (hcreel _ _) (Node.remakeChoices_stand _ fun hc => ?_)
  have hp := (hlost (n.roster.entry? station)
    (({ n with roster.others := entries } : Node).roster.entry? station) _).trans
      (horder (n.roster.entry? station)
        (({ n with roster.others := entries } : Node).roster.entry? station)
        { n with roster.others := entries })
  exact (congrArg Placing.neighbour hp).trans
    ((h.inForce ((Node.configured_of_placing hp).symm.trans hc)).trans
      (congrArg Placing.upstream hp).symm)

theorem Node.rosterTake_choosesOn (sender : Nat) (f : Frame) (n : Node) :
    (n.rosterTake sender f).ChoosesOn n := by
  unfold Node.rosterTake
  dsimp only
  split
  · exact (Node.changeEntries_choosesOn _ _ _).trans (Node.choosesOn_of_placing rfl)
  · exact Node.choosesOn_of_placing rfl

theorem Node.silence_choosesOn (station : Nat) (n : Node) : (n.silence station).ChoosesOn n := by
  unfold Node.silence
  split
  · exact .refl n
  · split
    · exact n.changeEntries_choosesOn _ _
    · exact .refl n

theorem Node.deliverGood_choosesOn (sender : Nat) (f : Frame) (n : Node) :
    (n.deliverGood sender f).ChoosesOn n := by
  have hroster : ∀ m : Node, (m.deliverRoster sender f).ChoosesOn m := fun m =>
    (m.rosterTake_choosesOn sender f).keep (Node.finish_placing _)
  have hblock : ∀ m : Node, (m.deliverBlock sender f).ChoosesOn m := fun m =>
    Node.choosesOn_of_placing ((Node.finish_placing _).trans (m.deliver_placing sender f))
  have hspend := Node.choosesOn_of_placing (n.spend_placing 2)
  unfold Node.deliverGood
  split
  · exact (hblock _).trans ((hroster _).trans hspend)
  · exact (hroster _).trans ((hblock _).trans hspend)

theorem Node.receive_choosesOn (sender : Nat) (f : Frame) (n : Node) :
    (n.receive sender f).ChoosesOn n := by
  have hidle : n.lineIdle.placing = n.placing := rfl
  unfold Node.receive Node.malformed Node.duplicateStation
  split
  · exact .refl n
  · split
    · exact Node.choosesOn_of_placing hidle
    · split
      · exact Node.choosesOn_of_placing (by simp [hidle])
      · split
        · exact Node.choosesOn_of_placing (by simp [hidle])
        · exact (Node.deliverGood_choosesOn _ _ _).trans
            (Node.choosesOn_of_placing ((Node.report_placing _ _).trans hidle))

theorem Node.discard_placing (bytes : List Byte) (badStop : Option Nat) (n : Node) :
    (n.discard bytes badStop).placing = n.placing := by
  have hidle : n.lineIdle.placing = n.placing := rfl
  unfold Node.discard Node.checkFailed Node.malformed
  split
  · rfl
  · split
    · exact hidle
    · split
      · simp [hidle]
      · simp [hidle]
      · rfl

/-! #### Marks, sensors, counters, notices and timers -/

theorem Node.postPoint_placing (c : Claim) (k : MarkKind) (id p beam : Nat) (n : Node) :
    (n.postPoint c k id p beam).placing = n.placing := by
  unfold Node.postPoint Node.stampPoint
  refine (Node.finish_placing _).trans ?_
  rw [Node.report_placing, Node.faultTimes_placing]
  rfl

theorem Node.postMark_placing (kind id : Nat) (n : Node) : (n.postMark kind id).placing = n.placing := by
  have hknot : (n.postKnot id).placing = n.placing := by
    unfold Node.postKnot Node.knotClaim
    rw [Node.postPoint_placing]
    split
    · rfl
    · split
      · rw [Node.cut_placing]
        rfl
      · rfl
  have hcut : n.postCut.placing = n.placing := (Node.postPoint_placing ..).trans rfl
  have hpoint : ∀ k, (n.postAtPoint k id).placing = n.placing := fun k =>
    Node.postPoint_placing ..
  unfold Node.postMark
  split
  · split
    · rfl
    · split
      · rfl
      · exact hknot
  · split
    · rfl
    · exact hcut
  · split
    · rfl
    · exact hpoint _
  · split
    · rfl
    · exact hpoint _
  · rfl

theorem Node.openMark_placing (id : Nat) (n : Node) : (n.openMark id).placing = n.placing := by
  unfold Node.openMark
  split
  · rfl
  · exact (Node.finish_placing _).trans (n.openSpan_placing _ _)

theorem Node.closeMark_placing (id : Nat) (n : Node) : (n.closeMark id).placing = n.placing := by
  unfold Node.closeMark
  split
  · rfl
  · split
    · rfl
    · exact (Node.finish_placing _).trans rfl

@[simp] theorem Node.beginPoll_placing (n : Node) : n.beginPoll.placing = n.placing :=
  Node.placing_of_parts (by simp) (by simp) (by simp) (by simp)

theorem Node.pollPoint_placing (ch : Nat) (n : Node) : (n.pollPoint ch).placing = n.placing := by
  unfold Node.pollPoint Node.pollExpired
  split
  · rw [Node.beginPoll_placing]
    rfl
  · rfl

theorem Node.completeTransaction_placing (ssdi : BitVec 64) (n : Node) :
    (n.completeTransaction ssdi).placing = n.placing := by
  have hmode : ∀ m : Node, m.changeMode.placing = m.placing := by
    intro m
    unfold Node.changeMode
    split <;> rfl
  have hinvalid : ∀ ch (m : Node), (m.invalidReading ch).placing = m.placing := by
    intro ch m
    unfold Node.invalidReading
    dsimp only
    rw [Node.report_placing]
    split <;> rfl
  have huse : ∀ t reply (m : Node), (m.useReply t reply).placing = m.placing := by
    intro t reply m
    unfold Node.useReply Node.judgeReply
    split
    · rfl
    · split
      · exact hinvalid _ m
      · exact (Node.report_placing _ _).trans rfl
  unfold Node.completeTransaction
  split
  · rfl
  · rw [Node.finish_placing, Node.beginPoll_placing, hmode, huse]
    rfl

theorem Node.setMode_placing (code : Nat) (n : Node) : (n.setMode code).placing = n.placing := by
  unfold Node.setMode
  split
  · rfl
  · unfold Node.requestMode
    split
    · split
      · rfl
      · split
        · rfl
        · exact (Node.beginPoll_placing _).trans rfl
    · split
      · rfl
      · exact (Node.beginPoll_placing _).trans rfl

theorem Node.transact_placing (args : List Byte) (n : Node) : (n.transact args).placing = n.placing := by
  unfold Node.transact
  dsimp only
  split_ifs <;> rfl

theorem Node.sensorRead_placing (n : Node) : n.sensorRead.placing = n.placing := by
  unfold Node.sensorRead
  split
  · rfl
  · split <;> rfl

theorem Node.counterSelect_placing (args : List Byte) (n : Node) :
    (n.counterSelect args).placing = n.placing := by
  unfold Node.counterSelect
  dsimp only
  split
  · rfl
  · split
    · rfl
    · split
      · rfl
      · split
        · rfl
        · split <;> rfl

theorem Node.freeze_placing (n : Node) : n.freeze.placing = n.placing := by
  unfold Node.freeze
  split <;> rfl

theorem Node.thaw_placing (n : Node) : n.thaw.placing = n.placing := by
  unfold Node.thaw
  split <;> rfl

theorem Node.clearNotices_placing (v : Nat) (n : Node) : (n.clearNotices v).placing = n.placing := by
  unfold Node.clearNotices
  split <;> rfl

theorem Node.setNoticeMask_placing (v : Nat) (n : Node) : (n.setNoticeMask v).placing = n.placing := by
  unfold Node.setNoticeMask
  split <;> rfl

theorem Node.voteTimeout_placing (n : Node) : n.voteTimeout.placing = n.placing := by
  unfold Node.voteTimeout
  split <;> simp

theorem Node.standstillSecond_placing (n : Node) : n.standstillSecond.placing = n.placing := by
  unfold Node.standstillSecond Node.timerSecond
  dsimp only
  split
  · rw [Node.finish_placing]
    split <;> rfl
  · rfl

theorem Node.timeBase_placing (n : Node) : n.timeBase.placing = n.placing := by
  unfold Node.timeBase
  split
  · exact n.addCounters_placing _
  · rfl

theorem Node.answerRead_placing (data : List Byte) (n : Node) :
    (n.answerRead data).placing = n.placing := rfl

theorem Node.clearFaults_placing (n : Node) : n.clearFaults.placing = n.placing := rfl

/-- A proposal view closed is nothing that a choice is made of (R99). -/
theorem Node.closeView_placing (n : Node) :
    ({ n with line.proposalView := none } : Node).placing = n.placing := rfl

/-- An event that was due is taken (log 2). -/
theorem Node.takingDue_placing (k : Nat) (c : Instr) (n : Node) :
    (n.takingDue k c).placing = n.placing := Eq.trans rfl (n.spend_placing k)

theorem Node.ranged_placing (last : Nat) (args : List Byte) (data : Nat → Nat → List Byte) (n : Node) :
    (n.ranged last args data).placing = n.placing := by
  unfold Node.ranged
  split
  · rfl
  · split <;> rfl

theorem Node.readLog_placing (n : Node) : n.readLog.placing = n.placing := by
  unfold Node.readLog
  split
  · rfl
  · split <;> rfl

theorem Node.unknownRequest_placing (kind : Byte) (n : Node) :
    (n.unknownRequest kind).placing = n.placing := by
  unfold Node.unknownRequest
  split <;> rfl

end Sys2Proof.Machine

/-! #### Set-up, time and the step -/

namespace Sys2Proof.Machine

/-- Before START the record is no choice's (R177). -/
theorem Node.configure_choosesOn (args : List Byte) (n : Node) : (n.configure args).ChoosesOn n := by
  unfold Node.configure
  split
  · exact Node.choosesOn_of_placing rfl
  · rename_i h
    exact Node.choosesOn_unconfigured (Bool.eq_false_iff.2 h)

/-- The blocks settled at START or RESTART have their choices made (R122, R129, R131). -/
theorem Node.settled_stand (n : Node) (h : n.handover.neighbour = n.roster.upstream) :
    n.settled.choicesStand := by
  have hp : n.settled.placing = n.remakeChoices.placing :=
    Node.placing_of_parts (by simp [Node.settled]) (by simp [Node.settled]) (by simp [Node.settled])
      (by simp [Node.settled])
  exact Node.choosesOn_of_placing hp (n.remakeChoices_stand fun _ => h)

theorem Node.start_choosesOn (n : Node) : n.start.ChoosesOn n := by
  unfold Node.start
  split
  · exact Node.choosesOn_of_placing rfl
  · split
    · exact Node.choosesOn_of_placing rfl
    · exact fun _ => Node.choosesOn_of_placing
        ((Node.respond_placing ..).trans (Node.notice_placing ..))
        ((n.begun (LineTap.initial n.bus.tap.others)).settled_stand rfl)

/-- The notices that RESTART leaves are nothing that a choice is made of. -/
theorem Node.onlyParticipation_placing (n : Node) : n.onlyParticipation.placing = n.placing := rfl

theorem Node.restart_choosesOn (n : Node) : n.restart.ChoosesOn n := by
  unfold Node.restart
  split
  · exact fun _ => Node.choosesOn_of_placing
      ((Node.respond_placing ..).trans (Node.onlyParticipation_placing _))
      (n.cleared.settled_stand rfl)
  · exact Node.choosesOn_of_placing rfl

/-- The timers that count a millisecond leave the choices and what they are made of (R124). -/
theorem Node.tick_placing (n : Node) : n.tick.placing = n.placing := by
  have hages : (n.roster.others.map RosterEntry.tick).map RosterEntry.unaged =
      n.roster.others.map RosterEntry.unaged := by
    rw [List.map_map]
    rfl
  exact congrArg (fun l => { n.placing with others := l }) hages

/-- Time that passes leaves the choices standing (log 2). -/
theorem Node.pass_choosesOn (n : Node) : n.pass.ChoosesOn n := by
  obtain ⟨bus, hb, hp⟩ := n.pass_cases
  have hbus : ({ n with bus := bus } : Node).placing = n.placing :=
    Node.placing_of_parts rfl rfl rfl (by rw [hb])
  refine Node.choosesOn_of_placing ?_
  rcases hp with hp | hp
  · rw [hp]
    exact hbus
  · rw [hp]
    exact (Node.tick_placing _).trans hbus

/-- A request is judged by an action that keeps the choices standing, or refused (R176, R180). -/
theorem Node.takeRequest_choosesOn {act : Node → Node} (h : ∀ n, (act n).ChoosesOn n) (n : Node) :
    (n.takeRequest act).ChoosesOn n := by
  unfold Node.takeRequest
  split
  · exact .refl n
  · exact h n

theorem Node.request_choosesOn (len : Nat) (args : List Byte) {act : Node → Node}
    (h : ∀ n, (act n).ChoosesOn n) (n : Node) : (n.request len args act).ChoosesOn n := by
  refine Node.takeRequest_choosesOn (fun n => ?_) n
  split
  · exact h n
  · exact Node.choosesOn_of_placing rfl

theorem Node.whenConfigured_choosesOn {act : Node → Node}
    (h : ∀ n, n.configured = true → (act n).ChoosesOn n) (n : Node) :
    (n.whenConfigured act).ChoosesOn n := by
  unfold Node.whenConfigured
  split
  · rename_i hc
    exact h n hc
  · exact Node.choosesOn_of_placing rfl

theorem Node.whenTracking_choosesOn {act : Node → Node} (h : ∀ n, (act n).ChoosesOn n) (n : Node) :
    (n.whenTracking act).ChoosesOn n := by
  unfold Node.whenTracking
  split
  · exact Node.choosesOn_of_placing rfl
  · exact h n

/-- A request of one length, refused before START, that leaves the placing. -/
theorem Node.configuredRequest_choosesOn (len : Nat) (args : List Byte) {act : Node → Node}
    (h : ∀ n, (act n).placing = n.placing) (n : Node) :
    (n.request len args (Node.whenConfigured act)).ChoosesOn n :=
  Node.request_choosesOn len args
    (Node.whenConfigured_choosesOn fun n _ => Node.choosesOn_of_placing (h n)) n

/-- A mark request that leaves the placing. -/
theorem Node.trackingRequest_choosesOn (len : Nat) (args : List Byte) {act : Node → Node}
    (h : ∀ n, (act n).placing = n.placing) (n : Node) :
    (n.request len args (Node.whenTracking act)).ChoosesOn n :=
  Node.request_choosesOn len args
    (Node.whenTracking_choosesOn fun n => Node.choosesOn_of_placing (h n)) n

/-- A command whose effect on the part keeps the choices standing. -/
theorem State.act_choosesOn {f : Node → Node} (hf : ∀ n, (f n).ChoosesOn n) {s t : State}
    (h : s.act f = .next t) : t.node.ChoosesOn s.node := by
  cases h
  exact hf s.node

/-- A command whose effect on the part leaves the placing. -/
theorem State.act_placing {f : Node → Node} (hf : ∀ n, (f n).placing = n.placing) {s t : State}
    (h : s.act f = .next t) : t.node.ChoosesOn s.node :=
  State.act_choosesOn (fun n => Node.choosesOn_of_placing (hf n)) h

/-- Every command keeps the choices standing: most leave all that they are made of, and those that do not
make them again. -/
theorem exec_choosesOn (c : Instr) (s t : State) (h : exec c s = .next t) :
    t.node.ChoosesOn s.node := by
  cases c with
  | powerOnReset enc held =>
    exact State.act_choosesOn (fun _ => Node.choosesOn_unconfigured rfl) h
  | configure args =>
    exact State.act_choosesOn (Node.request_choosesOn 168 args (Node.configure_choosesOn args)) h
  | start args => exact State.act_choosesOn (Node.request_choosesOn 0 args Node.start_choosesOn) h
  | restart args => exact State.act_choosesOn (Node.request_choosesOn 0 args Node.restart_choosesOn) h
  | readStatus args =>
    exact State.act_choosesOn
      (Node.request_choosesOn 0 args fun n => Node.choosesOn_of_placing (n.answerRead_placing _)) h
  | readWindow args =>
    exact State.act_choosesOn
      (Node.configuredRequest_choosesOn 2 args fun n => n.ranged_placing 47 args _) h
  | readRoster args =>
    exact State.act_choosesOn
      (Node.configuredRequest_choosesOn 2 args fun n => n.ranged_placing 23 args _) h
  | readLog args =>
    exact State.act_choosesOn (Node.configuredRequest_choosesOn 0 args Node.readLog_placing) h
  | readFaults args =>
    exact State.act_choosesOn
      (Node.configuredRequest_choosesOn 0 args fun n => n.answerRead_placing _) h
  | clearFaults args =>
    exact State.act_choosesOn (Node.configuredRequest_choosesOn 0 args Node.clearFaults_placing) h
  | postMark args =>
    exact State.act_choosesOn (Node.trackingRequest_choosesOn 3 args (Node.postMark_placing _ _)) h
  | openMark args =>
    exact State.act_choosesOn (Node.trackingRequest_choosesOn 2 args (Node.openMark_placing _)) h
  | closeMark args =>
    exact State.act_choosesOn (Node.trackingRequest_choosesOn 2 args (Node.closeMark_placing _)) h
  | announceStop args =>
    exact State.act_choosesOn (Node.configuredRequest_choosesOn 1 args (Node.announceStop_placing _)) h
  | announceTrip args =>
    exact State.act_choosesOn (Node.configuredRequest_choosesOn 1 args (Node.announceTrip_placing _)) h
  | propose args =>
    exact State.act_choosesOn (Node.configuredRequest_choosesOn 1 args (Node.propose_placing _)) h
  | setHold args =>
    exact State.act_choosesOn (Node.configuredRequest_choosesOn 0 args Node.setHold_placing) h
  | clearHold args =>
    exact State.act_choosesOn (Node.configuredRequest_choosesOn 0 args Node.clearHold_placing) h
  | ackTrip args =>
    exact State.act_choosesOn (Node.configuredRequest_choosesOn 0 args Node.ackTrip_placing) h
  | setParticipation args =>
    exact State.act_choosesOn
      (Node.request_choosesOn 1 args
        (Node.whenConfigured_choosesOn (Node.setParticipation_choosesOn args))) h
  | returnToEncoder args =>
    exact State.act_choosesOn (Node.configuredRequest_choosesOn 0 args Node.returnToEncoder_placing) h
  | sensorMode args =>
    exact State.act_choosesOn (Node.configuredRequest_choosesOn 1 args (Node.setMode_placing _)) h
  | sensorTransact args =>
    refine State.act_choosesOn (Node.takeRequest_choosesOn fun n => ?_) h
    split
    · exact Node.whenConfigured_choosesOn
        (fun n _ => Node.choosesOn_of_placing (n.transact_placing args)) n
    · exact Node.choosesOn_of_placing rfl
  | sensorRead args =>
    exact State.act_choosesOn (Node.configuredRequest_choosesOn 0 args Node.sensorRead_placing) h
  | counterSelect args =>
    exact State.act_choosesOn
      (Node.configuredRequest_choosesOn 5 args (Node.counterSelect_placing args)) h
  | counterRead args =>
    exact State.act_choosesOn
      (Node.configuredRequest_choosesOn 0 args fun n => n.respond_placing ..) h
  | freeze args =>
    exact State.act_choosesOn (Node.configuredRequest_choosesOn 0 args Node.freeze_placing) h
  | thaw args =>
    exact State.act_choosesOn (Node.configuredRequest_choosesOn 0 args Node.thaw_placing) h
  | readNotices args =>
    exact State.act_choosesOn
      (Node.request_choosesOn 0 args fun n => Node.choosesOn_of_placing (n.respond_placing ..)) h
  | clearNotices args =>
    exact State.act_choosesOn
      (Node.request_choosesOn 2 args fun n => Node.choosesOn_of_placing (n.clearNotices_placing _)) h
  | setNoticeMask args =>
    exact State.act_choosesOn
      (Node.request_choosesOn 2 args fun n => Node.choosesOn_of_placing (n.setNoticeMask_placing _)) h
  | unknownRequest kind args =>
    exact State.act_choosesOn
      (Node.takeRequest_choosesOn fun n => Node.choosesOn_of_placing (n.unknownRequest_placing kind)) h
  | quadratureChange a b => exact State.act_placing (Node.quadrature_placing a b) h
  | stall => exact State.act_placing Node.stall_placing h
  | derivedAdvance => exact State.act_placing Node.derivedPoint_placing h
  | referenceAbsent => exact State.act_placing Node.referenceLapse_placing h
  | speedIntervalEnd => exact State.act_placing Node.intervalPoint_placing h
  | receiveStatus sender p => exact State.act_choosesOn (Node.receive_choosesOn sender _) h
  | receiveHandoff sender p => exact State.act_choosesOn (Node.receive_choosesOn sender _) h
  | receiveStop sender p => exact State.act_choosesOn (Node.receive_choosesOn sender _) h
  | receiveTrip sender p => exact State.act_choosesOn (Node.receive_choosesOn sender _) h
  | receivePropose sender p => exact State.act_choosesOn (Node.receive_choosesOn sender _) h
  | receiveAssent sender i => exact State.act_choosesOn (Node.receive_choosesOn sender _) h
  | receiveHold sender p => exact State.act_choosesOn (Node.receive_choosesOn sender _) h
  | receiveEnact sender p => exact State.act_choosesOn (Node.receive_choosesOn sender _) h
  | receiveFault sender p => exact State.act_choosesOn (Node.receive_choosesOn sender _) h
  | frameDiscarded bytes badStop => exact State.act_placing (Node.discard_placing bytes badStop) h
  | entrySilent station =>
    exact State.act_choosesOn
      (fun n => (n.silence_choosesOn station).keep (Node.finish_placing _)) h
  | transmitBegin => exact State.act_placing Node.transmitBegin_placing h
  | transmitComplete => exact State.act_choosesOn Node.transmitComplete_choosesOn h
  | collision => exact State.act_choosesOn Node.collision_choosesOn h
  | lineJam => exact State.act_choosesOn Node.lineJam_choosesOn h
  | statusTimer => exact State.act_placing Node.statusPoint_placing h
  | joinTimerExpiry => exact State.act_placing Node.joinExpired_placing h
  | voteTimeout => exact State.act_placing Node.voteTimeout_placing h
  | proposalViewTimeout => exact State.act_placing Node.closeView_placing h
  | standstillSecond => exact State.act_placing Node.standstillSecond_placing h
  | pollTimerExpiry ch => exact State.act_placing (Node.pollPoint_placing ch) h
  | transactionComplete ssdi => exact State.act_placing (Node.completeTransaction_placing ssdi) h
  | timeBaseMillisecond => exact State.act_placing Node.timeBase_placing h

/-- A step keeps the choices standing, with a command or without one (log 2). -/
theorem step_choosesOn (s t : State) (h : step s = .next t) : t.node.ChoosesOn s.node := by
  unfold step at h
  split at h
  · unfold State.idleStep at h
    split at h
    · cases h
      exact .refl _
    · split at h
      · exact (exec_choosesOn _ _ _ h).trans
          (Node.choosesOn_of_placing (s.node.takingDue_placing _ _))
      · cases h
        exact s.node.pass_choosesOn
  · rename_i c rest _
    exact exec_choosesOn c { s with pending := rest } t h

/-- Settles O8: a step either leaves what the choices are made of (`Node.placing`) or makes them again
(`Node.remakeChoices_stand`). -/
theorem stepsKeepTheChoices : Obligations.StepsKeepTheChoices :=
  fun s t hn h => step_choosesOn s t h hn

end Sys2Proof.Machine

/-! ### Frames offered to the queue (R67, R97, R102, R139, R140) -/

namespace Sys2Proof.Machine

/-- The fault recorded for a frame lost to a full queue: none for a STATUS, and one that makes no FAULT
frame for a FAULT (R140). -/
def dropReports : Frame → List FaultReport
  | .status _ => []
  | .handoff _ => [{ kind := .handoffDropped, silent := false }]
  | .fault _ => [{ kind := .frameDropped, silent := true }]
  | _ => [{ kind := .frameDropped, silent := false }]

/-- A frame lost to a full queue has its fault wait, and nothing else moves (R140). -/
theorem Node.dropFault_eq (f : Frame) (n : Node) : n.dropFault f =
    { n with faults.reported := n.faults.reported ++ dropReports f } := by
  cases f with
  | status p => simp [Node.dropFault, dropReports]
  | _ => rfl

/-- A frame may be evicted when it is of class 2 or 3 and not in transmission (R140). -/
theorem QueuedFrame.evictable_iff (q : QueuedFrame) :
    q.evictable = true ↔ 2 ≤ q.frame.cls ∧ q.inTransmission = false := by
  simp [QueuedFrame.evictable]

/-- The oldest of a list that satisfies `p` is found, and is the one erased. -/
theorem find?_eraseP_oldest {α : Type} {p : α → Bool} {older : List α} {x : α} (newer : List α)
    (ho : ∀ y ∈ older, ¬p y = true) (hx : p x = true) :
    (older ++ x :: newer).find? p = some x ∧ (older ++ x :: newer).eraseP p = older ++ newer := by
  refine ⟨?_, ?_⟩
  · rw [List.find?_append, List.find?_eq_none.2 ho, Option.none_or, List.find?_cons_of_pos hx]
  · rw [List.eraseP_append_right _ ho, List.eraseP_cons_of_pos hx]

/-- Outside ACTIVE a frame offered is lost (R139). -/
theorem Node.offer_inactive (f : Frame) (n : Node) (h : n.active = false) :
    n.offer f = n.frameLost (QueuedFrame.fresh f false) := by
  simp [Node.offer, h]

/-- In ACTIVE a frame offered to 16 others meets a full queue (R139). -/
theorem Node.offer_full (f : Frame) (n : Node) (h : n.active = true) (hq : 16 ≤ n.bus.queue.length) :
    n.offer f = n.offerToFull f := by
  simp [Node.offer, h, Node.queueFull, Config.outboundCapacity, hq]

/-- A frame of class 2 or 3 is refused by a full queue (R140). -/
theorem Node.offerToFull_low (f : Frame) (n : Node) (h : 2 ≤ f.cls) :
    n.offerToFull f = (n.dropFault f).frameLost (QueuedFrame.fresh f false) :=
  if_neg (Nat.not_lt.2 h)

/-- A frame of class 0 or 1 is refused by a full queue of which no frame may be evicted (R140). -/
theorem Node.offerToFull_refused (f : Frame) (n : Node) (h : f.cls < 2)
    (hq : n.bus.queue.find? QueuedFrame.evictable = none) :
    n.offerToFull f = (n.dropFault f).frameLost (QueuedFrame.fresh f false) := by
  rw [Node.offerToFull, if_pos h, hq]

/-- A frame of class 0 or 1 takes the room of the frame that it evicts (R140). -/
theorem Node.offerToFull_evicts (f : Frame) (n : Node) (x : QueuedFrame) (h : f.cls < 2)
    (hq : n.bus.queue.find? QueuedFrame.evictable = some x) :
    n.offerToFull f = Node.joinQueue (QueuedFrame.fresh f false)
      ((({ n with bus.queue := n.bus.queue.eraseP QueuedFrame.evictable }).dropFault
        x.frame).frameLost x) := by
  rw [Node.offerToFull, if_pos h, hq]

/-- An own PROPOSE that waited and is lost ends its proposal ABANDONED (R97, R101). -/
theorem Node.proposeLost_line (n : Node) (o : OwnProposal) (ho : n.line.own = some o)
    (hp : o.phase = .queued) : (n.proposeLost o.id).line =
      { n.line with own := none, lastOutcome := some { id := o.id, outcome := .abandoned } } := by
  simp [Node.proposeLost, ho, hp, Node.endOwn]

/-- Settles O57: by participation, room, class and the oldest frame that may be evicted, then the loss by
kind. -/
theorem offersMeetTheQueue : Obligations.OffersMeetTheQueue := by
  intro n f q evictable recorded failed
  have hfailed : ∀ g (m : Node), failed g m = m.dropFault g := by
    intro g m
    rw [Node.dropFault_eq]
    cases g <;> rfl
  have hevict : ∀ x, evictable x ↔ x.evictable = true := fun x => x.evictable_iff.symm
  refine ⟨n.offer_inactive f, fun ha hq => ?_, fun ha hq => ⟨fun hf => ?_, fun hf hnone => ?_,
    fun older x newer hf hsplit holder hx => ?_⟩, fun p hp => ?_, fun p hp => ?_,
    fun p o hp ho hid hphase => ?_⟩
  · exact n.offer_room f ha (decide_eq_false (Nat.not_le.2 hq))
  · rw [n.offer_full f ha hq, n.offerToFull_low f hf, hfailed]
  · have hfind : n.bus.queue.find? QueuedFrame.evictable = none :=
      List.find?_eq_none.2 fun x hx => mt (hevict x).2 (hnone x hx)
    rw [n.offer_full f ha hq, n.offerToFull_refused f hf hfind, hfailed]
  · obtain ⟨hfind, herase⟩ := find?_eraseP_oldest newer
      (fun y hy => mt (hevict y).2 (holder y hy)) ((hevict x).1 hx)
    rw [← hsplit] at hfind herase
    refine ⟨_, rfl, ?_⟩
    rw [n.offer_full f ha hq, n.offerToFull_evicts f x hf hfind, herase, hfailed]
    simp [Node.joinQueue, q]
  · subst hp
    rfl
  · subst hp
    rfl
  · subst hp
    rw [← n.proposeLost_line o ho hphase, hid]
    rfl

end Sys2Proof.Machine

/-! ### Arrivals joined and applied (R20, R45, R73, R74, R76 to R81) -/

namespace Sys2Proof.Machine

/-! #### Segment numbers (R20) -/

theorem segmentOk_iff (a : Nat) : segmentOk a = true ↔ 1 ≤ a ∧ a ≤ 16777215 :=
  Bool.and_eq_true_iff.trans (and_congr decide_eq_true_iff decide_eq_true_iff)

/-- The forward distance (R20). -/
theorem segDist_eq (b a : Nat) : segDist b a = if b ≤ a then a - b else a + 16777215 - b := rfl

/-- Newer is a forward distance of 1 to 8,388,607 (R20). -/
theorem segNewer_iff (a b : Nat) : segNewer a b = true ↔ 1 ≤ segDist b a ∧ segDist b a ≤ 8388607 := by
  simp [segNewer]

/-- Not older is newer or equal (R20). -/
theorem segNotOlder_iff (a b : Nat) : segNotOlder a b = true ↔ segNewer a b = true ∨ a = b := by
  simp [segNotOlder]

/-- Two ranges overlap when one begins within the other (R20). -/
theorem rangesOverlap_iff (a b c d : Nat) :
    rangesOverlap a b c d = true ↔ segDist a c ≤ segDist a b ∨ segDist c a ≤ segDist c d := by
  simp [rangesOverlap]

/-- Of two numbers on the circle the one that lies not further back from `x` lies on the way from the other
to `x` (R20). -/
theorem segDist_le_of_le {a c x : Nat} (ha : segmentOk a = true) (hc : segmentOk c = true)
    (hx : segmentOk x = true) (h : segDist c x ≤ segDist a x) : segDist a c ≤ segDist a x := by
  rw [segmentOk_iff] at ha hc hx
  rw [segDist_eq, segDist_eq] at h ⊢
  split_ifs at h ⊢ <;> omega

/-- Two ranges overlap when a number lies in both (R20). -/
theorem rangesOverlap_iff_common {a b c d : Nat} (ha : segmentOk a = true) (hc : segmentOk c = true) :
    rangesOverlap a b c d = true ↔
      ∃ x, segmentOk x = true ∧ segDist a x ≤ segDist a b ∧ segDist c x ≤ segDist c d := by
  have hself : ∀ y, segDist y y = 0 := fun y => by simp [segDist_eq]
  rw [rangesOverlap_iff]
  constructor
  · rintro (h | h)
    · exact ⟨c, hc, h, by simp [hself]⟩
    · exact ⟨a, ha, by simp [hself], h⟩
  · rintro ⟨x, hx, hax, hcx⟩
    rcases Nat.le_total (segDist c x) (segDist a x) with h | h
    · exact .inl ((segDist_le_of_le ha hc hx h).trans hax)
    · exact .inr ((segDist_le_of_le hc ha hx h).trans hcx)

/-! #### Faults that wait and reports to the counters -/

/-- More faults wait (R183). -/
def Node.withFaults (l : List FaultReport) (n : Node) : Node :=
  { n with faults.reported := n.faults.reported ++ l }

/-- Faults that wait and reports meet different blocks, in either order (R170, R183). -/
theorem Node.withFaults_report (l : List FaultReport) (e : CounterEvent) (n : Node) :
    (n.report e).withFaults l = (n.withFaults l).report e := by
  have hc : (n.withFaults l).counters = n.counters := rfl
  unfold Node.report Node.addCounters
  rw [hc]
  split
  · rfl
  · split <;> rfl

theorem Node.withFaults_append (l k : List FaultReport) (n : Node) :
    (n.withFaults l).withFaults k = n.withFaults (l ++ k) := by
  simp [Node.withFaults]

theorem Node.withFaults_nil (n : Node) : n.withFaults [] = n := by
  simp [Node.withFaults]

/-- The faults of entries dropped (R46). -/
def droppedEntries (count : Nat) : List FaultReport :=
  List.replicate count { kind := .marksOverflow, silent := false }

theorem Node.marksLost_eq (count : Nat) (n : Node) :
    n.marksLost count = n.withFaults (droppedEntries count) := n.faultTimes_replicate _ count

/-- The fault of numbers skipped (R77). -/
def skipFaults (count : Nat) : List FaultReport :=
  if count = 0 then [] else [{ kind := .numberSkip, silent := false }]

/-- The report of numbers skipped (R77, R45). -/
def Node.countSkip (count : Nat) (n : Node) : Node :=
  if count = 0 then n else n.report { code := 2, bits := [3], amount := count }

theorem Node.reportSkip_eq (count : Nat) (n : Node) :
    n.reportSkip count = (n.withFaults (skipFaults count)).countSkip count := by
  unfold Node.reportSkip Node.countSkip skipFaults
  split
  · rw [Node.withFaults_nil]
  · rfl

/-! #### The content an arrival leaves in a record (R76 to R78, R81) -/

/-- BRIDGED and EARLY set (R81). -/
theorem Arrival.flag_eq (early : Bool) (a : Arrival) (b : Body) : a.flag early b =
    { b with flags := (b.flags ||| (if a.bridged then 1#16 <<< 4 else 0#16)) |||
        (if early then 1#16 <<< 5 else 0#16) } := by
  unfold Arrival.flag setFlagIf
  cases a.bridged <;> cases early <;> simp [setFlag, RecordFlag.bridged, RecordFlag.early]

/-- The content of the entering record once an arrival is in it (R76, R77, R81). -/
theorem EnteringRecord.taken_eq (early : Bool) (a : Arrival) (e : EnteringRecord) : e.taken early a =
    { absorb e.body a.body with
      skip := min 16777214 ((absorb e.body a.body).skip + skipped e.body.last a)
      flags := ((absorb e.body a.body).flags ||| (if a.bridged then 1#16 <<< 4 else 0#16)) |||
        (if early then 1#16 <<< 5 else 0#16) } := by
  rw [EnteringRecord.taken, Arrival.flag_eq]
  rfl

/-- The content of a record filled late (R78, R81). -/
theorem Arrival.fillLate_eq (early : Bool) (a : Arrival) (b : Body) : a.fillLate early b =
    { fillBody b a.body with
      flags := (((fillBody b a.body).flags ||| (1#16 <<< 1)) |||
        (if a.bridged then 1#16 <<< 4 else 0#16)) ||| (if early then 1#16 <<< 5 else 0#16) } := by
  rw [Arrival.fillLate, Arrival.flag_eq]
  rfl

/-- A record marked PARTIAL holds no origin length (R21, R80). -/
theorem dropOrigin_partial (b : Body) : dropOrigin (setFlag RecordFlag.isPartial b) =
    { b with origin := none, flags := b.flags ||| (1#16 <<< 3) } := by
  have hset : hasFlag RecordFlag.isPartial (setFlag RecordFlag.isPartial b) = true := by
    simp [hasFlag, setFlag, RecordFlag.isPartial]
  rw [dropOrigin_eq, if_pos (.inr hset)]
  rfl

/-! #### An arrival as a boundary (R76, R77) -/

/-- Elsewhere than at the ORIGIN the record that a boundary opens is PENDING (R28). -/
theorem Node.newEntering_pending (number x : Nat) (next : Option Nat) (n : Node)
    (h : n.isOrigin = false) : n.newEntering number x next =
      { body := freshBody number .pending next 0 n.lengthDerived
        head := x, expectFrom := x, expected := next } := by
  simp [Node.newEntering, h]

/-- An arrival that is not older than the entering record is a boundary (Table 4-3). -/
theorem Node.applyArrival_boundary (early : Bool) (a : Arrival) (e : EnteringRecord) (n : Node)
    (he : n.window.entering = some e) (h : segNotOlder a.body.last e.body.first = true) :
    n.applyArrival early a = n.applyBoundary early a e := by
  simp [Node.applyArrival, he, h]

/-- An older arrival is no boundary (Table 4-3). -/
theorem Node.applyArrival_older (early : Bool) (a : Arrival) (e : EnteringRecord) (n : Node)
    (he : n.window.entering = some e) (h : segNotOlder a.body.last e.body.first = false) :
    n.applyArrival early a = n.applyOlder early a := by
  simp [Node.applyArrival, he, h]

/-- A boundary: the entering record closes or widens, and the entries dropped and the numbers skipped are
recorded (R28, R38, R46, R77). -/
theorem Node.applyBoundary_eq (early : Bool) (a : Arrival) (e : EnteringRecord) (n : Node) :
    n.applyBoundary early a e = Node.countSkip (skipped e.body.last a)
      (Node.withFaults
        (droppedEntries (absorbDrops e.body a.body) ++ skipFaults (skipped e.body.last a))
        (if n.window.full then
          n.coalesce n.len.tracking e (e.taken early a) (some a.body.last) a.nextNominal
        else
          Node.report { code := 1, bits := [0], amount := n.len.tracking - e.head }
            (n.closeEntering n.len.tracking e (e.taken early a) (some a.body.last) a.nextNominal))) := by
  refine (Node.reportSkip_eq _ _).trans (congrArg _ ?_)
  rw [Node.marksLost_eq, Node.withFaults_append]
  rfl

/-- With room in the window the entering record closes and the next one opens (R28, R76). -/
theorem Node.applyBoundary_room (early : Bool) (a : Arrival) (e : EnteringRecord) (n : Node)
    (hf : n.window.full = false) : n.applyBoundary early a e = Node.countSkip (skipped e.body.last a)
      (Node.report { code := 1, bits := [0], amount := n.len.tracking - e.head }
        ((n.closeEntering n.len.tracking e (e.taken early a) (some a.body.last) a.nextNominal).withFaults
          (droppedEntries (absorbDrops e.body a.body) ++ skipFaults (skipped e.body.last a)))) := by
  rw [Node.applyBoundary_eq, if_neg (Bool.eq_false_iff.1 hf), Node.withFaults_report]

/-- The entering record widened by a boundary (R38). -/
def Node.widened (x : Nat) (e : EnteringRecord) (body : Body) (brought next : Option Nat) (n : Node) :
    Node :=
  { n with
    window.entering := some
      { body := setFlag RecordFlag.coalesced
          { body with last := segSucc (lastAfter e.body.last brought) }
        head := e.head, expectFrom := x, expected := next } }

/-- A full window has the entering record widen (R38, R76). -/
theorem Node.applyBoundary_full (early : Bool) (a : Arrival) (e : EnteringRecord) (n : Node)
    (hf : n.window.full = true) : n.applyBoundary early a e = Node.countSkip (skipped e.body.last a)
      (Node.report { code := 1, bits := [1], amount := n.len.tracking - e.expectFrom }
        ((n.widened n.len.tracking e (e.taken early a) (some a.body.last) a.nextNominal).withFaults
          ({ kind := .windowCoalesce, silent := false } ::
            (droppedEntries (absorbDrops e.body a.body) ++ skipFaults (skipped e.body.last a))))) := by
  rw [Node.applyBoundary_eq, if_pos hf, Node.coalesce, Node.withFaults_report]
  exact congrArg (fun m => Node.countSkip _ (Node.report _ m)) (Node.withFaults_append [_] _
    (n.widened n.len.tracking e (e.taken early a) (some a.body.last) a.nextNominal))

/-! #### An older arrival (R78, R79) -/

/-- The oldest of a list that satisfies `p` is the one changed. -/
theorem changeFirst_oldest {α : Type} {p : α → Bool} (f : α → α) {older : List α} {x : α}
    (newer : List α) (ho : ∀ y ∈ older, p y = false) (hx : p x = true) :
    changeFirst p f (older ++ x :: newer) = older ++ f x :: newer := by
  induction older with
  | nil => simp [changeFirst, hx]
  | cons y older ih =>
    have hy : p y = false := ho y List.mem_cons_self
    have hrest := ih fun z hz => ho z (List.mem_cons_of_mem _ hz)
    simp [changeFirst, hy, hrest]

/-- The oldest closed record that satisfies `p` is the first that does, and the one changed (R78). -/
theorem Window.changeOldest_closed {p : Body → Bool} (f : Body → Body) (w : Window)
    {older newer : List ClosedRecord} {r : ClosedRecord} (hw : w.closed = older ++ r :: newer)
    (ho : ∀ x ∈ older, p x.body = false) (hr : p r.body = true) :
    w.bodies.find? p = some r.body ∧ w.changeOldest p f =
      { w with closed := older ++ { r with body := f r.body } :: newer } := by
  constructor
  · unfold Window.bodies
    have hold : (older.map fun x => x.body).find? p = none := by
      simpa using ho
    simp [hw, List.find?_append, hold, hr]
  · have hany : w.closed.any (fun x => p x.body) = true := by simp [hw, hr]
    unfold Window.changeOldest
    rw [if_pos hany, hw, changeFirst_oldest (p := fun x => p x.body) _ newer ho hr]

/-- An older arrival fills the oldest PROVISIONAL record that it overlaps (R78). -/
theorem Node.applyOlder_fills (early : Bool) (a : Arrival) (b : Body) (n : Node)
    (h : n.window.bodies.find? a.fills = some b) : n.applyOlder early a =
      Node.report { code := 2, bits := [0], amount := 0 }
        (Node.withFaults (droppedEntries (countDrops a.body.marks b))
          { n with window := n.window.changeOldest a.fills (a.fillLate early) }) := by
  rw [← Node.marksLost_eq, Node.applyOlder, h]
  rfl

/-- One that fills none is a duplicate where it overlaps a record, and stale where it overlaps none
(R79). -/
theorem Node.applyOlder_fillsNone (early : Bool) (a : Arrival) (n : Node)
    (h : n.window.bodies.find? a.fills = none) : n.applyOlder early a =
      if n.window.bodies.any a.overlaps then
        (n.fault .handoffDuplicate).report { code := 2, bits := [1], amount := 0 }
      else (n.fault .handoffStale).report { code := 2, bits := [2], amount := 0 } := by
  unfold Node.applyOlder
  rw [h]
  rfl

/-! #### The first arrival, and the arrivals that wait (R73, R74, R80) -/

/-- An arrival applied to an empty window makes the first record and opens the next (R80). -/
theorem Node.applyArrival_first (early : Bool) (a : Arrival) (n : Node) (ho : n.isOrigin = false)
    (he : n.window.entering = none) : n.applyArrival early a =
      Node.report { code := 1, bits := [2], amount := 0 } { n with
        window :=
          { closed := [n.firstRecord early a]
            entering := some
              { body := freshBody (segSucc a.body.last) .pending a.nextNominal 0 n.lengthDerived
                head := n.len.tracking, expectFrom := n.len.tracking, expected := a.nextNominal } } } := by
  unfold Node.applyArrival Node.applyFirst
  rw [he, Node.newEntering_pending _ _ _ _ ho]
  rfl

/-- The first record's content: filled, marked PARTIAL, its origin length dropped (R21, R80). -/
theorem Node.firstRecord_eq (early : Bool) (a : Arrival) (n : Node) {filled : Body}
    (hf : filled = fillBody
      { freshBody a.body.first .pending none 0 n.lengthDerived with last := a.body.last } a.body) :
    n.firstRecord early a =
      { body := { filled with
          origin := none
          flags := (((filled.flags ||| (if a.bridged then 1#16 <<< 4 else 0#16)) |||
            (if early then 1#16 <<< 5 else 0#16)) ||| (1#16 <<< 3)) }
        head := n.len.tracking, tail := n.len.tracking } := by
  unfold Node.firstRecord
  dsimp only
  rw [← hf, dropOrigin_partial, Arrival.flag_eq]

/-- The head arrival is applied where its due position is reached (R73). -/
theorem Node.handoverTurn_head (n : Node) (a : Arrival) (rest : List Arrival)
    (h : n.handover.arrivals = a :: rest) : n.handoverTurn =
      if a.due ≤ n.len.tracking then
        Node.applyArrival false a { n with handover.arrivals := rest }
      else n := by
  have hdue : n.arrivalDue = decide (a.due ≤ n.len.tracking) := by rw [Node.arrivalDue, h]
  have hhead : n.applyHead false = Node.applyArrival false a { n with handover.arrivals := rest } := by
    rw [Node.applyHead, h]
  rw [Node.handoverTurn, hdue, hhead]
  exact if_congr decide_eq_true_iff rfl rfl

/-- An arrival that meets eight has the oldest applied EARLY (R74). -/
theorem Node.joinArrivals_full (n : Node) (a b : Arrival) (rest : List Arrival)
    (h : n.handover.arrivals = a :: rest) (hfull : 8 ≤ n.handover.arrivals.length) :
    n.joinArrivals b =
      let applied := Node.applyArrival true a { n with handover.arrivals := rest }
      { applied with
        handover.arrivals := rest ++ [b]
        faults.reported := applied.faults.reported ++ [{ kind := .arrivalOverrun, silent := false }] } := by
  have hhead : n.applyHead true = Node.applyArrival true a { n with handover.arrivals := rest } := by
    rw [Node.applyHead, h]
  have harr : (n.applyHead true).handover.arrivals = rest := by
    have hh := congrArg Held.arrivals (n.applyHead_held true)
    rw [h] at hh
    exact hh
  have hjoin : n.joinArrivals b = { n.applyHead true with
      handover.arrivals := (n.applyHead true).handover.arrivals ++ [b]
      faults.reported := (n.applyHead true).faults.reported ++
        [{ kind := .arrivalOverrun, silent := false }] } := by
    unfold Node.joinArrivals
    rw [if_pos (show Config.arrivalCapacity ≤ n.handover.arrivals.length from hfull)]
    rfl
  rw [hjoin, harr, hhead]

/-- With fewer than eight waiting it joins them (R72). -/
theorem Node.joinArrivals_room (n : Node) (b : Arrival) (hroom : n.handover.arrivals.length < 8) :
    n.joinArrivals b = { n with handover.arrivals := n.handover.arrivals ++ [b] } := by
  unfold Node.joinArrivals
  dsimp only
  rw [if_neg (show ¬Config.arrivalCapacity ≤ n.handover.arrivals.length from Nat.not_le.2 hroom)]

/-- Settles O33: the arrivals that wait, then the cases of Table 4-3, then the order of segment numbers. -/
theorem arrivalsAreApplied : Obligations.ArrivalsAreApplied := by
  refine ⟨fun n a rest h => ⟨fun hd => ?_, fun hd => ?_, fun b hb => ?_⟩,
    fun n a early e ho he hnew => ?_, fun n a early e he hold => ?_, fun n a early ho he => ?_,
    fun a b ha hb => ⟨rfl, rfl, ?_, segNotOlder_iff a b, rfl, fun c d hc hd => ?_⟩, segmentOk_iff⟩
  · rw [n.handoverTurn_head a rest h, if_pos hd]
  · rw [n.handoverTurn_head a rest h, if_neg (Nat.not_le.2 hd)]
  · exact n.joinArrivals_full a b rest h (Nat.le_of_eq hb.symm)
  · have happ := n.applyArrival_boundary early a e he hnew
    refine ⟨fun hroom => ?_, fun hfull => ?_⟩
    · have hf : n.window.full = false := by
        rw [Bool.eq_false_iff, ne_eq, Window.full_iff _ e he]
        omega
      rw [happ, n.applyBoundary_room early a e hf, Node.closeEntering,
        Node.newEntering_pending _ _ _ _ ho, EnteringRecord.taken_eq]
      rfl
    · rw [happ, n.applyBoundary_full early a e ((Window.full_iff _ e he).2 hfull), Node.widened,
        EnteringRecord.taken_eq]
      rfl
  · have happ := n.applyArrival_older early a e he hold
    refine ⟨fun older r newer hw holder hr => ?_, fun hnone hsome => ?_, fun hnone => ?_⟩
    · obtain ⟨hfind, hchange⟩ := n.window.changeOldest_closed (p := a.fills) (a.fillLate early) hw holder hr
      rw [happ, n.applyOlder_fills early a r.body hfind, hchange, Arrival.fillLate_eq]
      rfl
    · have hfind : n.window.bodies.find? a.fills = none :=
        List.find?_eq_none.2 fun b hb => Bool.eq_false_iff.1 (hnone b hb)
      have hany : n.window.bodies.any a.overlaps = true := List.any_eq_true.2 hsome
      rw [happ, n.applyOlder_fillsNone early a hfind, if_pos hany]
      rfl
    · have hfills : ∀ b ∈ n.window.bodies, ¬a.fills b = true := fun b hb hf =>
        Bool.eq_false_iff.1 (hnone b hb) (Bool.and_eq_true_iff.1 hf).2
      have hany : ¬n.window.bodies.any a.overlaps = true := fun h => by
        obtain ⟨b, hb, hover⟩ := List.any_eq_true.1 h
        exact Bool.eq_false_iff.1 (hnone b hb) hover
      rw [happ, n.applyOlder_fillsNone early a (List.find?_eq_none.2 hfills), if_neg hany]
      rfl
  · rw [n.applyArrival_first early a ho he, n.firstRecord_eq early a rfl]
  · exact segNewer_iff a b
  · exact rangesOverlap_iff_common ha hc

end Sys2Proof.Machine

/-! ### A HANDOFF received (R70, R71, R80, R123, R137) -/

namespace Sys2Proof.Machine

/-! #### What an arrival applied leaves -/

/-- `m` comes of `n` when arrivals are taken or applied: the window, the arrivals that wait, counter values,
notices and faults that wait are all that may differ, and the faults are mild where those of `n` are. -/
structure Node.TakenIn (m n : Node) : Prop where
  kept : m = { n with
    window := m.window
    handover.arrivals := m.handover.arrivals
    counters.cells := m.counters.cells
    port.notices := m.port.notices
    faults.reported := m.faults.reported }
  mild : n.mild → m.mild

theorem Node.TakenIn.refl (n : Node) : n.TakenIn n := ⟨rfl, id⟩

theorem Node.TakenIn.trans {l m n : Node} (h : l.TakenIn m) (k : m.TakenIn n) : l.TakenIn n := by
  refine ⟨?_, h.mild ∘ k.mild⟩
  obtain ⟨hk, -⟩ := h
  obtain ⟨kk, -⟩ := k
  rw [kk] at hk
  exact hk

theorem Node.takenIn_window (w : Window) (n : Node) : ({ n with window := w } : Node).TakenIn n :=
  ⟨rfl, id⟩

theorem Node.takenIn_arrivals (l : List Arrival) (n : Node) :
    ({ n with handover.arrivals := l } : Node).TakenIn n := ⟨rfl, id⟩

theorem Node.report_takenIn (e : CounterEvent) (n : Node) : (n.report e).TakenIn n := by
  obtain ⟨he, -, -⟩ := n.addCounters_reports (Counter.counts e)
  refine ⟨?_, fun h => ?_⟩
  · unfold Node.report
    generalize n.addCounters (Counter.counts e) = t at he
    rw [he]
  · simpa [Node.mild] using h

/-- Mild faults that wait (Table 11-4). -/
theorem Node.withFaults_takenIn {l : List FaultReport} (hl : ∀ r ∈ l, mildKind r.kind = true)
    (n : Node) : (n.withFaults l).TakenIn n :=
  ⟨rfl, fun h => ⟨h.1, fun r hr => (List.mem_append.1 hr).elim (h.2 r) (hl r)⟩⟩

theorem Node.fault_takenIn {k : FaultKind} (hk : mildKind k = true) (n : Node) :
    (n.fault k).TakenIn n :=
  n.withFaults_takenIn (l := [{ kind := k, silent := false }]) fun r hr => by
    rw [List.mem_singleton.1 hr]
    exact hk

theorem droppedEntries_mild (count : Nat) : ∀ r ∈ droppedEntries count, mildKind r.kind = true :=
  fun r hr => by
    rw [List.eq_of_mem_replicate hr]
    rfl

theorem skipFaults_mild (count : Nat) : ∀ r ∈ skipFaults count, mildKind r.kind = true := by
  unfold skipFaults
  split
  · exact fun r hr => absurd hr List.not_mem_nil
  · exact fun r hr => by
      rw [List.mem_singleton.1 hr]
      rfl

theorem Node.applyBoundary_takenIn (early : Bool) (a : Arrival) (e : EnteringRecord) (n : Node) :
    (n.applyBoundary early a e).TakenIn n := by
  have hskip : ∀ c (m : Node), (m.countSkip c).TakenIn m := by
    intro c m
    unfold Node.countSkip
    split
    · exact .refl m
    · exact m.report_takenIn _
  have hlost := fun r hr => (List.mem_append.1 hr).elim
    (droppedEntries_mild (absorbDrops e.body a.body) r) (skipFaults_mild (skipped e.body.last a) r)
  rw [Node.applyBoundary_eq]
  refine (hskip _ _).trans ((Node.withFaults_takenIn hlost _).trans ?_)
  split
  · exact (Node.report_takenIn _ _).trans ((Node.fault_takenIn rfl _).trans (n.takenIn_window _))
  · exact (Node.report_takenIn _ _).trans (n.takenIn_window _)

theorem Node.applyOlder_takenIn (early : Bool) (a : Arrival) (n : Node) :
    (n.applyOlder early a).TakenIn n := by
  cases h : n.window.bodies.find? a.fills with
  | some b =>
    rw [n.applyOlder_fills early a b h]
    exact (Node.report_takenIn _ _).trans
      ((Node.withFaults_takenIn (droppedEntries_mild _) _).trans (n.takenIn_window _))
  | none =>
    rw [n.applyOlder_fillsNone early a h]
    split
    · exact (Node.report_takenIn _ _).trans (n.fault_takenIn rfl)
    · exact (Node.report_takenIn _ _).trans (n.fault_takenIn rfl)

/-- An arrival applied (Table 4-3). -/
theorem Node.applyArrival_takenIn (early : Bool) (a : Arrival) (n : Node) :
    (n.applyArrival early a).TakenIn n := by
  unfold Node.applyArrival
  split
  · exact (Node.report_takenIn _ _).trans (n.takenIn_window _)
  · split
    · exact n.applyBoundary_takenIn early a _
    · exact n.applyOlder_takenIn early a

/-- A HANDOFF taken (R70 to R74). -/
theorem Node.takeHandoff_takenIn (sender : Nat) (p : HandoffPayload) (n : Node) :
    (n.takeHandoff sender p).TakenIn n := by
  have hhead : (n.applyHead true).TakenIn n := by
    unfold Node.applyHead
    split
    · exact .refl n
    · exact (Node.applyArrival_takenIn _ _ _).trans (n.takenIn_arrivals _)
  unfold Node.takeHandoff
  split
  · exact .refl n
  · split
    · exact n.applyArrival_takenIn _ _
    · refine Node.TakenIn.trans (Node.takenIn_arrivals _ _) ?_
      split
      · exact (Node.fault_takenIn rfl _).trans hhead
      · exact .refl n

/-! #### What a HANDOFF leaves, by what it meets (R70, R71, R80) -/

/-- What a HANDOFF is taken by: the role, the line view, the tracking length, the Handover Engine and the
window. -/
structure Hand where
  origin : Bool
  line : LineState
  tracking : Nat
  handover : Handover
  window : Window

/-- The reading of a node by which it takes a HANDOFF. -/
def Node.hand (n : Node) : Hand :=
  { origin := n.isOrigin, line := n.line, tracking := n.len.tracking, handover := n.handover
    window := n.window }

/-- A HANDOFF of `sender` taken: of no effect, an arrival that waits, or the first record of an empty
window (R70, R71, R80). -/
structure HandoffTaken (sender : Nat) (p : HandoffPayload) (after before : Hand) : Prop where
  line : after.line = before.line
  tracking : after.tracking = before.tracking
  untaken : before.origin = true ∨ before.handover.neighbour ≠ some sender →
    after.handover = before.handover ∧ after.window = before.window
  waits : before.origin = false → before.handover.neighbour = some sender →
    (before.handover.gap ≠ 0 ∨ before.handover.arrivals ≠ []) →
    before.handover.arrivals.length < 8 →
    after.window = before.window ∧
    after.handover = { before.handover with
      arrivals := before.handover.arrivals ++
        [{ body := p.body, nextNominal := p.nextNominal, bridged := before.handover.bridging,
           due := min 4294967295 (before.tracking + before.handover.gap) }] }
  first : before.origin = false → before.handover.neighbour = some sender →
    before.handover.gap = 0 → before.handover.arrivals = [] → before.window = Window.empty →
    ∃ r next, after.window = { closed := [r], entering := some next } ∧
      r.head = before.tracking ∧ r.tail = before.tracking ∧ r.body.first = p.body.first ∧
      r.body.last = p.body.last ∧ hasFlag RecordFlag.isPartial r.body = true ∧
      next.head = before.tracking ∧ next.body.first = segSucc p.body.last ∧
      next.expected = p.nextNominal ∧ after.handover = before.handover

/-- The first record has the arrival's range and is PARTIAL (R80). -/
theorem Node.firstRecord_fields (early : Bool) (a : Arrival) (n : Node) :
    (n.firstRecord early a).head = n.len.tracking ∧ (n.firstRecord early a).tail = n.len.tracking ∧
    (n.firstRecord early a).body.first = a.body.first ∧
    (n.firstRecord early a).body.last = a.body.last ∧
    hasFlag RecordFlag.isPartial (n.firstRecord early a).body = true := by
  obtain ⟨filled, hf⟩ : ∃ b, b = fillBody
    { freshBody a.body.first .pending none 0 n.lengthDerived with last := a.body.last } a.body := ⟨_, rfl⟩
  obtain ⟨hfirst, hlast⟩ := hf ▸ fillBody_range
    { freshBody a.body.first .pending none 0 n.lengthDerived with last := a.body.last } a.body
  rw [n.firstRecord_eq early a hf]
  refine ⟨rfl, rfl, hfirst.trans ?_, hlast, ?_⟩
  · exact (freshBody_fields a.body.first .pending none 0 n.lengthDerived).1
  · simp [hasFlag, RecordFlag.isPartial]

/-- A HANDOFF that a station takes, its faults not yet taken. -/
theorem Node.takeHandoff_taken (sender : Nat) (p : HandoffPayload) (n : Node) :
    HandoffTaken sender p (n.takeHandoff sender p).hand n.hand := by
  obtain ⟨hkept, -⟩ := n.takeHandoff_takenIn sender p
  have htaken : n.isOrigin = false → n.handover.neighbour = some sender →
      n.takeHandoff sender p = if n.handover.gap = 0 ∧ n.handover.arrivals = [] then
        n.applyArrival false (n.arrivalOf p) else n.joinArrivals (n.arrivalOf p) := by
    intro ho hs
    simp [Node.takeHandoff, ho, hs]
  have hframe : (n.takeHandoff sender p).line = n.line ∧
      (n.takeHandoff sender p).len.tracking = n.len.tracking := by
    rw [hkept]
    exact ⟨rfl, rfl⟩
  refine ⟨hframe.1, hframe.2, fun h => ?_, fun ho hs hgap hroom => ?_, fun ho hs hgap harr hw => ?_⟩
  · have hsame : n.takeHandoff sender p = n := if_pos h
    rw [hsame]
    exact ⟨rfl, rfl⟩
  · have hwait : ¬(n.handover.gap = 0 ∧ n.handover.arrivals = []) := fun h =>
      hgap.elim (fun hg => hg h.1) fun ha => ha h.2
    rw [htaken ho hs, if_neg hwait, n.joinArrivals_room _ hroom]
    exact ⟨rfl, rfl⟩
  · have he : n.window.entering = none := congrArg Window.entering hw
    have happly := n.applyArrival_first false (n.arrivalOf p) ho he
    obtain ⟨hhead, htail, hfirst, hlast, hpart⟩ := n.firstRecord_fields false (n.arrivalOf p)
    rw [htaken ho hs, if_pos ⟨hgap, harr⟩, happly]
    refine ⟨n.firstRecord false (n.arrivalOf p), _, (Node.report_frame _ _).2.2.1, hhead, htail,
      hfirst, hlast, hpart, rfl, ?_, rfl, (Node.report_frame _ _).2.2.2.2.1⟩
    exact (freshBody_fields (segSucc p.body.last) .pending p.nextNominal 0 n.lengthDerived).1

/-! #### The two deliveries of a HANDOFF (R123, R137) -/

/-- The node has a PRESENT entry for the sender, its upstream neighbour is as the entries make it, and
nothing interferes: no fault waits or escalates, and no own proposal is open. -/
structure Node.Awaits (sender : Nat) (n : Node) : Prop where
  entry : ∃ e, n.roster.entry? sender = some e ∧ e.present = true
  chosen : n.roster.upstream = n.chooseUpstream
  calm : n.calm
  own : n.line.own = none

/-- A block done, its faults mild, leaves what a HANDOFF is taken by. -/
theorem Node.finish_hand {n : Node} (h : n.mild) (ho : n.line.own = none) :
    n.finish.hand = n.hand := by
  obtain ⟨hfin, hkept, -⟩ := n.finish_mild h ho
  have hown : n.takeFaults.line.own = none := by
    rw [hkept]
    exact ho
  have hline : n.takeFaults.settle.line = n.takeFaults.line := (Node.settle_none _ hown).1
  have htaken : n.takeFaults.hand = n.hand := by
    rw [hkept]
    rfl
  rw [hfin, ← htaken]
  simp [Node.hand, Node.isOrigin, hline]

/-- A block done, its faults mild, still awaits. -/
theorem Node.finish_awaits {sender : Nat} {n : Node} (h : n.mild) (ho : n.line.own = none)
    (he : ∃ e, n.roster.entry? sender = some e ∧ e.present = true)
    (hc : n.roster.upstream = n.chooseUpstream) : n.finish.Awaits sender := by
  obtain ⟨hfin, hkept, -⟩ := n.finish_mild h ho
  have hline : n.finish.line = n.line := congrArg Hand.line (Node.finish_hand h ho)
  have hparts : n.finish.config = n.config ∧ n.finish.roster = n.roster ∧
      n.finish.bus.participation = n.bus.participation ∧
      n.finish.faults.escalation = n.faults.escalation := by
    rw [hfin]
    generalize n.takeFaults = m at hkept
    rw [hkept]
    simp
  obtain ⟨hconf, hroster, hpart, hesc⟩ := hparts
  refine ⟨by rw [hroster]; exact he, ?_, ⟨hesc.trans h.1, n.finish_reported⟩, by rw [hline]; exact ho⟩
  rw [hroster, hc]
  exact (Node.chooseUpstream_congr hconf (by rw [hroster]) (by rw [hpart])).symm

/-- A calm node is mild. -/
theorem Node.mild_of_calm {n : Node} (h : n.calm) : n.mild :=
  ⟨h.1, by simp [h.2]⟩

/-- The Handover Engine's delivery of a HANDOFF (R70, R71). -/
theorem Node.deliverBlock_handoff {sender : Nat} (p : HandoffPayload) {n : Node}
    (h : n.Awaits sender) : HandoffTaken sender p (n.deliverBlock sender (.handoff p)).hand n.hand ∧
      (n.deliverBlock sender (.handoff p)).Awaits sender := by
  obtain ⟨hentry, hchosen, hcalm, hown⟩ := h
  obtain ⟨hkept, hmild⟩ := n.takeHandoff_takenIn sender p
  have htaken := n.takeHandoff_taken sender p
  have hm := hmild (Node.mild_of_calm hcalm)
  have hdone : n.deliverBlock sender (.handoff p) = (n.takeHandoff sender p).finish := rfl
  rw [hdone]
  generalize n.takeHandoff sender p = m at hkept htaken hm
  have hown' : m.line.own = none := by rw [hkept]; exact hown
  rw [Node.finish_hand hm hown']
  refine ⟨htaken, Node.finish_awaits hm hown' (by rw [hkept]; exact hentry) ?_⟩
  rw [hkept]
  exact hchosen

/-- The one found in a list is the one that a change of the first changes. -/
theorem find?_changeFirst {α : Type} {p : α → Bool} {f : α → α} {l : List α} {a : α}
    (h : l.find? p = some a) (hp : p (f a) = true) : (changeFirst p f l).find? p = some (f a) := by
  induction l with
  | nil => cases h
  | cons b l ih =>
    unfold changeFirst
    by_cases hb : p b = true
    · obtain rfl : b = a := by simpa [hb] using h
      simp [hb, hp]
    · rw [List.find?_cons_of_neg hb] at h
      simp [hb, ih h]

/-- A change of the first keeps what it keeps of the one found. -/
theorem map_changeFirst_found {α β : Type} {p : α → Bool} {f : α → α} {key : α → β} {l : List α} {a : α}
    (h : l.find? p = some a) (hk : key (f a) = key a) : (changeFirst p f l).map key = l.map key := by
  induction l with
  | nil => cases h
  | cons b l ih =>
    unfold changeFirst
    by_cases hb : p b = true
    · obtain rfl : b = a := by simpa [hb] using h
      simp [hb, hk]
    · rw [List.find?_cons_of_neg hb] at h
      simp [hb, ih h]

/-- Entries that differ in their ages alone are PRESENT and in order conflict alike (R124, R127). -/
theorem RosterEntry.of_unaged {a b : RosterEntry} (h : a.unaged = b.unaged) :
    a.present = b.present ∧ ∀ order, a.conflict order = b.conflict order := by
  have hpresent : a.unaged.present = b.unaged.present := by rw [h]
  have hconflict : ∀ order, a.unaged.conflict order = b.unaged.conflict order := fun _ => by rw [h]
  exact ⟨hpresent, hconflict⟩

/-- An entry that changes in its age alone brings no fault of the Roster and no new neighbour: the speed
reference alone is chosen again (R127, R130, R131). -/
theorem Node.changeEntries_unaged {sender : Nat} {entries : List RosterEntry} {e e' : RosterEntry}
    {n : Node} (hold : n.roster.entry? sender = some e)
    (hnew : ({ n.roster with others := entries } : Roster).entry? sender = some e')
    (hage : e'.unaged = e.unaged)
    (hall : entries.map RosterEntry.unaged = n.roster.others.map RosterEntry.unaged)
    (hc : n.roster.upstream = n.chooseUpstream) : n.changeEntries sender entries =
      Node.remakeReference { n with roster.others := entries } := by
  obtain ⟨m, hm⟩ : ∃ m : Node, m = { n with roster.others := entries } := ⟨_, rfl⟩
  have hmc : m.config = n.config := by rw [hm]
  have hmo : m.roster.others.map RosterEntry.unaged = n.roster.others.map RosterEntry.unaged := by
    rw [hm]
    exact hall
  have hme : m.roster.entry? sender = some e' := by rw [hm]; exact hnew
  obtain ⟨hpresent, hconflict⟩ := RosterEntry.of_unaged hage
  have horder : m.testOrder (some e) (some e') = m := by
    simp [Node.testOrder, hconflict]
  have hlost : m.testLost (some e) (some e') = m := by
    simp [Node.testLost, hpresent]
  have hup : m.remakeUpstream = m := by
    refine if_pos ?_
    rw [Node.chooseUpstream_congr (n := n) hmc hmo (by rw [hm]), ← hc, hm]
  have hcreel : m.remakeReference.creel = n.creel := by
    have hp := m.remakeReference_placing
    exact Node.creel_congr ((congrArg Placing.config hp).trans hmc)
      ((congrArg Placing.others hp).trans hmo)
  have hkeep : m.remakeReference.testCreel n.creel = m.remakeReference := by
    simp [Node.testCreel, hcreel]
  calc n.changeEntries sender entries
      = (((m.testOrder (n.roster.entry? sender) (m.roster.entry? sender)).testLost
          (n.roster.entry? sender) (m.roster.entry? sender)).remakeChoices).testCreel n.creel := by
        rw [hm]
        rfl
    _ = m.remakeChoices.testCreel n.creel := by rw [hold, hme, horder, hlost]
    _ = m.remakeReference.testCreel n.creel := by rw [Node.remakeChoices, hup]
    _ = Node.remakeReference { n with roster.others := entries } := by rw [hkeep, hm]

/-- The choice of speed reference leaves what a HANDOFF is taken by, and what a node awaits it with. -/
theorem Node.remakeReference_awaits {sender : Nat} {n : Node} (h : n.Awaits sender) :
    n.remakeReference.hand = n.hand ∧ n.remakeReference.Awaits sender := by
  obtain ⟨hentry, hchosen, hcalm, hown⟩ := h
  unfold Node.remakeReference Node.refreshReference
  split
  · exact ⟨rfl, hentry, hchosen, hcalm, hown⟩
  · exact ⟨rfl, hentry, hchosen, hcalm, hown⟩

/-- A HANDOFF changes a PRESENT entry in its age alone (R123). -/
theorem RosterEntry.update_handoff (p : HandoffPayload) (e : RosterEntry) (h : e.present = true) :
    (RosterEntry.update (.handoff p) e).unaged = e.unaged := by
  cases e
  cases h
  rfl

/-- The sender's PRESENT entry is the one that a HANDOFF updates, in its age alone (R123). -/
theorem Roster.updated_handoff {sender : Nat} (p : HandoffPayload) {e : RosterEntry} {r : Roster}
    (he : r.entry? sender = some e) (h : e.present = true) :
    ({ r with others := r.updated sender (.handoff p) } : Roster).entry? sender =
      some (RosterEntry.update (.handoff p) e) ∧
    (r.updated sender (.handoff p)).map RosterEntry.unaged = r.others.map RosterEntry.unaged := by
  have hfound : (e.station == sender) = true :=
    List.find?_some (p := fun x : RosterEntry => x.station == sender) he
  have hstation : ((RosterEntry.update (.handoff p) e).station == sender) = true := hfound
  have hupdated : r.updated sender (.handoff p) =
      changeFirst (fun x => x.station == sender) (RosterEntry.update (.handoff p)) r.others := by
    rw [Roster.updated, he]
  rw [hupdated]
  exact ⟨find?_changeFirst he hstation, map_changeFirst_found he (RosterEntry.update_handoff p e h)⟩

/-- The Roster once it has heard a HANDOFF of a station it has an entry for (R123, R133). -/
def Node.heardHandoff (sender : Nat) (p : HandoffPayload) (n : Node) : Node :=
  { n with
    roster.highest := learn n.roster.highest (some p.body.last)
    roster.others := n.roster.updated sender (.handoff p) }

/-- A HANDOFF heard changes nothing that the next one is taken by or awaited with. -/
theorem Node.heardHandoff_awaits {sender : Nat} (p : HandoffPayload) {n : Node}
    (h : n.Awaits sender) :
    (n.heardHandoff sender p).hand = n.hand ∧ (n.heardHandoff sender p).Awaits sender := by
  obtain ⟨⟨e, he, hpresent⟩, hchosen, hcalm, hown⟩ := h
  obtain ⟨hentry, hall⟩ := Roster.updated_handoff p he hpresent
  have hage := RosterEntry.update_handoff p e hpresent
  have hup : (n.heardHandoff sender p).chooseUpstream = n.chooseUpstream :=
    Node.chooseUpstream_congr rfl hall Iff.rfl
  exact ⟨rfl, ⟨_, hentry, (RosterEntry.of_unaged hage).1.trans hpresent⟩, hchosen.trans hup.symm,
    hcalm, hown⟩

/-- The Roster takes a HANDOFF of a station whose entry is PRESENT: no entry comes or goes, and the speed
reference alone is chosen again (R123, R129, R131). -/
theorem Node.rosterTake_handoff {sender : Nat} (p : HandoffPayload) {n : Node} (h : n.Awaits sender) :
    n.rosterTake sender (.handoff p) = (n.heardHandoff sender p).remakeReference := by
  obtain ⟨⟨e, he, hpresent⟩, hchosen, -, -⟩ := h
  obtain ⟨hentry, hall⟩ := Roster.updated_handoff p he hpresent
  obtain ⟨m, hm⟩ : ∃ m : Node,
      m = { n with roster.highest := learn n.roster.highest (some p.body.last) } := ⟨_, rfl⟩
  have hparts : m.roster.entry? sender = some e ∧ m.roster.upstream = m.chooseUpstream ∧
      m.roster.takes sender = true := by
    have htakes : n.roster.takes sender = true := by simp [Roster.takes, he]
    rw [hm]
    exact ⟨he, hchosen, htakes⟩
  obtain ⟨hme, hmc, htakes⟩ := hparts
  have htake : n.rosterTake sender (.handoff p) =
      if m.roster.takes sender then m.changeEntries sender (m.roster.updated sender (.handoff p))
      else m.fault .rosterFull := by
    rw [hm]
    rfl
  rw [htake, if_pos htakes, Node.changeEntries_unaged hme (by rw [hm]; exact hentry)
    (RosterEntry.update_handoff p e hpresent) (by rw [hm]; exact hall) hmc, hm]
  rfl

/-- The Roster's delivery of a HANDOFF (R123, R133). -/
theorem Node.deliverRoster_handoff {sender : Nat} (p : HandoffPayload) {n : Node}
    (h : n.Awaits sender) : (n.deliverRoster sender (.handoff p)).hand = n.hand ∧
      (n.deliverRoster sender (.handoff p)).Awaits sender := by
  obtain ⟨hheard, hawaits⟩ := Node.heardHandoff_awaits p h
  obtain ⟨hsame, hentry, hchosen, hcalm, hown⟩ := Node.remakeReference_awaits hawaits
  have hmild := Node.mild_of_calm hcalm
  rw [Node.deliverRoster, Node.rosterTake_handoff p h]
  exact ⟨(Node.finish_hand hmild hown).trans (hsame.trans hheard),
    Node.finish_awaits hmild hown hentry hchosen⟩

/-- Both deliveries, in either order (R137, log 4). -/
theorem Node.deliverGood_handoff {sender : Nat} (p : HandoffPayload) {n : Node}
    (h : n.Awaits sender) :
    HandoffTaken sender p (n.deliverGood sender (.handoff p)).hand n.hand := by
  have hspend : (n.spend 2).hand = n.hand ∧ (n.spend 2).Awaits sender := by
    obtain ⟨hentry, hchosen, hcalm, hown⟩ := h
    unfold Node.spend
    split
    · exact ⟨rfl, hentry, hchosen, hcalm, hown⟩
    · exact ⟨rfl, hentry, hchosen, hcalm, hown⟩
  obtain ⟨hhand, hs⟩ := hspend
  rw [← hhand]
  unfold Node.deliverGood
  split
  · obtain ⟨hroster, hr⟩ := Node.deliverRoster_handoff p hs
    rw [← hroster]
    exact (Node.deliverBlock_handoff p hr).1
  · obtain ⟨htaken, hb⟩ := Node.deliverBlock_handoff p hs
    rw [(Node.deliverRoster_handoff p hb).1]
    exact htaken

/-- A good frame of another station is delivered (R137). -/
theorem Node.receive_good {sender : Nat} {f : Frame} {n : Node} (hs : stationOk sender = true)
    (hf : frameOk f = true) (hr : n.receiving = true) (ho : sender ≠ n.config.station) :
    n.receive sender f = (n.lineIdle.report (CounterEvent.frameReceived 0)).deliverGood sender f := by
  simp [Node.receive, n.configured_of_receiving hr, hr, hs, hf, ho]

/-- Settles O32: the frame counted, then its two deliveries. -/
theorem handoffBecomesAnArrival : Obligations.HandoffBecomesAnArrival := by
  intro sender p s e hs hf hr ho he hpresent hchosen hquiet h l
  obtain ⟨m, hm⟩ : ∃ m : Node, m = s.node.lineIdle.report (CounterEvent.frameReceived 0) := ⟨_, rfl⟩
  have hhand : m.hand = s.node.hand := by
    rw [hm]
    simp [Node.hand, Node.isOrigin, Node.lineIdle]
  have hawaits : m.Awaits sender := by
    obtain ⟨hesc, hnone, hown⟩ := Node.of_quiet hquiet
    have hup : m.chooseUpstream = s.node.chooseUpstream :=
      Node.chooseUpstream_congr (by rw [hm]; simp [Node.lineIdle]) (by rw [hm]; simp [Node.lineIdle])
        (by rw [hm]; simp [Node.lineIdle])
    refine ⟨⟨e, ?_, hpresent⟩, ?_, ⟨?_, ?_⟩, ?_⟩
    · rw [hm]
      simpa using he
    · rw [hup, ← hchosen, hm]
      simp
    · rw [hm]
      simpa [Node.lineIdle] using hesc
    · rw [hm]
      simpa [Node.lineIdle] using hnone
    · rw [hm]
      simpa using hown
  have hexec : exec (.receiveHandoff sender p) s =
      .next { s with node := m.deliverGood sender (.handoff p) } :=
    State.act_eq (by rw [hm]; exact Node.receive_good hs hf hr ho)
  obtain ⟨hline, htracking, huntaken, hwaits, hfirst⟩ := hhand ▸ Node.deliverGood_handoff p hawaits
  exact ⟨_, hexec, rfl, hline, htracking, huntaken, hwaits, hfirst⟩

end Sys2Proof.Machine

/-! ### Own proposals that stand: what the Line State Unit goes by, and what leaves it (R96, R100, R101, R114) -/

namespace Sys2Proof.Machine

/-! #### The reading -/

/-- What the Line State Unit goes by: its own state, participation, and all that its hold reasons and the
action lines are made of (R96, R113, R117). -/
structure Bearing where
  config : ConfigRecord
  line : LineState
  participation : Participation
  prot : Protection
  marks : List SpanMark
  channels : Quad Channel
  source : LengthSource
  unfit : Bool
  escalation : BitVec 32

/-- The reading of a node as its Line State Unit goes by it. -/
def Node.bearing (n : Node) : Bearing :=
  { config := n.config, line := n.line, participation := n.bus.participation, prot := n.prot
    marks := n.marks.table, channels := n.sensor.channels, source := n.len.source
    unfit := n.lengthUnfit, escalation := n.faults.escalation }

/-- The same bearing means the same line state, ACTIVE alike, and the same escalation set. -/
theorem Node.line_of_bearing {m n : Node} (h : m.bearing = n.bearing) : m.line = n.line :=
  congrArg Bearing.line h

theorem Node.active_of_bearing {m n : Node} (h : m.bearing = n.bearing) : m.active = n.active :=
  congrArg (fun b : Bearing => decide (b.participation = .active)) h

theorem Node.escalation_of_bearing {m n : Node} (h : m.bearing = n.bearing) :
    m.faults.escalation = n.faults.escalation := congrArg Bearing.escalation h

/-- The hold reasons are a matter of the bearing (R96). -/
theorem Node.holdReasons_of_bearing {m n : Node} (h : m.bearing = n.bearing) (v : View) :
    m.holdReasons v = n.holdReasons v := by
  simp only [Node.bearing, Bearing.mk.injEq] at h
  obtain ⟨hc, hl, -, hp, -, -, -, hu, -⟩ := h
  have ha : m.actionHolds = n.actionHolds := by rw [Node.actionHolds, Node.actionHolds, hc, hp]
  rw [Node.holdReasons, Node.holdReasons, hl, hu, ha]

/-- Whether the lines follow is a matter of the bearing (R114). -/
theorem Node.linesFollow_of_bearing {m n : Node} (h : m.bearing = n.bearing) (hn : n.linesFollow) :
    m.linesFollow := by
  simp only [Node.bearing, Bearing.mk.injEq] at h
  obtain ⟨hc, hl, hp, hpr, hm, hch, hs, -, -⟩ := h
  exact Node.linesFollow_congr hc (by rw [hl]) hs hpr hm hch hp hn

/-- No hold reason of an own proposal holds (R100). -/
def Node.Unheld (n : Node) : Prop := ∀ o, n.line.own = some o → n.holdReasons o.target = []

theorem Node.unheld_of_own {n : Node} {o : OwnProposal} (ho : n.line.own = some o)
    (h : n.holdReasons o.target = []) : n.Unheld := fun o' ho' => by
  obtain rfl : o = o' := Option.some.inj (ho.symm.trans ho')
  exact h

theorem Node.unheld_of_none {n : Node} (ho : n.line.own = none) : n.Unheld := fun _ h =>
  absurd (ho.symm.trans h) (by simp)

theorem Node.unheld_of_bearing {m n : Node} (h : m.bearing = n.bearing) (hn : n.Unheld) : m.Unheld :=
  fun o ho => (Node.holdReasons_of_bearing h _).trans (hn o (Node.line_of_bearing h ▸ ho))

/-- Reports, notices, faults that wait and choices are no part of the bearing. -/
@[simp] theorem Node.followConditions_bearing (n : Node) : n.followConditions.bearing = n.bearing := by
  simp [Node.bearing, Node.lengthUnfit, Node.fallback, Node.lengthDerived, Node.usableSpeed]

@[simp] theorem Node.spend_bearing (k : Nat) (n : Node) : (n.spend k).bearing = n.bearing := by
  simp [Node.bearing, Node.lengthUnfit, Node.fallback, Node.lengthDerived, Node.usableSpeed]

@[simp] theorem Node.report_bearing (e : CounterEvent) (n : Node) :
    (n.report e).bearing = n.bearing := by
  simp [Node.bearing, Node.lengthUnfit, Node.fallback, Node.lengthDerived, Node.usableSpeed]

@[simp] theorem Node.lineIdle_bearing (n : Node) : n.lineIdle.bearing = n.bearing := rfl

/-- Where the lines follow, settling follows the conditions and looks at the own proposal (R100, R171). -/
theorem Node.settle_eq {n : Node} (hl : n.linesFollow) : n.settle = n.followConditions.denyOwn := by
  rw [Node.settle, (Node.linesFollow_of_bearing n.followConditions_bearing hl).2]

/-- An own proposal without a hold reason is left (R100). -/
theorem Node.settle_unheld {n : Node} (hl : n.linesFollow) (hu : n.Unheld) :
    n.settle = n.followConditions := by
  have hf := Node.unheld_of_bearing n.followConditions_bearing hu
  rw [Node.settle_eq hl]
  cases ho : n.followConditions.line.own with
  | none => exact Node.denyOwn_none _ ho
  | some o => exact Node.denyOwn_unheld _ o ho (hf o ho)

/-! #### The end of an own proposal -/

/-- An own proposal ends: its outcome and PROPOSAL_RESULT (R103). -/
theorem Node.endOwn_ends (e : ProposalEnd) {n : Node} {o : OwnProposal} (ho : n.line.own = some o) :
    (n.endOwn e).line =
      { n.line with own := none, lastOutcome := some { id := o.id, outcome := e } } ∧
    (n.endOwn e).noticed Notice.proposalResult = true := by
  have he : n.endOwn e = Node.report (CounterEvent.proposalResult e.qualifier)
      (Node.notice Notice.proposalResult
        { n with line.own := none, line.lastOutcome := some { id := o.id, outcome := e } }) := by
    rw [Node.endOwn, ho]
  rw [he]
  exact ⟨by simp, (Node.addCounters_reports _ _).2.2 _ (Node.noticed_notice_same _ _ (by decide))⟩

/-- It ends and its PROPOSE is withdrawn (R100, R101). -/
theorem Node.endAndWithdraw_ends (e : ProposalEnd) {n : Node} {o : OwnProposal}
    (ho : n.line.own = some o) :
    (n.endAndWithdraw e).line =
      { n.line with own := none, lastOutcome := some { id := o.id, outcome := e } } ∧
    (n.endAndWithdraw e).noticed Notice.proposalResult = true ∧
    (n.endAndWithdraw e).bus = { n.bus with queue := withdrawPropose n.bus.queue } := by
  have he : n.endAndWithdraw e = Node.endOwn e { n with bus.queue := withdrawPropose n.bus.queue } :=
    if_pos (by simp [ho])
  obtain ⟨hl, hn⟩ := Node.endOwn_ends (n := { n with bus.queue := withdrawPropose n.bus.queue }) e ho
  rw [he]
  exact ⟨hl, hn, by simp⟩

/-- One hold reason that has come to hold ends the own proposal (R100). -/
theorem Node.denyOwn_one {n : Node} {o : OwnProposal} {r : HoldReason} (ho : n.line.own = some o)
    (h : n.holdReasons o.target = [r]) :
    n.denyOwn = n.endAndWithdraw (.denied r n.config.station) := by
  simp [Node.denyOwn, ho, h, Node.choice, Node.spend]

end Sys2Proof.Machine

/-! ### SET_HOLD, CLEAR_HOLD and ACK_TRIP (R100, R104, R105) -/

namespace Sys2Proof.Machine

/-- A hold set is the one reason where there was none (R104). -/
theorem Node.holdReasons_hold {n : Node} {v : View} (h : n.holdReasons v = []) :
    ({ n with line.hold := true } : Node).holdReasons v = [.localHold] := by
  simp only [Node.holdReasons, List.append_eq_nil_iff] at h
  obtain ⟨⟨⟨htrip, -⟩, hlength⟩, haction⟩ := h
  calc ({ n with line.hold := true } : Node).holdReasons v
      = (if v = .standstill ∧ n.line.tripUnack = true then [.tripUnacknowledged] else []) ++
          [.localHold] ++ (if n.lengthUnfit then [.length] else []) ++
          (if n.actionHolds then [.action] else []) := rfl
    _ = [.localHold] := by rw [htrip, hlength, haction]; rfl

/-- A hold set while an own proposal is open, for which no other reason holds, ends it (R100, R104). -/
theorem Node.setHold_denies {n : Node} {o : OwnProposal} (hh : n.line.hold = false) (hc : n.calm)
    (hl : n.linesFollow) (ho : n.line.own = some o) (hr : n.holdReasons o.target = []) :
    n.setHold.line = { n.line with
      hold := true, own := none
      lastOutcome := some { id := o.id, outcome := .denied .localHold n.config.station } } := by
  obtain ⟨m, hm⟩ : ∃ m : Node, m = { n with line.hold := true } := ⟨_, rfl⟩
  have hlines : m.linesFollow := by
    rw [hm]
    exact Node.linesFollow_congr (n := n) rfl rfl rfl rfl rfl rfl rfl hl
  have hreason : m.followConditions.holdReasons o.target = [.localHold] :=
    (Node.holdReasons_of_bearing m.followConditions_bearing _).trans (hm ▸ Node.holdReasons_hold hr)
  have hown : m.followConditions.line.own = some o := by
    rw [hm]
    simpa using ho
  have hset : n.setHold = m.finish.done [] := by
    rw [hm]
    exact if_neg (by simp [hh])
  have hfinish : m.finish = m.followConditions.endAndWithdraw (.denied .localHold n.config.station) := by
    rw [Node.finish_nil m (by rw [hm]; exact hc.2), Node.settle_eq hlines, Node.denyOwn_one hown hreason,
      hm]
    simp
  rw [hset, hfinish]
  refine (Node.endAndWithdraw_ends _ hown).1.trans ?_
  rw [hm]
  simp

/-- Settles O41: each request by the flag it meets; a quiet part is done with a hold as it is. -/
theorem holdAndAcknowledge : Obligations.HoldAndAcknowledge := by
  intro s hu
  have hreq : ∀ {act : Node → Node} {m}, act s.node = m →
      s.act (Node.request 0 [] (Node.whenConfigured act)) = .next { s with node := m } := fun h =>
    State.act_eq ((Node.request_configured _ (s.node.configured_eq_true.2 hu) rfl).trans h)
  refine ⟨fun hh => hreq (if_pos hh), fun hh hq => hreq ?_, fun o hh hc hl ho hr => ?_,
    fun hh => hreq (if_pos hh), fun hh => hreq (if_neg (by simp [hh])), fun ht => hreq (if_pos ht),
    fun ht => hreq (if_neg (by simp [ht]))⟩
  · obtain ⟨-, hr, ho⟩ := Node.of_quiet hq
    have hdone : ({ s.node with line.hold := true } : Node).finish = _ := Node.finish_still hq rfl ho hr
    rw [Node.setHold, if_neg (by simp [hh]), hdone]
    rfl
  · have hline := Node.setHold_denies hh hc hl ho hr
    exact ⟨_, hreq rfl, by rw [hline], by rw [hline], by rw [hline]⟩

end Sys2Proof.Machine
/-! ### What faults and the Roster's part of a frame leave of the agreement (R123, R127 to R131, R139, R183) -/

namespace Sys2Proof.Machine

/-! #### The relation -/

/-- `m` is `n` as its Line State Unit goes by it, but for notices that are set and at most `k` FAULT frames
behind the queue, none of them where the station is not ACTIVE (R139, R181, R183). -/
structure Node.Undisturbed (k : Nat) (m n : Node) : Prop where
  bearing : m.bearing = n.bearing
  notices : m.keepsNotices n
  queue : ∃ frames, FaultFrames frames ∧ frames.length ≤ k ∧ m.bus.queue = n.bus.queue ++ frames
  silent : n.active = false → m.bus.queue = n.bus.queue

/-- An update that leaves the bearing and the queue and clears no notice. -/
theorem Node.undisturbed_of {m n : Node} (k : Nat) (hb : m.bearing = n.bearing)
    (hn : m.keepsNotices n) (hq : m.bus.queue = n.bus.queue) : m.Undisturbed k n :=
  ⟨hb, hn, ⟨[], faultFrames_nil, Nat.zero_le k, by rw [hq, List.append_nil]⟩, fun _ => hq⟩

theorem Node.Undisturbed.trans {i j : Nat} {l m n : Node} (h : l.Undisturbed i m)
    (g : m.Undisturbed j n) : l.Undisturbed (j + i) n := by
  obtain ⟨f1, hf1, hk1, hq1⟩ := h.queue
  obtain ⟨f2, hf2, hk2, hq2⟩ := g.queue
  refine ⟨h.bearing.trans g.bearing, Node.keepsNotices_trans h.notices g.notices,
    ⟨f2 ++ f1, faultFrames_append hf2 hf1, ?_, by rw [hq1, hq2, List.append_assoc]⟩, fun ha => ?_⟩
  · rw [List.length_append]
    omega
  · exact (h.silent ((Node.active_of_bearing g.bearing).trans ha)).trans (g.silent ha)

/-- Frames that wait stay (R139). -/
theorem Node.Undisturbed.mem {k : Nat} {m n : Node} (h : m.Undisturbed k n) {q : QueuedFrame}
    (hq : q ∈ n.bus.queue) : q ∈ m.bus.queue := by
  obtain ⟨frames, -, -, he⟩ := h.queue
  rw [he]
  exact List.mem_append_left _ hq

/-- No PROPOSE joins (R183). -/
theorem Node.Undisturbed.proposes {k : Nat} {m n : Node} (h : m.Undisturbed k n) {q : QueuedFrame}
    (hq : q ∈ m.bus.queue) (hp : q.isPropose = true) : q ∈ n.bus.queue := by
  obtain ⟨frames, hf, -, he⟩ := h.queue
  rw [he] at hq
  rcases List.mem_append.1 hq with hold | hnew
  · exact hold
  · obtain ⟨p, rfl⟩ := hf q hnew
    cases hp

/-- At most `k` frames join. -/
theorem Node.Undisturbed.length {k : Nat} {m n : Node} (h : m.Undisturbed k n) :
    m.bus.queue.length ≤ n.bus.queue.length + k := by
  obtain ⟨frames, -, hk, he⟩ := h.queue
  rw [he, List.length_append]
  omega

/-- Line state and hold reasons stand, and it is ACTIVE or not as before. -/
theorem Node.Undisturbed.line {k : Nat} {m n : Node} (h : m.Undisturbed k n) : m.line = n.line :=
  Node.line_of_bearing h.bearing

theorem Node.Undisturbed.active {k : Nat} {m n : Node} (h : m.Undisturbed k n) :
    m.active = n.active := Node.active_of_bearing h.bearing

theorem Node.Undisturbed.same {k : Nat} {m n : Node} (h : m.Undisturbed k n) :
    m.line = n.line ∧ m.active = n.active ∧ ∀ v, m.holdReasons v = n.holdReasons v :=
  ⟨h.line, h.active, Node.holdReasons_of_bearing h.bearing⟩

/-- An undisturbed calm station with no fault waiting is calm. -/
theorem Node.Undisturbed.calm {k : Nat} {m n : Node} (h : m.Undisturbed k n) (hc : n.calm)
    (hr : m.faults.reported = []) : m.calm :=
  ⟨(Node.escalation_of_bearing h.bearing).trans hc.1, hr⟩

/-! #### Faults taken (R139, R140, R183) -/

/-- One FAULT frame at most joins the queue. -/
theorem Node.offerFault_length (p : FaultPayload) (n : Node) :
    (n.offer (.fault p)).bus.queue.length ≤ n.bus.queue.length + 1 := by
  unfold Node.offer
  split
  · simp
  · split
    · rw [n.offerToFull_low (.fault p) (Nat.le_succ 2)]
      simp
    · simp [Node.joinQueue]

/-- A fault counted and reported makes one frame at most, and none where `frames` does not allow it. -/
theorem Node.reportFault_length (frames : Bool) (c : FaultClass) (k : FaultKind) (n : Node) :
    ((n.countFault k).reportClass frames c k).bus.queue.length ≤
      n.bus.queue.length + if frames then 1 else 0 := by
  obtain ⟨-, -, hb⟩ := (n.countFault k).faultNotice_upToFaults c
  have hn : ((n.countFault k).faultNotice c).bus = n.bus := hb
  unfold Node.reportClass
  dsimp only
  split
  · rename_i h
    simp only [Bool.and_eq_true] at h
    obtain ⟨⟨hfr, -⟩, -⟩ := h
    rw [if_pos hfr, ← hn]
    exact Node.offerFault_length _ _
  · rw [hn]
    exact Nat.le_add_right _ _

/-- A turn of the Fault Unit makes at most `k` frames for each fault where each fault taken does. -/
theorem Node.takeReported_length {k : Nat} {take : Node → FaultReport → Node}
    (ht : ∀ n r, n.mild → mildKind r.kind = true →
      (take n r).mild ∧ (take n r).bus.queue.length ≤ n.bus.queue.length + k)
    {n : Node} (h : n.mild) : (n.takeReported take).mild ∧
      (n.takeReported take).bus.queue.length ≤
        n.bus.queue.length + n.faults.reported.length * k := by
  have hfold : ∀ (l : List FaultReport) (m : Node), (∀ r ∈ l, mildKind r.kind = true) → m.mild →
      (l.foldl take m).mild ∧
      (l.foldl take m).bus.queue.length ≤ m.bus.queue.length + l.length * k := by
    intro l
    induction l with
    | nil => exact fun m _ hm => ⟨hm, Nat.le_add_right _ _⟩
    | cons r l ih =>
      intro m hl hm
      obtain ⟨hm1, hone⟩ := ht m r hm (hl r List.mem_cons_self)
      obtain ⟨hm2, hrest⟩ := ih _ (fun q hq => hl q (List.mem_cons_of_mem _ hq)) hm1
      refine ⟨hm2, ?_⟩
      rw [List.length_cons, Nat.succ_mul]
      exact hrest.trans (by omega)
  have hlength : (n.inOrder n.faults.reported).length = n.faults.reported.length :=
    (permute_perm _ _ _).length_eq
  have hbase : (Node.spendOrder n.faults.reported.length { n with faults.reported := [] }).mild :=
    ⟨h.1, fun r hr => absurd hr List.not_mem_nil⟩
  have hall := hfold (n.inOrder n.faults.reported) _
    (fun r hr => h.2 r (mem_permute _ _ _ _ hr)) hbase
  rw [hlength] at hall
  exact hall

/-- Mild faults taken make at most one frame for each that waited: those that follow make none. -/
theorem Node.takeFaults_length {n : Node} (h : n.mild) :
    n.takeFaults.bus.queue.length ≤ n.bus.queue.length + n.faults.reported.length := by
  have hturn : ∀ (frames : Bool) (m : Node) (r : FaultReport), m.mild →
      ((m.countFault r.kind).reportClass frames (m.faultClass r.kind) r.kind).mild :=
    fun frames m r => (Node.takeMild_kept frames r m).2
  unfold Node.takeFaults
  split
  · exact Nat.le_add_right _ _
  · obtain ⟨h1, l1⟩ := Node.takeReported_length (k := 1) (take := Node.takeFault) (fun m r hm hk => by
      obtain ⟨htake, -, -⟩ := m.take_mild_eq r hm hk
      rw [htake]
      refine ⟨hturn _ m r hm, (Node.reportFault_length _ _ _ m).trans ?_⟩
      split <;> omega) h
    obtain ⟨h2, l2⟩ := Node.takeReported_length (k := 0) (take := Node.takeFollowing)
      (fun m r hm hk => by
        obtain ⟨-, htake, -⟩ := m.take_mild_eq r hm hk
        rw [htake]
        exact ⟨hturn _ m r hm, Node.reportFault_length false _ _ m⟩) h1
    obtain ⟨-, l3⟩ := Node.takeReported_length (k := 0) (take := Node.takeCounted)
      (fun m r hm hk => by
        obtain ⟨-, -, htake⟩ := m.take_mild_eq r hm hk
        rw [htake]
        exact ⟨hturn _ m r hm, Node.reportFault_length false _ _ m⟩) h2
    dsimp only
    omega

/-- Mild faults taken disturb no agreement. -/
theorem Node.takeFaults_undisturbed {n : Node} (h : n.mild) :
    n.takeFaults.Undisturbed n.faults.reported.length n := by
  obtain ⟨⟨frames, hf, he⟩, hn⟩ := Node.takeFaults_upToFaults h
  have hq : n.takeFaults.bus.queue = n.bus.queue ++ frames := by rw [he]
  have hlength := Node.takeFaults_length h
  rw [hq, List.length_append] at hlength
  refine ⟨by rw [he]; rfl, hn, ⟨frames, hf, by omega, hq⟩, fun ha => ?_⟩
  rw [Node.takeFaults_bus h ha]

/-- Settling disturbs no agreement where the lines follow and no hold reason holds (R100, R114, R171). -/
theorem Node.settle_undisturbed {n : Node} (hl : n.linesFollow) (hu : n.Unheld) :
    n.settle.Undisturbed 0 n := by
  rw [Node.settle_unheld hl hu]
  exact Node.undisturbed_of 0 n.followConditions_bearing n.followConditions_reports.2.2 (by simp)

theorem Node.spend_undisturbed (k : Nat) (n : Node) : (n.spend k).Undisturbed 0 n :=
  Node.undisturbed_of 0 (n.spend_bearing k) (n.spend_keepsNotices k) (by simp)

/-- A block done with an event whose faults are mild disturbs no agreement, whichever of the faults and the
hold reasons comes first (R100, R183, log 4). -/
theorem Node.finish_undisturbed {n : Node} (h : n.mild) (hl : n.linesFollow) (hu : n.Unheld) :
    n.finish.Undisturbed n.faults.reported.length n := by
  have hfaults : ∀ m : Node, m.Undisturbed 0 n → m.faults = n.faults →
      m.takeFaults.settle.Undisturbed n.faults.reported.length n := by
    intro m hm hf
    have hmild : m.mild := by
      unfold Node.mild
      rw [hf]
      exact h
    have ht := (Node.takeFaults_undisturbed hmild).trans hm
    have hs := (Node.settle_undisturbed (Node.linesFollow_of_bearing ht.bearing hl)
      (Node.unheld_of_bearing ht.bearing hu)).trans ht
    rwa [hf, Nat.zero_add, Nat.add_zero] at hs
  have hspend := n.spend_undisturbed 2
  unfold Node.finish
  split
  · split
    · exact hfaults _ hspend (by simp)
    · refine hfaults _ ?_ (by simp)
      exact (Node.settle_undisturbed (Node.linesFollow_of_bearing hspend.bearing hl)
        (Node.unheld_of_bearing hspend.bearing hu)).trans hspend
  · exact hfaults n (Node.undisturbed_of 0 rfl (fun _ hi => hi) rfl) rfl

/-! #### The Roster's entries (R123, R127 to R131) -/

/-- The sender's entry as a frame leaves it. -/
def Roster.entryAfter (sender : Nat) (f : Frame) (r : Roster) : RosterEntry :=
  RosterEntry.update f ((r.entry? sender).getD (RosterEntry.blank sender))

/-- A frame updates the sender's entry and leaves the others (R123). -/
theorem Roster.mem_updated {sender : Nat} {f : Frame} {r : Roster} {x : RosterEntry}
    (h : x ∈ r.updated sender f) : x ∈ r.others ∨ x = r.entryAfter sender f := by
  have hchange : ∀ l : List RosterEntry, ∀ e, l.find? (fun e => e.station == sender) = some e →
      x ∈ changeFirst (fun e => e.station == sender) (RosterEntry.update f) l →
      x ∈ l ∨ x = RosterEntry.update f e := by
    intro l
    induction l with
    | nil => exact fun e he => absurd he (by simp)
    | cons a l ih =>
      intro e he hx
      unfold changeFirst at hx
      by_cases ha : (a.station == sender) = true
      · rw [List.find?_cons_of_pos (p := fun e : RosterEntry => e.station == sender) ha,
          Option.some.injEq] at he
        rw [if_pos ha, he] at hx
        exact (List.mem_cons.1 hx).symm.imp (List.mem_cons_of_mem _) id
      · rw [List.find?_cons_of_neg (p := fun e : RosterEntry => e.station == sender) ha] at he
        rw [if_neg ha] at hx
        rcases List.mem_cons.1 hx with hx | hx
        · exact .inl (hx ▸ List.mem_cons_self)
        · exact (ih e he hx).imp (List.mem_cons_of_mem _) id
  unfold Roster.updated at h
  unfold Roster.entryAfter
  cases he : r.entry? sender with
  | some e =>
    rw [he] at h
    exact hchange r.others e he h
  | none =>
    rw [he] at h
    exact (List.mem_append.1 h).imp id List.mem_singleton.1

/-- The entry that a frame leaves is the sender's. -/
theorem Roster.entryAfter_station (sender : Nat) (f : Frame) (r : Roster) :
    (r.entryAfter sender f).station = sender := by
  have hupdate : ∀ e : RosterEntry, (RosterEntry.update f e).station = e.station := by
    intro e
    unfold RosterEntry.update
    split <;> rfl
  unfold Roster.entryAfter
  rw [hupdate]
  cases he : r.entry? sender with
  | none => rfl
  | some e => exact eq_of_beq (List.find?_some (p := fun x : RosterEntry => x.station == sender) he)

/-- The frame of the sender makes no creel condition true (R128). -/
def Node.KeepsCreel (sender : Nat) (f : Frame) (n : Node) : Prop :=
  n.isOrigin = true → RosterEntry.creel n.config.station (n.roster.entryAfter sender f) = true →
    n.creel = true

/-- The frame of the sender disturbs no agreement: it makes no creel condition true, and in DERIVED the
speed reference is as the entries make it, of which the sender's changes in its age alone (R12, R128). -/
structure Node.HearsCalmly (sender : Nat) (f : Frame) (n : Node) : Prop where
  creel : n.KeepsCreel sender f
  fit : n.len.source = .encoder ∨ (n.roster.reference = n.chooseReference ∧
    ∃ e, n.roster.entry? sender = some e ∧ (RosterEntry.update f e).unaged = e.unaged)

/-- Both are a matter of the record, the Roster and the length source. -/
theorem Node.KeepsCreel.congr {sender : Nat} {f : Frame} {m n : Node} (h : n.KeepsCreel sender f)
    (hc : m.config = n.config) (hr : m.roster = n.roster) : m.KeepsCreel sender f := by
  simpa only [Node.KeepsCreel, Node.creel, Node.isOrigin, hc, hr] using h

theorem Node.HearsCalmly.congr {sender : Nat} {f : Frame} {m n : Node} (h : n.HearsCalmly sender f)
    (hc : m.config = n.config) (hr : m.roster = n.roster) (hs : m.len.source = n.len.source) :
    m.HearsCalmly sender f := by
  refine ⟨h.creel.congr hc hr, ?_⟩
  rw [hs, hr, Node.chooseReference_congr hc (by rw [hr])]
  exact h.fit

/-- The node with the frame in its entries, before they are tested. -/
def Node.noted (sender : Nat) (f : Frame) (n : Node) : Node :=
  { n with
    roster.highest := learn n.roster.highest (Frame.newestNumber f)
    roster.others := n.roster.updated sender f }

/-- The node with the entries changed and the choices made again, before the creel condition is tested. -/
def Node.entered (sender : Nat) (f : Frame) (n : Node) : Node :=
  (((n.noted sender f).testOrder (n.roster.entry? sender)
    ((n.noted sender f).roster.entry? sender)).testLost (n.roster.entry? sender)
    ((n.noted sender f).roster.entry? sender)).remakeChoices

/-- The Roster takes a frame it has an entry or room for: the entries, then the creel condition (R123). -/
theorem Node.rosterTake_takes {sender : Nat} {n : Node} (f : Frame) (h : n.roster.takes sender = true) :
    n.rosterTake sender f = (n.entered sender f).testCreel n.creel := if_pos h

/-- Without room the frame is a ROSTER_FULL (R123). -/
theorem Node.rosterTake_full {sender : Nat} {n : Node} (f : Frame)
    (h : n.roster.takes sender ≠ true) : n.rosterTake sender f =
      Node.fault .rosterFull
        { n with roster.highest := learn n.roster.highest (Frame.newestNumber f) } := if_neg h

/-- An entry in order conflict is PRESENT, so it has not been lost (R127, R130). -/
theorem Node.testLost_conflict {before after : Option RosterEntry} {order : Nat} (n : Node)
    (h : after.any (RosterEntry.conflict order) = true) : n.testLost before after = n := by
  cases after with
  | none => cases h
  | some a =>
    have hp : a.present = true := by
      simp only [Option.any_some, RosterEntry.conflict, Bool.and_eq_true] at h
      exact h.1
    cases before with
    | none => rfl
    | some b => simp [Node.testLost, hp]

/-- The tests of an entry report one fault at most, a mild one (R127, R130). -/
theorem Node.testEntry_eq (before after : Option RosterEntry) (n : Node) :
    ∃ l : List FaultReport, l.length ≤ 1 ∧ (∀ r ∈ l, mildKind r.kind = true) ∧
      (n.testOrder before after).testLost before after = n.withFaults l := by
  have hone : ∀ k, mildKind k = true → ∃ l : List FaultReport, l.length ≤ 1 ∧
      (∀ r ∈ l, mildKind r.kind = true) ∧ n.fault k = n.withFaults l := fun k hk =>
    ⟨[{ kind := k, silent := false }], Nat.le_refl 1,
      fun r hr => by rwa [List.mem_singleton.1 hr], rfl⟩
  have hnone : ∃ l : List FaultReport, l.length ≤ 1 ∧ (∀ r ∈ l, mildKind r.kind = true) ∧
      n = n.withFaults l := ⟨[], Nat.zero_le 1, by simp, n.withFaults_nil.symm⟩
  by_cases hc : after.any (RosterEntry.conflict n.config.order) = true
  · rw [Node.testLost_conflict _ hc]
    unfold Node.testOrder
    split
    · exact hone .orderConflict rfl
    · exact hnone
  · have horder : n.testOrder before after = n := if_neg (by simp [hc])
    rw [horder]
    unfold Node.testLost
    split
    · split
      · exact hone .neighbourLost rfl
      · exact hnone
    · exact hnone

/-- What a node is when a frame has changed its entries: the Roster, the neighbour in force, the reference
speed, notices and the faults that wait may differ, of which one mild one may be new (R123, R127 to
R131). -/
structure Node.Entered (m n : Node) : Prop where
  kept : m = { n with
    len.reference := m.len.reference
    len.absenceTimer := m.len.absenceTimer
    handover := m.handover
    roster := m.roster
    port.notices := m.port.notices
    faults.reported := m.faults.reported }
  notices : m.keepsNotices n
  reported : m.faults.reported.length ≤ n.faults.reported.length + 1
  mild : n.mild → m.mild

theorem Node.entered_entered (sender : Nat) (f : Frame) (n : Node) : (n.entered sender f).Entered n := by
  obtain ⟨l, hone, hl, he⟩ := (n.noted sender f).testEntry_eq (n.roster.entry? sender)
    ((n.noted sender f).roster.entry? sender)
  have hr := ((n.noted sender f).withFaults l).remakeChoices_eq
  have hn := ((n.noted sender f).withFaults l).remakeChoices_keepsNotices
  unfold Node.entered
  rw [he]
  generalize ((n.noted sender f).withFaults l).remakeChoices = m at hr hn
  have hreported : m.faults.reported = n.faults.reported ++ l := by rw [hr]; rfl
  refine ⟨by rw [hr]; rfl, hn, ?_, fun h => ⟨by rw [hr]; exact h.1, fun r hm => ?_⟩⟩
  · rw [hreported, List.length_append]
    omega
  · rw [hreported] at hm
    exact (List.mem_append.1 hm).elim (h.2 r) (hl r)

/-- The speed reference made again is as the entries make it (R131). -/
theorem Node.remakeChoices_reference (n : Node) :
    n.remakeChoices.roster.reference = n.chooseReference := by
  unfold Node.remakeChoices Node.remakeReference Node.refreshReference Node.remakeUpstream
  split <;> split <;> rfl

/-- The entries are those that the frame leaves, and the speed reference is as they make it (R123, R131). -/
theorem Node.entered_roster (sender : Nat) (f : Frame) (n : Node) :
    (n.entered sender f).roster.others = n.roster.updated sender f ∧
    (n.entered sender f).roster.reference = (n.noted sender f).chooseReference := by
  obtain ⟨l, -, -, he⟩ := (n.noted sender f).testEntry_eq (n.roster.entry? sender)
    ((n.noted sender f).roster.entry? sender)
  unfold Node.entered
  rw [he, Node.remakeChoices_reference, Node.remakeChoices_eq]
  exact ⟨rfl, rfl⟩

/-- An entry changed in its age alone (R123). -/
theorem Roster.updated_unaged {sender : Nat} {f : Frame} {e : RosterEntry} {r : Roster}
    (he : r.entry? sender = some e) (h : (RosterEntry.update f e).unaged = e.unaged) :
    (r.updated sender f).map RosterEntry.unaged = r.others.map RosterEntry.unaged := by
  rw [Roster.updated, he]
  exact map_changeFirst_found he h

/-- The usable speed reads the record, the reference and the entries but for their ages (R10). -/
theorem Node.usableSpeed_congr {m n : Node} (hc : m.config = n.config)
    (hr : m.roster.reference = n.roster.reference)
    (ho : m.roster.others.map RosterEntry.unaged = n.roster.others.map RosterEntry.unaged) :
    m.usableSpeed = n.usableSpeed := by
  have hentry : ∀ s, (m.roster.entry? s).map RosterEntry.unaged =
      (n.roster.entry? s).map RosterEntry.unaged := by
    have hfind : ∀ (k : Node) s, (k.roster.entry? s).map RosterEntry.unaged =
        (k.roster.others.map RosterEntry.unaged).find? fun e => e.station == s := by
      intro k s
      rw [List.find?_map]
      rfl
    intro s
    rw [hfind, hfind, ho]
  unfold Node.usableSpeed
  rw [hr, hc]
  cases n.roster.reference with
  | none => rfl
  | some s =>
    have hs := hentry s
    dsimp only
    split
    · rfl
    · cases hm : m.roster.entry? s with
      | none =>
        rw [hm] at hs
        rw [Option.map_eq_none_iff.1 hs.symm]
      | some a =>
        rw [hm] at hs
        obtain ⟨b, hb, hage⟩ := Option.map_eq_some_iff.1 hs.symm
        have hpresent : a.present = b.present := (RosterEntry.of_unaged hage).1.symm
        have hspeed : a.speed = b.speed := (congrArg RosterEntry.speed hage).symm
        rw [hb]
        simp only [hpresent, hspeed]

/-- A frame that is heard calmly leaves the fitness of the length (R12). -/
theorem Node.entered_fit {sender : Nat} {f : Frame} {n : Node} (h : n.HearsCalmly sender f) :
    (n.entered sender f).lengthUnfit = n.lengthUnfit := by
  obtain ⟨hothers, href⟩ := n.entered_roster sender f
  have hkept := (n.entered_entered sender f).kept
  generalize n.entered sender f = m at hothers href hkept
  have hconfig : m.config = n.config := by rw [hkept]
  have hlen : m.len.stalled = n.len.stalled ∧ m.len.source = n.len.source := by
    rw [hkept]
    exact ⟨rfl, rfl⟩
  unfold Node.lengthUnfit Node.fallback Node.lengthDerived
  rw [hconfig, hlen.1, hlen.2]
  rcases h.fit with hs | ⟨hchosen, e, he, hage⟩
  · simp [hs]
  · have hall := Roster.updated_unaged he hage
    have hsame : m.roster.reference = n.roster.reference := by
      rw [href, hchosen]
      exact Node.chooseReference_congr rfl hall
    rw [Node.usableSpeed_congr hconfig hsame (by rw [hothers, hall])]

/-- A frame that is heard calmly leaves the bearing when its entry has changed. -/
theorem Node.entered_undisturbed {sender : Nat} {f : Frame} {n : Node} (h : n.HearsCalmly sender f) :
    (n.entered sender f).Undisturbed 0 n := by
  obtain ⟨hkept, hnotices, -, -⟩ := n.entered_entered sender f
  have hfit := Node.entered_fit h
  generalize n.entered sender f = m at hkept hnotices hfit
  have hbearing : m.bearing = { n.bearing with unfit := m.lengthUnfit } := by
    rw [hkept]
    rfl
  refine Node.undisturbed_of 0 ?_ hnotices (by rw [hkept])
  rw [hbearing, hfit]
  rfl

/-- A frame that keeps the creel condition does so when its entry has changed (R128). -/
theorem Node.entered_creel {sender : Nat} {f : Frame} {n : Node} (h : n.KeepsCreel sender f)
    (hm : (n.entered sender f).creel = true) : n.creel = true := by
  obtain ⟨hothers, -⟩ := n.entered_roster sender f
  have hconfig : (n.entered sender f).config = n.config := by
    rw [(n.entered_entered sender f).kept]
  simp only [Node.creel, Node.isOrigin, hconfig, hothers, Bool.and_eq_true] at hm
  obtain ⟨horigin, hany⟩ := hm
  obtain ⟨x, hx, hcreel⟩ := List.any_eq_true.1 hany
  rcases Roster.mem_updated hx with hold | rfl
  · exact Bool.and_eq_true_iff.2 ⟨horigin, List.any_eq_true.2 ⟨x, hold, hcreel⟩⟩
  · exact h horigin hcreel

/-- Where the creel condition is kept no conflict is recorded (R128). -/
theorem Node.rosterTake_entered {sender : Nat} {f : Frame} {n : Node} (h : n.KeepsCreel sender f)
    (ht : n.roster.takes sender = true) : n.rosterTake sender f = n.entered sender f := by
  rw [Node.rosterTake_takes f ht]
  refine if_neg ?_
  cases hc : (n.entered sender f).creel with
  | false => simp
  | true => simp [Node.entered_creel h hc]

/-- The Roster takes a frame that is heard calmly: one mild fault at most (R123, R127, R130). -/
theorem Node.rosterTake_undisturbed {sender : Nat} {f : Frame} {n : Node}
    (h : n.HearsCalmly sender f) : (n.rosterTake sender f).Undisturbed 0 n ∧
      (n.rosterTake sender f).faults.reported.length ≤ n.faults.reported.length + 1 ∧
      (n.mild → (n.rosterTake sender f).mild) := by
  by_cases ht : n.roster.takes sender = true
  · obtain ⟨-, -, hreported, hmild⟩ := n.entered_entered sender f
    rw [Node.rosterTake_entered h.creel ht]
    exact ⟨Node.entered_undisturbed h, hreported, hmild⟩
  · rw [Node.rosterTake_full f ht]
    refine ⟨Node.undisturbed_of 0 rfl (fun _ hi => hi) rfl, by simp, fun hm => ⟨hm.1, fun r hr => ?_⟩⟩
    rcases List.mem_append.1 hr with hr | hr
    · exact hm.2 r hr
    · rw [List.mem_singleton.1 hr]
      rfl

/-- The Roster's part of the delivery of a frame that is heard calmly (R123, R137). -/
theorem Node.deliverRoster_undisturbed {sender : Nat} {f : Frame} {n : Node} (hc : n.calm)
    (hl : n.linesFollow) (hu : n.Unheld) (h : n.HearsCalmly sender f) :
    (n.deliverRoster sender f).Undisturbed 1 n := by
  obtain ⟨htake, hone, hmild⟩ := Node.rosterTake_undisturbed h
  have hfin := Node.finish_undisturbed (hmild (Node.mild_of_calm hc))
    (Node.linesFollow_of_bearing htake.bearing hl) (Node.unheld_of_bearing htake.bearing hu)
  obtain ⟨hb, hn, ⟨frames, hf, hk, hq⟩, hs⟩ := hfin.trans htake
  rw [hc.2, List.length_nil] at hone
  exact ⟨hb, hn, ⟨frames, hf, by omega, hq⟩, hs⟩

/-! #### A frame delivered (R137, log 4) -/

/-- A change of view reported leaves the Roster and clears no notice (R87, R181). -/
theorem Node.viewReported_roster (before after : View) (number : Nat) (n : Node) :
    (n.viewReported before after number).roster = n.roster ∧
    (n.viewReported before after number).keepsNotices n := by
  have hstall : ∀ m : Node, (m.stallOnView before after).roster = m.roster ∧
      (m.stallOnView before after).port = m.port := by
    intro m
    unfold Node.stallOnView
    split <;> exact ⟨rfl, rfl⟩
  have htimer : ∀ m : Node, (m.timerOnView before after).roster = m.roster ∧
      (m.timerOnView before after).port = m.port := by
    intro m
    have hdwell : m.claimDwell.roster = m.roster ∧ m.claimDwell.port = m.port := by
      unfold Node.claimDwell
      split <;> exact ⟨rfl, rfl⟩
    unfold Node.timerOnView
    split
    · exact ⟨rfl, rfl⟩
    · split
      · split <;> exact ⟨rfl, rfl⟩
      · split
        · exact hdwell
        · exact ⟨rfl, rfl⟩
  have hmarks : ∀ m : Node, (m.marksOnView before after number).roster = m.roster ∧
      (m.marksOnView before after number).keepsNotices m := by
    intro m
    have hopen : ∀ k, (m.openSpan k number).roster = m.roster ∧ (m.openSpan k number).keepsNotices m :=
      fun k => ⟨by rw [(m.openSpan_eq k number).1], (m.openSpan_eq k number).2⟩
    unfold Node.marksOnView
    split
    · exact ⟨rfl, fun _ hi => hi⟩
    · split
      · exact ⟨rfl, fun _ hi => hi⟩
      · split
        · exact hopen .trip
        · split
          · exact hopen .stop
          · exact ⟨rfl, fun _ hi => hi⟩
  obtain ⟨hr, hn⟩ := hmarks (n.notice Notice.viewChanged)
  unfold Node.viewReported
  refine ⟨(hstall _).1.trans ((htimer _).1.trans hr), fun i hi => ?_⟩
  rw [Node.noticed, (hstall _).2, (htimer _).2]
  exact hn i (Node.notice_keepsNotices _ n i hi)

@[simp] theorem Node.adoptPair_roster (m : Nat) (s : View) (n : Node) :
    (n.adoptPair m s).roster = n.roster := by
  have hb : (if m = n.line.number then n else n.numberChanged).roster = n.roster := by
    split
    · rfl
    · simp [Node.numberChanged, Node.abandonOwn]
  have hsettle : ∀ k : Node, k.settle.roster = k.roster := fun k => by simp
  unfold Node.adoptPair
  dsimp only
  split
  · exact (hsettle _).trans hb
  · exact (hsettle _).trans ((Node.viewReported_roster _ _ _ _).1.trans hb)

@[simp] theorem Node.takePair_roster (sender m : Nat) (s : View) (clears : Bool)
    (ann : Option Announcement) (n : Node) : (n.takePair sender m s clears ann).roster = n.roster := by
  have hannounce : ∀ p, (n.announce true p).roster = n.roster := fun p => by simp [Node.announce]
  unfold Node.takePair
  split
  · rfl
  · unfold Node.relayTrip
    split
    · exact hannounce _
    · rfl
  · dsimp only
    split <;> exact n.adoptPair_roster m s

/-- A PROPOSE as it is judged once an own one that waited has ended (R97, R98). -/
def Node.judgePropose (p : ProposePayload) (n : Node) : Node :=
  if n.line.proposalView.isSome || n.voting then n.answer p.id (some .busy)
  else Node.answer p.id (n.answerReason p) { n with
    line.proposalView := some { id := p.id, base := p.base, target := p.target, timer := 0 } }

theorem Node.takePropose_eq (p : ProposePayload) (n : Node) :
    n.takePropose p = (if n.queuedOwn then n.abandonOwn else n).judgePropose p := rfl

/-- The part of the other block leaves the Roster (R137). -/
theorem Node.deliver_roster (sender : Nat) (f : Frame) (n : Node) :
    (n.deliver sender f).roster = n.roster := by
  cases f with
  | status p => exact Node.takePair_roster ..
  | handoff p =>
    show (n.takeHandoff sender p).roster = n.roster
    rw [(n.takeHandoff_takenIn sender p).kept]
  | stop p => exact Node.takePair_roster ..
  | trip p => exact Node.takePair_roster ..
  | propose p =>
    have hanswer : ∀ (m : Node) r, (m.answer p.id r).roster = m.roster := by
      intro m r
      unfold Node.answer
      split <;> simp
    have hown : (if n.queuedOwn then n.abandonOwn else n).roster = n.roster := by
      split
      · simp [Node.abandonOwn]
      · rfl
    have hjudge : ∀ m : Node, (m.judgePropose p).roster = m.roster := by
      intro m
      unfold Node.judgePropose
      split <;> exact hanswer _ _
    exact (hjudge _).trans hown
  | assent i =>
    have henact : ∀ m : Node, m.enactOwn.roster = m.roster := by
      intro m
      unfold Node.enactOwn
      split <;> simp
    show (n.takeAssent sender i).roster = n.roster
    unfold Node.takeAssent
    split
    · split
      · dsimp only
        split
        · exact henact _
        · rfl
      · rfl
    · rfl
  | hold p =>
    show (n.takeHold sender p).roster = n.roster
    unfold Node.takeHold
    split
    · split <;> simp
    · rfl
  | enact p =>
    have hclose : ∀ m : Node, (m.closeViewOf p.id).roster = m.roster := by
      intro m
      unfold Node.closeViewOf
      split
      · split <;> rfl
      · rfl
    exact (hclose _).trans (Node.takePair_roster ..)
  | fault p => rfl

/-- A block done whose faults are mild leaves the Roster (R183). -/
theorem Node.finish_roster {n : Node} (h : n.mild) : n.finish.roster = n.roster := by
  have hfaults : ∀ m : Node, m.faults = n.faults → m.takeFaults.settle.roster = m.roster := by
    intro m hf
    have hmild : m.mild := by
      unfold Node.mild
      rw [hf]
      exact h
    have hkept := (Node.takeFaults_kept m hmild).1
    calc m.takeFaults.settle.roster
        = m.takeFaults.roster := by simp
      _ = m.roster := by rw [hkept]
  unfold Node.finish
  split
  · split
    · exact (hfaults _ (by simp)).trans (by simp)
    · exact (hfaults _ (by simp)).trans (by simp)
  · exact hfaults n rfl

/-- Record and length source are a matter of what stands. -/
theorem Node.config_source_of_standing {m n : Node} (h : m.standing = n.standing) :
    m.config = n.config ∧ m.len.source = n.len.source :=
  ⟨congrArg Standing.config h, congrArg (fun o : Standing => o.len.source) h⟩

/-- A block done with its part of a frame, its faults mild, leaves what the Roster takes the frame by. -/
theorem Node.deliverBlock_hearing {sender : Nat} {f : Frame} {n : Node}
    (h : (n.deliver sender f).mild) : (n.deliverBlock sender f).config = n.config ∧
      (n.deliverBlock sender f).roster = n.roster ∧
      (n.deliverBlock sender f).len.source = n.len.source := by
  obtain ⟨hc, hs⟩ := Node.config_source_of_standing
    ((Node.finish_standing _).trans (n.deliver_standing sender f))
  exact ⟨hc, (Node.finish_roster h).trans (n.deliver_roster sender f), hs⟩

/-- The part of the other block leaves a node that its followers can settle: mild faults, lines that follow
and no hold reason of an own proposal (R100, R114, R183). -/
structure Node.Settleable (n : Node) : Prop where
  mild : n.mild
  lines : n.linesFollow
  unheld : n.Unheld

/-- A frame heard calmly by a station that can settle: it is as the other block's part leaves it, taken by a
node to which the Roster's part has added one FAULT frame at most, in either order (R137, log 4). -/
theorem Node.deliverGood_undisturbed {sender : Nat} {f : Frame} {n : Node} (hc : n.calm)
    (hl : n.linesFollow) (hu : n.Unheld) (hh : n.HearsCalmly sender f)
    (hd : ∀ m : Node, m.Undisturbed 1 n → m.calm → (m.deliver sender f).Settleable) :
    ∃ m : Node, m.Undisturbed 1 n ∧ m.calm ∧
      ∃ k, (n.deliverGood sender f).Undisturbed k (m.deliver sender f) := by
  obtain ⟨b, hb⟩ : ∃ b : Node, b = n.spend 2 := ⟨_, rfl⟩
  have hbn : b.Undisturbed 1 n := by
    obtain ⟨h1, h2, -, h4⟩ := n.spend_undisturbed 2
    rw [hb]
    exact Node.undisturbed_of 1 h1 h2 (by simp)
  have hbc : b.calm := hbn.calm hc (by rw [hb]; simpa using hc.2)
  have hbl := Node.linesFollow_of_bearing hbn.bearing hl
  have hbu := Node.unheld_of_bearing hbn.bearing hu
  have hbh : b.HearsCalmly sender f := hh.congr (by rw [hb]; simp) (by rw [hb]; simp) (by rw [hb]; simp)
  unfold Node.deliverGood
  rw [← hb]
  split
  · have hr := Node.deliverRoster_undisturbed hbc hbl hbu hbh
    have hrn : (b.deliverRoster sender f).Undisturbed 1 n := by
      rw [hb] at hr ⊢
      exact hr.trans (n.spend_undisturbed 2)
    have hrc := hrn.calm hc (Node.finish_reported _)
    obtain ⟨hmild, hlines, hunheld⟩ := hd _ hrn hrc
    exact ⟨_, hrn, hrc, _, Node.finish_undisturbed hmild hlines hunheld⟩
  · obtain ⟨hmild, hlines, hunheld⟩ := hd _ hbn hbc
    have hf := Node.finish_undisturbed hmild hlines hunheld
    obtain ⟨hconf, hros, hsrc⟩ := Node.deliverBlock_hearing hmild
    have hfc : (b.deliverBlock sender f).calm :=
      ⟨(Node.escalation_of_bearing hf.bearing).trans hmild.1, Node.finish_reported _⟩
    have hr := Node.deliverRoster_undisturbed hfc (Node.linesFollow_of_bearing hf.bearing hlines)
      (Node.unheld_of_bearing hf.bearing hunheld) (hbh.congr hconf hros hsrc)
    exact ⟨b, hbn, hbc, _, hr.trans hf⟩

/-- A good frame of another station received by such a station (R137). -/
theorem Node.receive_undisturbed {sender : Nat} {f : Frame} {n : Node} (hs : stationOk sender = true)
    (hf : frameOk f = true) (hr : n.receiving = true) (ho : sender ≠ n.config.station) (hc : n.calm)
    (hl : n.linesFollow) (hu : n.Unheld) (hh : n.HearsCalmly sender f)
    (hd : ∀ m : Node, m.Undisturbed 1 n → m.calm → (m.deliver sender f).Settleable) :
    ∃ m : Node, m.Undisturbed 1 n ∧ m.calm ∧
      ∃ k, (n.receive sender f).Undisturbed k (m.deliver sender f) := by
  obtain ⟨b, hb⟩ : ∃ b : Node, b = n.lineIdle.report (CounterEvent.frameReceived 0) := ⟨_, rfl⟩
  have hbn : b.Undisturbed 0 n := by
    rw [hb]
    exact Node.undisturbed_of 0 (by simp) (Node.addCounters_reports _ n.lineIdle).2.2 (by simp)
  have hbc : b.calm := hbn.calm hc (by rw [hb]; simpa [Node.lineIdle] using hc.2)
  have hbh : b.HearsCalmly sender f := hh.congr (by rw [hb]; simp [Node.lineIdle])
    (by rw [hb]; simp [Node.lineIdle]) (by rw [hb]; simp [Node.lineIdle])
  rw [Node.receive_good hs hf hr ho, ← hb]
  obtain ⟨m, hm, hmc, k, hk⟩ := Node.deliverGood_undisturbed hbc
    (Node.linesFollow_of_bearing hbn.bearing hl) (Node.unheld_of_bearing hbn.bearing hu) hbh
    fun m hm => hd m (hm.trans hbn)
  exact ⟨m, hm.trans hbn, hmc, k, hk⟩

end Sys2Proof.Machine
/-! ### PROPOSE, ASSENT and HOLD received (R97 to R103) -/

namespace Sys2Proof.Machine

/-! #### What such a frame leaves to settle -/

/-- A frame that brings its sender back changes the entry in nothing else (R123): it is heard calmly where no
SILENT lower-numbered entry of an ORIGIN comes back and in DERIVED the sender was PRESENT (R12, R128). -/
theorem Node.hearsCalmly_of_present {sender : Nat} {f : Frame} {n : Node}
    (hf : ∀ e, RosterEntry.update f e = { e with age := 0, present := true })
    (hback : ∀ e, n.roster.entry? sender = some e → e.present = false →
      n.isOrigin = false ∨ n.config.station < sender)
    (hfit : n.len.source = .encoder ∨ (n.roster.reference = n.chooseReference ∧
      ∃ e, n.roster.entry? sender = some e ∧ e.present = true)) : n.HearsCalmly sender f := by
  refine ⟨fun horigin hcreel => ?_, hfit.imp id ?_⟩
  · have hstation := n.roster.entryAfter_station sender f
    unfold Roster.entryAfter at hcreel hstation
    rw [hf] at hcreel hstation
    cases he : n.roster.entry? sender with
    | none => simp [he, RosterEntry.creel, RosterEntry.blank] at hcreel
    | some e =>
      simp only [he, Option.getD_some, RosterEntry.creel, Bool.true_and, Bool.and_eq_true,
        decide_eq_true_eq] at hcreel hstation
      obtain ⟨hlower, hrole⟩ := hcreel
      by_cases hp : e.present = true
      · have hmem : e ∈ n.roster.others := List.mem_of_find?_eq_some he
        refine Bool.and_eq_true_iff.2 ⟨horigin, List.any_eq_true.2 ⟨e, hmem, ?_⟩⟩
        simp [RosterEntry.creel, hp, hlower, hrole]
      · rcases hback e he (by simpa using hp) with ho | hs
        · exact absurd (horigin.symm.trans ho) (by decide)
        · omega
  · rintro ⟨hchosen, e, he, hp⟩
    refine ⟨hchosen, e, he, ?_⟩
    rw [hf]
    cases e
    cases hp
    rfl

/-- Where the bearing and the faults that wait are the same the followers can settle alike. -/
theorem Node.Settleable.of_bearing {m n : Node} (h : n.Settleable) (hb : m.bearing = n.bearing)
    (hr : m.faults.reported = n.faults.reported) : m.Settleable := by
  refine ⟨⟨(Node.escalation_of_bearing hb).trans h.mild.1, ?_⟩, Node.linesFollow_of_bearing hb h.lines,
    Node.unheld_of_bearing hb h.unheld⟩
  rw [hr]
  exact h.mild.2

/-- An own proposal that ends leaves no hold reason to look at (R100, R101). -/
theorem Node.endOwn_settleable (e : ProposalEnd) {n : Node} (hc : n.calm) (hl : n.linesFollow) :
    (n.endOwn e).Settleable := by
  refine ⟨?_, ?_, Node.unheld_of_none (by simp)⟩
  · simpa [Node.mild] using Node.mild_of_calm hc
  · exact Node.linesFollow_congr (by simp) (by simp) (by simp) (by simp) (by simp) (by simp) (by simp) hl

theorem Node.endAndWithdraw_settleable (e : ProposalEnd) {n : Node} (hc : n.calm)
    (hl : n.linesFollow) : (n.endAndWithdraw e).Settleable := by
  refine ⟨?_, ?_, Node.unheld_of_none (by simp)⟩
  · simpa [Node.mild] using Node.mild_of_calm hc
  · exact Node.linesFollow_congr (by simp) (by simp) (by simp) (by simp) (by simp) (by simp) (by simp) hl

/-! #### The answer to a PROPOSE (R97, R98) -/

/-- Outside ACTIVE nothing is answered; with room in the queue of an ACTIVE station the answer joins it. -/
theorem Node.answer_eq (i : ProposalId) (r : Option HoldReason) {n : Node}
    (hroom : n.active = true → n.bus.queue.length < 16) : n.answer i r =
      if n.active then n.joinQueue (QueuedFrame.fresh (answerFrame i r) false) else n := by
  unfold Node.answer
  split
  · rename_i ha
    exact Node.offer_room _ n ha (decide_eq_false (Nat.not_le.2 (hroom ha)))
  · rfl

/-- An answer leaves the bearing, and it waits in the queue of an ACTIVE station. -/
theorem Node.answer_answers (i : ProposalId) (r : Option HoldReason) {n : Node}
    (hroom : n.active = true → n.bus.queue.length < 16) :
    (n.answer i r).bearing = n.bearing ∧ (n.answer i r).faults = n.faults ∧
    (∀ q ∈ (n.answer i r).bus.queue, q.isPropose = true → q ∈ n.bus.queue) ∧
    (n.active = true → QueuedFrame.fresh (answerFrame i r) false ∈ (n.answer i r).bus.queue) ∧
    (n.active = false → (n.answer i r).bus.queue = n.bus.queue) := by
  rw [Node.answer_eq i r hroom]
  split
  · rename_i ha
    refine ⟨rfl, rfl, fun q hq hp => ?_, fun _ => List.mem_append_right _ List.mem_cons_self,
      fun h => absurd (ha.symm.trans h) (by decide)⟩
    rcases List.mem_append.1 hq with hold | hnew
    · exact hold
    · rw [List.mem_singleton.1 hnew] at hp
      cases r <;> cases hp
  · rename_i ha
    exact ⟨rfl, rfl, fun _ hq _ => hq, fun h => absurd h ha, fun _ => rfl⟩

/-- The proposal view that a PROPOSE opens (R98). -/
def proposalViewOf (p : ProposePayload) : ProposalView :=
  { id := p.id, base := p.base, target := p.target, timer := 0 }

/-- While a proposal view is open, or an own proposal is VOTING, a PROPOSE is answered BUSY (R97, R98). -/
theorem Node.judgePropose_busy (p : ProposePayload) {n : Node}
    (h : n.line.proposalView ≠ none ∨ n.voting = true) :
    n.judgePropose p = n.answer p.id (some .busy) := by
  refine if_pos ?_
  rw [Bool.or_eq_true, Option.isSome_iff_ne_none]
  exact h

/-- Else it opens the view and is answered by its first hold reason (R98). -/
theorem Node.judgePropose_opens (p : ProposePayload) {n : Node} (hv : n.line.proposalView = none)
    (ho : n.voting = false) : n.judgePropose p =
      Node.answer p.id (n.answerReason p) { n with line.proposalView := some (proposalViewOf p) } :=
  if_neg (by simp [hv, ho])

/-- A PROPOSE that meets an open view or an own proposal VOTING: the line state stands (R97, R98). -/
theorem Node.judgePropose_settleable (p : ProposePayload) {n : Node} (h : n.Settleable)
    (hroom : n.active = true → n.bus.queue.length < 16) : (n.judgePropose p).Settleable := by
  by_cases hb : n.line.proposalView ≠ none ∨ n.voting = true
  · obtain ⟨hbear, hf, -⟩ := Node.answer_answers p.id (some .busy) hroom
    rw [Node.judgePropose_busy p hb]
    exact h.of_bearing hbear (by rw [hf])
  · obtain ⟨hv, ho⟩ := not_or.1 hb
    obtain ⟨m, hm⟩ : ∃ m : Node, m = { n with line.proposalView := some (proposalViewOf p) } := ⟨_, rfl⟩
    have hopened : m.Settleable := by
      rw [hm]
      exact ⟨h.mild, Node.linesFollow_congr (n := n) rfl rfl rfl rfl rfl rfl rfl h.lines, h.unheld⟩
    obtain ⟨hbear, hf, -⟩ := Node.answer_answers p.id (n.answerReason p) (n := m)
      (by rw [hm]; exact hroom)
    rw [Node.judgePropose_opens p (not_not.1 hv) (by simpa using ho), ← hm]
    exact hopened.of_bearing hbear (by rw [hf])

/-- A PROPOSE taken leaves nothing that waits but what its answer is (R97, R98). -/
theorem Node.takePropose_settleable (p : ProposePayload) {n : Node} (hc : n.calm)
    (hl : n.linesFollow) (hu : n.Unheld) (hroom : n.active = true → n.bus.queue.length < 16) :
    (n.takePropose p).Settleable := by
  rw [Node.takePropose_eq]
  split
  · refine Node.judgePropose_settleable p (Node.endAndWithdraw_settleable _ hc hl) fun ha => ?_
    have hactive : n.active = true := by simpa [Node.abandonOwn, Node.active] using ha
    have hlength : n.abandonOwn.bus.queue.length ≤ n.bus.queue.length := by
      unfold Node.abandonOwn Node.endAndWithdraw
      split
      · simpa using withdrawPropose_length n.bus.queue
      · exact Nat.le_refl _
    exact hlength.trans_lt (hroom hactive)
  · exact Node.judgePropose_settleable p ⟨Node.mild_of_calm hc, hl, hu⟩ hroom

/-- `t` has opened the proposal view of a PROPOSE and answers it as `n` judges it (R98). -/
def Node.OpensView (p : ProposePayload) (n t : Node) : Prop :=
  t.line.proposalView = some (proposalViewOf p) ∧
  ((p.base ≠ n.line.number ∨ legalMove n.line.view p.target = false) →
    QueuedFrame.fresh (.hold { id := p.id, reason := .stale }) false ∈ t.bus.queue) ∧
  (p.base = n.line.number → legalMove n.line.view p.target = true →
    (∀ r more, n.holdReasons p.target = r :: more →
      QueuedFrame.fresh (.hold { id := p.id, reason := r }) false ∈ t.bus.queue) ∧
    (n.holdReasons p.target = [] → QueuedFrame.fresh (.assent p.id) false ∈ t.bus.queue))

/-- The first hold reason for a PROPOSE, in its three cases (R98). -/
theorem Node.answerReason_eq (p : ProposePayload) (n : Node) :
    ((p.base ≠ n.line.number ∨ legalMove n.line.view p.target = false) →
      n.answerReason p = some .stale) ∧
    (p.base = n.line.number → legalMove n.line.view p.target = true →
      n.answerReason p = (n.holdReasons p.target).head?) :=
  ⟨fun h => if_pos h, fun hb hl => if_neg (by simp [hb, hl])⟩

/-- An ACTIVE station with room, no view open and no own proposal VOTING opens the view and answers. -/
theorem Node.judgePropose_answers {p : ProposePayload} {k : Nat} {m n t : Node} (ha : m.active = true)
    (hroom : m.bus.queue.length < 16) (hv : m.line.proposalView = none) (ho : m.voting = false)
    (hview : m.line.view = n.line.view) (hnumber : m.line.number = n.line.number)
    (hreasons : ∀ v, m.holdReasons v = n.holdReasons v) (ht : t.Undisturbed k (m.judgePropose p)) :
    n.OpensView p t := by
  obtain ⟨b, hb⟩ : ∃ b : Node, b = { m with line.proposalView := some (proposalViewOf p) } := ⟨_, rfl⟩
  have hreason : m.answerReason p = n.answerReason p := by
    simp only [Node.answerReason, hview, hnumber, hreasons]
  rw [Node.judgePropose_opens p hv ho, hreason, ← hb] at ht
  obtain ⟨hbear, -, -, hmem, -⟩ := Node.answer_answers p.id (n.answerReason p) (n := b)
    fun _ => by rw [hb]; exact hroom
  have hanswer := ht.mem (hmem (by rw [hb]; exact ha))
  obtain ⟨hstale, hheld⟩ := n.answerReason_eq p
  refine ⟨?_, fun h => ?_, fun hbase hlegal => ⟨fun r more hr => ?_, fun hr => ?_⟩⟩
  · rw [Node.line_of_bearing (ht.bearing.trans hbear), hb]
  · rwa [hstale h] at hanswer
  · rwa [hheld hbase hlegal, hr] at hanswer
  · rwa [hheld hbase hlegal, hr] at hanswer

/-- A PROPOSE judged changes of the line state the proposal view alone, and no other PROPOSE joins the queue;
outside ACTIVE the queue stands (R98). -/
theorem Node.judgePropose_leaves (p : ProposePayload) {n : Node}
    (hroom : n.active = true → n.bus.queue.length < 16) :
    (n.judgePropose p).line = { n.line with
      proposalView := if n.line.proposalView ≠ none ∨ n.voting = true then n.line.proposalView
        else some (proposalViewOf p) } ∧
    (∀ q ∈ (n.judgePropose p).bus.queue, q.isPropose = true → q ∈ n.bus.queue) ∧
    (n.judgePropose p).active = n.active ∧
    (n.active = false → (n.judgePropose p).bus.queue = n.bus.queue) := by
  by_cases hb : n.line.proposalView ≠ none ∨ n.voting = true
  · obtain ⟨hbear, -, hold, -, hsilent⟩ := Node.answer_answers p.id (some .busy) hroom
    have hline := Node.line_of_bearing hbear
    have hactive := Node.active_of_bearing hbear
    rw [if_pos hb, Node.judgePropose_busy p hb]
    exact ⟨hline, hold, hactive, hsilent⟩
  · obtain ⟨hv, ho⟩ := not_or.1 hb
    obtain ⟨hbear, -, hold, -, hsilent⟩ := Node.answer_answers p.id (n.answerReason p)
      (n := { n with line.proposalView := some (proposalViewOf p) }) hroom
    have hline := Node.line_of_bearing hbear
    have hactive := Node.active_of_bearing hbear
    rw [if_neg hb, Node.judgePropose_opens p (not_not.1 hv) (by simpa using ho)]
    exact ⟨hline, hold, hactive, hsilent⟩

/-- A PROPOSE withdrawn is in transmission (R141). -/
theorem withdrawPropose_withdrawn {l : List QueuedFrame} {q : QueuedFrame}
    (hq : q ∈ withdrawPropose l) (hp : q.isPropose = true) :
    q.inTransmission = true ∧ q.withdrawn = true := by
  unfold withdrawPropose at hq
  obtain ⟨x, hx, rfl⟩ := List.mem_map.1 hq
  obtain ⟨-, hkeep⟩ := List.mem_filter.1 hx
  by_cases hxp : x.isPropose = true
  · rw [if_pos hxp]
    exact ⟨by simpa [hxp] using hkeep, rfl⟩
  · rw [if_neg hxp] at hp
    exact absurd hp hxp

/-- The end of an own proposal changes no hold reason (R96). -/
theorem Node.endAndWithdraw_holdReasons (e : ProposalEnd) (n : Node) (v : View) :
    (n.endAndWithdraw e).holdReasons v = n.holdReasons v := by
  have hunfit : (n.endAndWithdraw e).lengthUnfit = n.lengthUnfit := by
    simp [Node.lengthUnfit, Node.fallback, Node.lengthDerived, Node.usableSpeed]
  have hacts : (n.endAndWithdraw e).actionHolds = n.actionHolds := by simp [Node.actionHolds]
  simp [Node.holdReasons, hunfit, hacts]

/-- An ACTIVE station receives frames (R137). -/
theorem Node.receiving_of_active {n : Node} (h : n.active = true) : n.receiving = true := by
  simp only [Node.active, decide_eq_true_eq] at h
  simp [Node.receiving, h]

/-- With the FAULT frame of the Roster's part a queue of 14 has room (R139). -/
theorem Node.Undisturbed.room {m n : Node} (h : m.Undisturbed 1 n) (hroom : n.bus.queue.length ≤ 14) :
    m.bus.queue.length < 16 := h.length.trans_lt (by omega)

/-- A PROPOSE received by a station that can settle. -/
theorem Node.receive_propose {sender : Nat} {p : ProposePayload} {n : Node}
    (hs : stationOk sender = true) (hf : frameOk (.propose p) = true) (hr : n.receiving = true)
    (ho : sender ≠ n.config.station)
    (hback : ∀ e, n.roster.entry? sender = some e → e.present = false →
      n.isOrigin = false ∨ n.config.station < sender)
    (hfit : n.len.source = .encoder ∨ (n.roster.reference = n.chooseReference ∧
      ∃ e, n.roster.entry? sender = some e ∧ e.present = true))
    (hc : n.calm) (hl : n.linesFollow) (hu : n.Unheld)
    (hroom : n.active = true → n.bus.queue.length ≤ 14) :
    ∃ m : Node, m.Undisturbed 1 n ∧ m.calm ∧ (m.active = true → m.bus.queue.length < 16) ∧
      ∃ k, (n.receive sender (.propose p)).Undisturbed k (m.takePropose p) := by
  have hmroom : ∀ m : Node, m.Undisturbed 1 n → m.active = true → m.bus.queue.length < 16 :=
    fun m hm ha => hm.room (hroom (hm.active.symm.trans ha))
  obtain ⟨m, hm, hmc, k, hk⟩ := Node.receive_undisturbed hs hf hr ho hc hl hu
    (Node.hearsCalmly_of_present (fun _ => rfl) hback hfit) fun m hm hmc =>
      Node.takePropose_settleable p hmc (Node.linesFollow_of_bearing hm.bearing hl)
        (Node.unheld_of_bearing hm.bearing hu) (hmroom m hm)
  exact ⟨m, hm, hmc, hmroom m hm, k, hk⟩

/-- Without an own proposal that waits a PROPOSE is judged as it comes (R97). -/
theorem Node.takePropose_unqueued (p : ProposePayload) {n : Node} (h : n.queuedOwn = false) :
    n.takePropose p = n.judgePropose p := by
  rw [Node.takePropose_eq, h, if_neg Bool.false_ne_true]

/-- Without an own proposal none is QUEUED or VOTING. -/
theorem Node.phase_of_none {n : Node} (h : n.line.own = none) :
    n.queuedOwn = false ∧ n.voting = false := by
  simp [Node.queuedOwn, Node.voting, h]

/-- An own proposal is QUEUED or VOTING (R96, R97). -/
theorem Node.phase_of_own {n : Node} {o : OwnProposal} (h : n.line.own = some o) :
    (o.phase = .queued → n.queuedOwn = true) ∧
    (o.phase ≠ .queued → n.queuedOwn = false ∧ n.voting = true) := by
  obtain ⟨id, base, target, phase⟩ := o
  cases phase <;> simp [Node.queuedOwn, Node.voting, h]

/-- A PROPOSE that meets an own one that waits: that one is over, its PROPOSE withdrawn, and the frame is
judged as without it (R97, R101, R141). -/
theorem Node.takePropose_queued {p : ProposePayload} {k : Nat} {m t : Node} {o : OwnProposal}
    (ho : m.line.own = some o) (hq : o.phase = .queued)
    (hroom : m.active = true → m.bus.queue.length < 16) (ht : t.Undisturbed k (m.takePropose p)) :
    t.line.view = m.line.view ∧ t.line.number = m.line.number ∧ t.line.own = none ∧
    t.line.lastOutcome = some { id := o.id, outcome := .abandoned } ∧
    (∀ q ∈ t.bus.queue, q.isPropose = true → q.inTransmission = true ∧ q.withdrawn = true) ∧
    (m.active = true → m.line.proposalView = none → m.OpensView p t) := by
  obtain ⟨a, ha⟩ : ∃ a, a = m.abandonOwn := ⟨_, rfl⟩
  obtain ⟨haline, -, habus⟩ := Node.endAndWithdraw_ends .abandoned ho
  rw [← Node.abandonOwn, ← ha] at haline habus
  have hactive : a.active = m.active := by simp [ha, Node.abandonOwn, Node.active]
  have haroom : a.active = true → a.bus.queue.length < 16 := fun h => by
    rw [habus]
    exact (withdrawPropose_length _).trans_lt (hroom (hactive.symm.trans h))
  rw [Node.takePropose_eq, (Node.phase_of_own ho).1 hq, if_pos rfl, ← ha] at ht
  obtain ⟨hline, hold, -, -⟩ := Node.judgePropose_leaves p haroom
  have htline := ht.line
  rw [hline, haline] at htline
  refine ⟨by rw [htline], by rw [htline], by rw [htline], by rw [htline], fun q hmem hp => ?_,
    fun hact hv => ?_⟩
  · have hwithdrawn := hold q (ht.proposes hmem hp) hp
    rw [habus] at hwithdrawn
    exact withdrawPropose_withdrawn hwithdrawn hp
  · exact Node.judgePropose_answers (hactive.trans hact) (haroom (hactive.trans hact))
      (by rw [haline]; exact hv) (Node.phase_of_none (by rw [haline])).2 (by rw [haline])
      (by rw [haline]) (fun v => ha ▸ Node.endAndWithdraw_holdReasons _ m v) ht

/-- What is judged of a PROPOSE is a matter of the line state and the hold reasons (R98). -/
theorem Node.OpensView.congr {p : ProposePayload} {m n t : Node} (h : m.OpensView p t)
    (hl : m.line = n.line) (hr : ∀ v, m.holdReasons v = n.holdReasons v) : n.OpensView p t := by
  simpa only [Node.OpensView, hl, hr] using h

/-- Settles O44: the two deliveries in either order, then the PROPOSE judged by what it meets. -/
theorem proposeFrameIsAnswered : Obligations.ProposeFrameIsAnswered := by
  refine ⟨fun sender p s hs hf ho ha hback hfit hq hroom => ?_,
    fun sender p s o hs hf ho ha hback hfit hc hl hown hheld hroom => ?_,
    fun sender p s hs hf ho hr ha hback hfit hq => ?_⟩
  · obtain ⟨hcalm, hlines, -, hnone⟩ := hq
    obtain ⟨m, hm, -, hmroom, k, ht⟩ := Node.receive_propose hs hf (Node.receiving_of_active ha) ho
      hback hfit hcalm hlines (Node.unheld_of_none hnone) fun _ => hroom
    obtain ⟨hline, hactive, hreasons⟩ := hm.same
    have hma := hactive.trans ha
    obtain ⟨hqueued, hvoting⟩ := Node.phase_of_none (hline ▸ hnone : m.line.own = none)
    rw [Node.takePropose_unqueued p hqueued] at ht
    have htline := ht.line.trans (Node.judgePropose_leaves p hmroom).1
    rw [hline] at htline
    refine ⟨_, State.act_eq rfl, rfl, by rw [htline], by rw [htline], fun w hw => ?_, fun hw => ?_⟩
    · have hopen : s.node.line.proposalView ≠ none := by simp [hw]
      rw [Node.judgePropose_busy p (.inl (by rwa [hline]))] at ht
      obtain ⟨-, -, -, hanswer, -⟩ := Node.answer_answers p.id (some .busy) hmroom
      refine ⟨?_, ht.mem (hanswer hma)⟩
      rw [htline, if_pos (.inl hopen), hw]
    · exact Node.judgePropose_answers hma (hmroom hma) (by rw [hline, hw]) hvoting (by rw [hline])
        (by rw [hline]) hreasons ht
  · obtain ⟨m, hm, -, hmroom, k, ht⟩ := Node.receive_propose hs hf (Node.receiving_of_active ha) ho
      hback hfit hc hl (Node.unheld_of_own hown hheld) fun _ => hroom
    obtain ⟨hline, hactive, hreasons⟩ := hm.same
    have hma := hactive.trans ha
    have hmown : m.line.own = some o := by rw [hline, hown]
    by_cases hphase : o.phase = .queued
    · obtain ⟨hview, hnumber, hover, hout, hqueue, hopens⟩ :=
        Node.takePropose_queued hmown hphase hmroom ht
      rw [hline] at hview hnumber hopens
      exact ⟨_, State.act_eq rfl, rfl, hview, hnumber, fun h => absurd hphase h, fun _ =>
        ⟨hover, hout, hqueue, fun hv => (hopens hma hv).congr hline hreasons⟩⟩
    · obtain ⟨hqueued, hvoting⟩ := (Node.phase_of_own hmown).2 hphase
      rw [Node.takePropose_unqueued p hqueued] at ht
      have htline := ht.line.trans (Node.judgePropose_leaves p hmroom).1
      rw [if_pos (.inr hvoting), hline] at htline
      rw [Node.judgePropose_busy p (.inr hvoting)] at ht
      obtain ⟨-, -, -, hanswer, -⟩ := Node.answer_answers p.id (some .busy) hmroom
      exact ⟨_, State.act_eq rfl, rfl, by rw [htline], by rw [htline], fun _ => ⟨by rw [htline, hown],
        by rw [htline], ht.mem (hanswer hma)⟩,
        fun h => absurd h hphase⟩
  · obtain ⟨hcalm, hlines, -, hnone⟩ := hq
    obtain ⟨m, hm, -, hmroom, k, ht⟩ := Node.receive_propose hs hf hr ho hback hfit hcalm hlines
      (Node.unheld_of_none hnone) fun h => absurd (ha.symm.trans h) (by decide)
    obtain ⟨hline, hactive, -⟩ := hm.same
    have hma := hactive.trans ha
    obtain ⟨hqueued, hvoting⟩ := Node.phase_of_none (hline ▸ hnone : m.line.own = none)
    rw [Node.takePropose_unqueued p hqueued] at ht
    obtain ⟨hjline, -, hjactive, hsilent⟩ := Node.judgePropose_leaves p hmroom
    have htline := ht.line.trans hjline
    rw [hline, hvoting] at htline
    refine ⟨_, State.act_eq rfl, rfl, by rw [htline], by rw [htline],
      (ht.silent (hjactive.trans hma)).trans ((hsilent hma).trans (hm.silent ha)), fun hw => ?_,
      fun hw => ?_⟩
    · rw [htline, if_pos (.inl hw)]
    · rw [htline, if_neg (by simp [hw])]
      rfl

end Sys2Proof.Machine
/-! ### Votes and timers: ASSENT, HOLD, VOTE_TIMEOUT and PROPOSAL_VIEW_TIMEOUT (R99, R100, R102, R103) -/

namespace Sys2Proof.Machine

/-- An own proposal VOTING, with the answers it has (R97, R100). -/
def votingProposal (id : ProposalId) (base : Nat) (target : View) (electorate assents : List Nat)
    (timer : Nat) : OwnProposal :=
  { id := id, base := base, target := target, phase := .voting electorate assents timer }

section Assent

variable {sender : Nat} {id : ProposalId} {base : Nat} {target : View} {electorate assents : List Nat}
  {timer : Nat} {n : Node}

/-- An own proposal VOTING once an ASSENT has been noted (R100). -/
def Node.assented (sender : Nat) (id : ProposalId) (base : Nat) (target : View)
    (electorate assents : List Nat) (timer : Nat) (n : Node) : Node :=
  { n with line := { n.line with
      own := some (votingProposal id base target electorate (assents ++ [sender]) timer) } }

/-- An elector's ASSENT is noted, and the last one enacts the proposal (R100). -/
theorem Node.takeAssent_elector
    (ho : n.line.own = some (votingProposal id base target electorate assents timer))
    (he : sender ∈ electorate) (ha : sender ∉ assents) : n.takeAssent sender id =
      if electorate.all (fun s => decide (s ∈ assents ++ [sender])) then
        (n.assented sender id base target electorate assents timer).enactOwn
      else n.assented sender id base target electorate assents timer := by
  simp only [Node.takeAssent, ho, votingProposal]
  exact if_pos ⟨trivial, he, ha⟩

/-- While another elector has not answered the proposal stays VOTING (R100). -/
theorem Node.takeAssent_notes
    (ho : n.line.own = some (votingProposal id base target electorate assents timer))
    (he : sender ∈ electorate) (ha : sender ∉ assents)
    (hmore : ∃ x ∈ electorate, x ≠ sender ∧ x ∉ assents) :
    n.takeAssent sender id = n.assented sender id base target electorate assents timer := by
  obtain ⟨x, hx, hne, hnot⟩ := hmore
  rw [Node.takeAssent_elector ho he ha, if_neg]
  intro hall
  have hin := List.all_eq_true.1 hall x hx
  simp [hne, hnot] at hin

/-- With the last answer of an ACTIVE station with room the ENACT is queued (R100, R102). -/
theorem Node.takeAssent_enacts
    (ho : n.line.own = some (votingProposal id base target electorate assents timer))
    (he : sender ∈ electorate) (ha : sender ∉ assents)
    (hall : ∀ x ∈ electorate, x = sender ∨ x ∈ assents) (hactive : n.active = true)
    (hroom : n.bus.queue.length < 16) : n.takeAssent sender id =
      Node.joinQueue (QueuedFrame.fresh
          (.enact { id := id, base := base, number := evSucc base, target := target }) false)
        { (n.assented sender id base target electorate assents timer).endOwn (.enacted .pending) with
          line.enact := some { id := id, number := evSucc base } } := by
  have hevery : electorate.all (fun s => decide (s ∈ assents ++ [sender])) = true :=
    List.all_eq_true.2 fun x hx => by simpa [or_comm] using hall x hx
  obtain ⟨m, hm⟩ : ∃ m : Node, m = { (n.assented sender id base target electorate assents
      timer).endOwn (.enacted .pending) with
        line.enact := some { id := id, number := evSucc base } } := ⟨_, rfl⟩
  have hbus : m.bus = n.bus := by simp [hm, Node.assented]
  have henact : (n.assented sender id base target electorate assents timer).enactOwn =
      m.offer (.enact { id := id, base := base, number := evSucc base, target := target }) := by
    rw [hm]
    rfl
  rw [Node.takeAssent_elector ho he ha, if_pos hevery, henact, ← hm]
  refine Node.offer_room _ m ?_ (decide_eq_false (Nat.not_le.2 ?_))
  · rw [Node.active, hbus]
    exact hactive
  · rw [hbus]
    exact hroom

/-- An ASSENT noted leaves the proposal without a hold reason. -/
theorem Node.assented_settleable
    (ho : n.line.own = some (votingProposal id base target electorate assents timer))
    (h : n.Settleable) :
    (n.assented sender id base target electorate assents timer).Settleable :=
  ⟨h.mild, Node.linesFollow_congr (n := n) rfl rfl rfl rfl rfl rfl rfl h.lines,
    Node.unheld_of_own rfl (h.unheld _ ho : n.holdReasons target = [])⟩

/-- An own ENACT that comes PENDING with no own proposal left leaves nothing to settle (R102). -/
theorem Node.enacting_settleable {i : OwnEnact} (h : n.Settleable) (ho : n.line.own = none) :
    ({ n with line.enact := some i } : Node).Settleable :=
  ⟨h.mild, Node.linesFollow_congr (n := n) rfl rfl rfl rfl rfl rfl rfl h.lines, Node.unheld_of_none ho⟩

/-- The last ASSENT ends the proposal: its ENACT waits, PENDING (R100, R102, R103). -/
theorem Node.takeAssent_ends
    (ho : n.line.own = some (votingProposal id base target electorate assents timer))
    (he : sender ∈ electorate) (ha : sender ∉ assents)
    (hall : ∀ x ∈ electorate, x = sender ∨ x ∈ assents) (hactive : n.active = true)
    (hroom : n.bus.queue.length < 16) (hc : n.calm) (hl : n.linesFollow) :
    (n.takeAssent sender id).Settleable ∧ (n.takeAssent sender id).line.own = none ∧
    (n.takeAssent sender id).line.enact = some { id := id, number := evSucc base } ∧
    (n.takeAssent sender id).line.lastOutcome =
      some { id := id, outcome := .enacted .pending } ∧
    QueuedFrame.fresh (.enact { id := id, base := base, number := evSucc base, target := target }) false ∈
      (n.takeAssent sender id).bus.queue := by
  obtain ⟨a, hassented⟩ : ∃ a, a = n.assented sender id base target electorate assents timer := ⟨_, rfl⟩
  have haown : a.line.own =
      some (votingProposal id base target electorate (assents ++ [sender]) timer) := by
    rw [hassented]
    rfl
  have hac : a.calm := by
    rw [hassented]
    exact hc
  have hal : a.linesFollow := by
    rw [hassented]
    exact Node.linesFollow_congr (n := n) rfl rfl rfl rfl rfl rfl rfl hl
  have hline := (Node.endOwn_ends (.enacted .pending) haown).1
  rw [Node.takeAssent_enacts ho he ha hall hactive hroom, ← hassented]
  refine ⟨(Node.enacting_settleable (Node.endOwn_settleable _ hac hal)
      (by rw [hline])).of_bearing rfl rfl, ?_, rfl, ?_, List.mem_append_right _ List.mem_cons_self⟩
  · exact congrArg LineState.own hline
  · exact congrArg LineState.lastOutcome hline

end Assent

/-- A HOLD for the own proposal denies it (R100). -/
theorem Node.takeHold_own {sender : Nat} {p : HoldPayload} {n : Node} {o : OwnProposal}
    (ho : n.line.own = some o) (hid : o.id = p.id) :
    n.takeHold sender p = n.endAndWithdraw (.denied p.reason sender) := by
  simp only [Node.takeHold, ho]
  exact if_pos hid

/-- VOTE_TIMEOUT ends a proposal VOTING, with no fault to take (R100, R103). -/
theorem Node.voteTimeout_ends {n : Node} {o : OwnProposal} (ho : n.line.own = some o)
    (hv : n.voting = true) (hr : n.faults.reported = []) :
    n.voteTimeout.line =
      { n.line with own := none, lastOutcome := some { id := o.id, outcome := .timedOut } } ∧
    n.voteTimeout.noticed Notice.proposalResult = true ∧ n.voteTimeout.bus = n.bus ∧
    n.voteTimeout.window = n.window ∧ n.voteTimeout.len = n.len := by
  obtain ⟨hline, hnotice⟩ := Node.endOwn_ends .timedOut ho
  have hdone : n.voteTimeout = (n.endOwn .timedOut).settle := by
    rw [Node.voteTimeout, if_pos hv]
    exact Node.finish_nil _ (by simpa using hr)
  obtain ⟨hsline, hsbus, -⟩ := (n.endOwn .timedOut).settle_none (by simp)
  rw [hdone]
  exact ⟨hsline.trans hline, (n.endOwn .timedOut).settle_keepsNotices _ hnotice,
    hsbus.trans (by simp), by simp, by simp⟩

/-- Settles O45: an answer is taken by the proposal as it stands once the Roster's part and the other's
have come in either order; the timers end what they time. -/
theorem votesAndTimersDecideProposals : Obligations.VotesAndTimersDecideProposals := by
  refine ⟨fun sender s id base target electorate assents timer ho hs hid hother ha hback hfit hc hl hheld
    hroom => ?_, fun s => ⟨fun hv => State.act_same (if_neg (by simp [hv])), fun o ho hv hr => ?_, rfl⟩⟩
  · have hu : s.node.Unheld := Node.unheld_of_own ho hheld
    have hr := Node.receiving_of_active ha
    have hset : ∀ m : Node, m.Undisturbed 1 s.node → m.calm → m.Settleable := fun m hm hmc =>
      ⟨Node.mild_of_calm hmc, Node.linesFollow_of_bearing hm.bearing hl,
        Node.unheld_of_bearing hm.bearing hu⟩
    have hown : ∀ m : Node, m.Undisturbed 1 s.node →
        m.line.own = some (votingProposal id base target electorate assents timer) := fun m hm => by
      rw [hm.line, ho]
      rfl
    refine ⟨fun he hnot hmore => ?_, fun he hnot hall => ?_, fun reason => ?_⟩
    · obtain ⟨m, hm, -, k, ht⟩ := Node.receive_undisturbed (f := .assent id) hs hid hr hother hc hl hu
        (Node.hearsCalmly_of_present (fun _ => rfl) hback hfit) fun m hm hmc => by
          show (m.takeAssent sender id).Settleable
          rw [Node.takeAssent_notes (hown m hm) he hnot hmore]
          exact Node.assented_settleable (hown m hm) (hset m hm hmc)
      refine ⟨_, State.act_eq rfl, rfl, ?_⟩
      rw [ht.line]
      show (m.takeAssent sender id).line.own = _
      rw [Node.takeAssent_notes (hown m hm) he hnot hmore]
      rfl
    · have hends : ∀ m : Node, m.Undisturbed 1 s.node → m.calm → _ := fun m hm hmc =>
        Node.takeAssent_ends (hown m hm) he hnot hall (hm.active.trans ha) (hm.room hroom) hmc
          (hset m hm hmc).lines
      obtain ⟨m, hm, hmc, k, ht⟩ := Node.receive_undisturbed (f := .assent id) hs hid hr hother hc hl hu
        (Node.hearsCalmly_of_present (fun _ => rfl) hback hfit) fun m hm hmc => (hends m hm hmc).1
      obtain ⟨-, hover, henact, hout, hframe⟩ := hends m hm hmc
      have hline : _ = (m.takeAssent sender id).line := ht.line
      exact ⟨_, State.act_eq rfl, rfl, by rw [hline, hover], by rw [hline, henact],
        by rw [hline, hout], ht.mem hframe⟩
    · have hheld : ∀ m : Node, m.Undisturbed 1 s.node →
          m.takeHold sender { id := id, reason := reason } = m.endAndWithdraw (.denied reason sender) :=
        fun m hm => Node.takeHold_own (hown m hm) rfl
      obtain ⟨m, hm, -, k, ht⟩ := Node.receive_undisturbed (f := .hold { id := id, reason := reason }) hs
        hid hr hother hc hl hu (Node.hearsCalmly_of_present (fun _ => rfl) hback hfit)
        fun m hm hmc => by
          show (m.takeHold sender _).Settleable
          rw [hheld m hm]
          exact Node.endAndWithdraw_settleable _ hmc (hset m hm hmc).lines
      have hline : _ = (m.takeHold sender { id := id, reason := reason }).line := ht.line
      rw [hheld m hm, (Node.endAndWithdraw_ends _ (hown m hm)).1] at hline
      exact ⟨_, State.act_eq rfl, rfl, congrArg LineState.own hline,
        congrArg LineState.lastOutcome hline⟩
  · obtain ⟨hline, hnotice, hbus, hwindow, hlen⟩ := Node.voteTimeout_ends ho hv hr
    exact ⟨_, State.act_eq rfl, rfl, hline, hnotice, hbus, hwindow, hlen⟩

end Sys2Proof.Machine
/-! ### What a station has agreed on: view, number, proposal view and last announcement (R86 to R91, R99) -/

namespace Sys2Proof.Machine

/-! #### The reading -/

/-- What a pair is judged by and what its adoption sets, with the record and the escalation set. -/
structure Stance where
  config : ConfigRecord
  escalation : BitVec 32
  view : View
  number : Nat
  proposalView : Option ProposalView
  lastAnnouncement : Option Announcement

/-- The reading of a node as what it has agreed on. -/
def Node.stance (n : Node) : Stance :=
  { config := n.config, escalation := n.faults.escalation, view := n.line.view
    number := n.line.number, proposalView := n.line.proposalView
    lastAnnouncement := n.line.lastAnnouncement }

/-- A pair adopted, with the announcement it becomes; a change of number closes the proposal view (R88, R91,
R99). -/
def Stance.adopt (number : Nat) (view : View) (ann : Option Announcement) (t : Stance) : Stance :=
  { t with
    view := view, number := number
    proposalView := if number = t.number then t.proposalView else none
    lastAnnouncement := ann.or t.lastAnnouncement }

/-- The announcement of a RELAY TRIP for a pair of `sender` (R90, R91). -/
def relayOf (station sender number : Nat) : Announcement :=
  { trip := true, sender := station, number := evSucc number, source := .relay, detail := sender }

/-- A pair of `sender` as it is decided on (Table 5-2). -/
def Stance.take (active : Bool) (d : Decision) (sender number : Nat) (view : View)
    (ann : Option Announcement) (t : Stance) : Stance :=
  match d with
  | .ignore => t
  | .adopt => t.adopt number view ann
  | .relay =>
    if active then t.adopt (evSucc number) .trip (some (relayOf t.config.station sender number)) else t

/-- The frame is an ENACT of this proposal. -/
def enacts (f : Frame) (i : ProposalId) : Bool :=
  match f with
  | .enact p => decide (i = p.id)
  | _ => false

/-- An ENACT closes the proposal view of its id (R99). -/
def Stance.close (f : Frame) (t : Stance) : Stance :=
  { t with proposalView := t.proposalView.filter fun v => !enacts f v.id }

/-- The pair of a frame taken, and the view of an ENACT's id closed. -/
def Stance.taken (active : Bool) (d : Decision) (sender number : Nat) (view : View)
    (ann : Option Announcement) (f : Frame) (t : Stance) : Stance :=
  (t.take active d sender number view ann).close f

/-! #### What leaves it -/

@[simp] theorem Node.settle_stance (n : Node) : n.settle.stance = n.stance := by simp [Node.stance]

@[simp] theorem Node.spend_stance (k : Nat) (n : Node) : (n.spend k).stance = n.stance := by
  simp [Node.stance]

@[simp] theorem Node.abandonOwn_stance (n : Node) : n.abandonOwn.stance = n.stance := by
  simp [Node.stance, Node.abandonOwn]

@[simp] theorem Node.notice_stance (i : Nat) (n : Node) : (n.notice i).stance = n.stance := by
  simp [Node.stance]

@[simp] theorem Node.frameLost_stance (q : QueuedFrame) (n : Node) :
    (n.frameLost q).stance = n.stance := by simp [Node.stance]

@[simp] theorem Node.offer_stance (f : Frame) (n : Node) : (n.offer f).stance = n.stance := by
  simp [Node.stance]

@[simp] theorem Node.purge_stance (n : Node) : n.purge.stance = n.stance := by
  unfold Node.purge
  rw [foldl_keeps (fun m : Node => m.stance) _ (fun m q => m.frameLost_stance q)]
  rfl

/-- Participation left (R101, R141, R148). -/
@[simp] theorem Node.leaveFor_stance (p : Participation) (n : Node) :
    (n.leaveFor p).stance = n.stance := by
  have hbase : (Node.notice Notice.participationChanged
      { n with bus.participation := p, bus.joinRunning := false, bus.statusRunning := false
               bus.statusTimer := 0 }).stance = n.stance := Node.notice_stance _ _
  unfold Node.leaveFor
  dsimp only
  split
  · split <;> simpa using hbase
  · simpa using hbase

/-- A change of view reported (R87). -/
@[simp] theorem Node.viewReported_stance (before after : View) (number : Nat) (n : Node) :
    (n.viewReported before after number).stance = n.stance := by
  have hopen : ∀ k (m : Node), (m.openSpan k number).stance = m.stance := fun k m => by
    rw [(m.openSpan_eq k number).1]
    rfl
  have hmarks : ∀ m : Node, (m.marksOnView before after number).stance = m.stance := by
    intro m
    unfold Node.marksOnView
    split
    · rfl
    · split
      · rfl
      · split
        · exact hopen _ m
        · split
          · exact hopen _ m
          · rfl
  have htimer : ∀ m : Node, (m.timerOnView before after).stance = m.stance := by
    intro m
    have hdwell : m.claimDwell.stance = m.stance := by
      unfold Node.claimDwell
      split <;> rfl
    unfold Node.timerOnView
    split
    · rfl
    · split
      · split <;> rfl
      · split
        · exact hdwell
        · rfl
  have hstall : ∀ m : Node, (m.stallOnView before after).stance = m.stance := by
    intro m
    unfold Node.stallOnView
    split <;> rfl
  unfold Node.viewReported
  rw [hstall, htimer, hmarks, Node.notice_stance]

/-- Mild faults taken (R183). -/
theorem Node.takeFaults_stance {n : Node} (h : n.mild) :
    n.takeFaults.stance = n.stance ∧ n.takeFaults.bus.participation = n.bus.participation := by
  rw [(Node.takeFaults_kept n h).1]
  exact ⟨rfl, rfl⟩

/-- A block done whose faults are mild (R183). -/
theorem Node.finish_stance {n : Node} (h : n.mild) : n.finish.stance = n.stance ∧
    n.finish.bus.participation = n.bus.participation ∧ n.finish.mild := by
  have hfaults : ∀ m : Node, m.faults = n.faults →
      m.takeFaults.settle.stance = m.stance ∧
      m.takeFaults.settle.bus.participation = m.bus.participation := by
    intro m hf
    have hmild : m.mild := by
      unfold Node.mild
      rw [hf]
      exact h
    obtain ⟨hstance, hpart⟩ := Node.takeFaults_stance hmild
    exact ⟨(Node.settle_stance _).trans hstance, by simpa using hpart⟩
  have hdone : n.finish.stance = n.stance ∧ n.finish.bus.participation = n.bus.participation := by
    unfold Node.finish
    split
    · split
      · obtain ⟨hstance, hpart⟩ := hfaults (n.spend 2) (by simp)
        exact ⟨by simpa using hstance, by simpa using hpart⟩
      · obtain ⟨hstance, hpart⟩ := hfaults (n.spend 2).settle (by simp)
        exact ⟨by simpa using hstance, by simpa using hpart⟩
    · exact hfaults n rfl
  refine ⟨hdone.1, hdone.2, (congrArg Stance.escalation hdone.1).trans h.1, fun r hr => ?_⟩
  rw [n.finish_reported] at hr
  exact absurd hr List.not_mem_nil

/-! #### The Roster's part (R123, R128) -/

/-- The entries changed (R123). -/
theorem Node.entered_stance (sender : Nat) (f : Frame) (n : Node) :
    (n.entered sender f).stance = n.stance ∧
    (n.entered sender f).bus.participation = n.bus.participation := by
  rw [(n.entered_entered sender f).kept]
  exact ⟨rfl, rfl⟩

/-- The creel fault takes a station that is not JOINING to LISTEN, and nothing of its agreement (R128,
R148). -/
theorem Node.creelConflict_stance {n : Node} (h : n.mild) (hp : n.bus.participation ≠ .joining) :
    n.creelConflict.stance = n.stance ∧ n.creelConflict.mild ∧
    (n.creelConflict.active = true → n.active = true) := by
  have hfault : (n.fault .creelConflict).mild := by
    refine ⟨h.1, fun r hr => ?_⟩
    rcases List.mem_append.1 hr with hold | hnew
    · exact h.2 r hold
    · rw [List.mem_singleton.1 hnew]
      rfl
  obtain ⟨-, hmild, -⟩ := Node.takeFaults_kept _ hfault
  obtain ⟨hstance, hpart⟩ := Node.takeFaults_stance hfault
  have hnot : (n.fault .creelConflict).takeFaults.bus.participation ≠ .joining := by
    rw [hpart]
    exact hp
  unfold Node.creelConflict
  dsimp only
  generalize (n.fault .creelConflict).takeFaults = m at hmild hstance hpart hnot
  split
  · obtain ⟨hlisten, -, hfaults⟩ := m.leaveFor_leaves .listen
    have hentered : m.enterListen = m.leaveFor .listen := by simp [Node.enterListen, hnot]
    rw [hentered]
    refine ⟨(m.leaveFor_stance .listen).trans hstance, ?_, fun ha => ?_⟩
    · unfold Node.mild
      rw [hfaults]
      exact hmild
    · simp [Node.active, hlisten] at ha
  · refine ⟨hstance, hmild, fun ha => ?_⟩
    rw [Node.active, hpart] at ha
    exact ha

/-- The Roster's part leaves what a station has agreed on; it is ACTIVE on but for a creel conflict. -/
theorem Node.deliverRoster_stance {sender : Nat} {f : Frame} {n : Node} (h : n.mild)
    (hp : n.bus.participation ≠ .joining ∨ n.KeepsCreel sender f) :
    (n.deliverRoster sender f).stance = n.stance ∧ (n.deliverRoster sender f).mild ∧
    ((n.deliverRoster sender f).active = true → n.active = true) ∧
    (n.KeepsCreel sender f → (n.deliverRoster sender f).active = n.active) := by
  have htake : (n.rosterTake sender f).stance = n.stance ∧ (n.rosterTake sender f).mild ∧
      ((n.rosterTake sender f).active = true → n.active = true) ∧
      (n.KeepsCreel sender f → (n.rosterTake sender f).active = n.active) := by
    obtain ⟨hstance, hpart⟩ := n.entered_stance sender f
    have hmild := (n.entered_entered sender f).mild h
    have hactive : (n.entered sender f).active = n.active := by rw [Node.active, hpart]; rfl
    by_cases ht : n.roster.takes sender = true
    · by_cases hk : n.KeepsCreel sender f
      · rw [Node.rosterTake_entered hk ht]
        exact ⟨hstance, hmild, fun ha => hactive ▸ ha, fun _ => hactive⟩
      · rw [Node.rosterTake_takes f ht, Node.testCreel]
        split
        · obtain ⟨hs, hm, ha⟩ := Node.creelConflict_stance hmild
            (by rw [hpart]; exact hp.resolve_right hk)
          exact ⟨hs.trans hstance, hm, fun h => hactive ▸ ha h, fun h => absurd h hk⟩
        · exact ⟨hstance, hmild, fun ha => hactive ▸ ha, fun _ => hactive⟩
    · rw [Node.rosterTake_full f ht]
      refine ⟨rfl, ⟨h.1, fun r hr => ?_⟩, fun ha => ha, fun _ => rfl⟩
      rcases List.mem_append.1 hr with hold | hnew
      · exact h.2 r hold
      · rw [List.mem_singleton.1 hnew]
        rfl
  obtain ⟨hstance, hmild, hlost, hkept⟩ := htake
  obtain ⟨hs, hpart, hm⟩ := Node.finish_stance hmild
  have hactive : (n.rosterTake sender f).finish.active = (n.rosterTake sender f).active := by
    rw [Node.active, hpart]
    rfl
  exact ⟨hs.trans hstance, hm, fun ha => hlost (hactive ▸ ha), fun hk => hactive.trans (hkept hk)⟩

/-! #### The other block's part (R88 to R91, R99) -/

/-- A pair adopted (R88). -/
theorem Node.adoptPair_stance (number : Nat) (view : View) (n : Node) :
    (n.adoptPair number view).stance = n.stance.adopt number view none := by
  obtain ⟨b, hb⟩ : ∃ b : Node, b = { (if number = n.line.number then n else n.numberChanged) with
      line.view := view, line.number := number } := ⟨_, rfl⟩
  have hbase : b.stance = n.stance.adopt number view none := by
    rw [hb]
    split
    · rename_i h
      simp [Node.stance, Stance.adopt, h]
    · rename_i h
      simp [Node.stance, Stance.adopt, h, Node.numberChanged, Node.abandonOwn]
  have hadopted : n.adoptPair number view =
      if view = n.line.view then b.settle
      else (b.viewReported n.line.view view number).settle := by
    rw [hb]
    rfl
  rw [hadopted, ← hbase]
  split <;> simp

/-- Its faults are of marks, so it stays mild (R87). -/
theorem Node.adoptPair_mild (number : Nat) (view : View) {n : Node} (h : n.mild) :
    (n.adoptPair number view).mild := by
  obtain ⟨-, -, -, -, hmarks⟩ := n.adoptPair_leaves number view
  refine ⟨?_, fun r hr => ?_⟩
  · exact (congrArg Stance.escalation (n.adoptPair_stance number view)).trans h.1
  · rcases hmarks r hr with hold | hkind | hkind
    · exact h.2 r hold
    · rw [hkind]
      rfl
    · rw [hkind]
      rfl

/-- What a frame dropped leaves to report is mild (R140). -/
theorem Node.dropFault_mild (f : Frame) {n : Node} (h : n.mild) : (n.dropFault f).mild := by
  have hreports : ∀ r ∈ dropReports f, mildKind r.kind = true := by
    cases f <;> simp [dropReports, mildKind]
  rw [Node.dropFault_eq]
  exact ⟨h.1, fun r hr => (List.mem_append.1 hr).elim (h.2 r) (hreports r)⟩

/-- An offer adds mild faults alone (R139, R140). -/
theorem Node.offer_mild (f : Frame) {n : Node} (h : n.mild) : (n.offer f).mild := by
  have hlost : ∀ (q : QueuedFrame) {m : Node}, m.mild → (m.frameLost q).mild := fun q m hm => by
    unfold Node.mild
    rw [show (m.frameLost q).faults = m.faults by simp]
    exact hm
  unfold Node.offer Node.offerToFull
  split
  · exact hlost _ h
  · split
    · split
      · split
        · exact hlost _ (Node.dropFault_mild _ (n := { n with bus.queue := _ }) h)
        · exact hlost _ (Node.dropFault_mild f h)
      · exact hlost _ (Node.dropFault_mild f h)
    · exact h

/-- The announcement that a pair adopted becomes (R91). -/
theorem Node.announced_stance (a : Announcement) {m : Node} {number : Nat} {view : View} {t : Stance}
    (h : m.stance = t.adopt number view none) :
    ({ m with line.lastAnnouncement := some a } : Node).stance = t.adopt number view (some a) :=
  congrArg (fun t : Stance => { t with lastAnnouncement := some a }) h

/-- A RELAY TRIP announced (R90, R91). -/
theorem Node.relay_announced (sender number : Nat) (n : Node) :
    (n.announce true { number := evSucc number, source := .relay, detail := sender }).stance =
      n.stance.adopt (evSucc number) .trip (some (relayOf n.config.station sender number)) := by
  have h := (n.offer (.trip { number := evSucc number, source := .relay, detail := sender })
    ).adoptPair_stance (evSucc number) .trip
  rw [Node.offer_stance] at h
  exact Node.announced_stance (relayOf n.config.station sender number) h

/-- A pair taken: what is agreed on then, and faults that are mild (R88 to R91). -/
theorem Node.takePair_stance (sender number : Nat) (view : View) (clears : Bool)
    (ann : Option Announcement) (n : Node) :
    (n.takePair sender number view clears ann).stance =
      n.stance.take n.active (n.line.judge number view clears) sender number view ann ∧
    (n.mild → (n.takePair sender number view clears ann).mild) := by
  unfold Node.takePair
  split
  · rename_i hd
    rw [hd]
    exact ⟨rfl, id⟩
  · rename_i hd
    rw [hd, Node.relayTrip]
    split
    · rename_i ha
      refine ⟨?_, fun h => Node.adoptPair_mild _ _ (Node.offer_mild _ h)⟩
      rw [Node.relay_announced]
      exact (if_pos ha).symm
    · rename_i ha
      refine ⟨?_, id⟩
      rw [Stance.take, if_neg ha]
  · rename_i hd
    have hadopted := n.adoptPair_stance number view
    have hmild : n.mild → (n.adoptPair number view).mild := Node.adoptPair_mild number view
    rw [hd]
    dsimp only
    generalize n.adoptPair number view = m at hadopted hmild
    split
    · exact ⟨Node.announced_stance _ hadopted, hmild⟩
    · exact ⟨hadopted, hmild⟩

/-- A frame that is no ENACT closes no view. -/
theorem Stance.close_other {f : Frame} (t : Stance) (h : ∀ i, enacts f i = false) : t.close f = t := by
  have hall : (t.proposalView.filter fun v => !enacts f v.id) = t.proposalView := by
    cases t.proposalView <;> simp [h, Option.filter]
  rw [Stance.close, hall]

/-- The view of an ENACT's id closed (R99). -/
theorem Node.closeViewOf_stance (p : EnactPayload) (n : Node) :
    (n.closeViewOf p.id).stance = n.stance.close (.enact p) := by
  unfold Node.closeViewOf
  split
  · rename_i v hv
    split
    · rename_i hid
      simp [Node.stance, Stance.close, enacts, Option.filter, hv, hid]
    · rename_i hid
      simp [Node.stance, Stance.close, enacts, Option.filter, hv, hid]
  · rename_i hv
    simp [Node.stance, Stance.close, hv]

/-- A frame with a pair as the Line State Unit takes it. -/
theorem Node.deliver_pair {sender number : Nat} {view : View} {clears : Bool}
    {ann : Option Announcement} {f : Frame} (n : Node)
    (hf : framePair sender f = some (number, view, clears, ann)) :
    ((∃ p, f = .enact p ∧ n.deliver sender f =
      (n.takePair sender number view clears ann).closeViewOf p.id) ∨
    ((∀ i, enacts f i = false) ∧ n.deliver sender f = n.takePair sender number view clears ann)) := by
  cases f with
  | status p => cases hf; exact .inr ⟨fun _ => rfl, rfl⟩
  | stop p => cases hf; exact .inr ⟨fun _ => rfl, rfl⟩
  | trip p => cases hf; exact .inr ⟨fun _ => rfl, rfl⟩
  | enact p => cases hf; exact .inl ⟨p, rfl, rfl⟩
  | handoff p => cases hf
  | propose p => cases hf
  | assent i => cases hf
  | hold p => cases hf
  | fault p => cases hf

theorem Node.deliver_stance {sender number : Nat} {view : View} {clears : Bool}
    {ann : Option Announcement} {f : Frame} {n : Node}
    (hf : framePair sender f = some (number, view, clears, ann)) :
    (n.deliver sender f).stance =
      n.stance.taken n.active (n.line.judge number view clears) sender number view ann f ∧
    (n.mild → (n.deliver sender f).mild) := by
  obtain ⟨hstance, hmild⟩ := n.takePair_stance sender number view clears ann
  rcases n.deliver_pair hf with ⟨p, rfl, hd⟩ | ⟨hno, hd⟩
  · rw [hd, Node.closeViewOf_stance, hstance]
    refine ⟨rfl, fun h => ?_⟩
    have hm := hmild h
    unfold Node.closeViewOf
    split
    · split <;> exact hm
    · exact hm
  · rw [hd, Stance.taken, Stance.close_other _ hno]
    exact ⟨hstance, hmild⟩

/-- The other block's part leaves participation (R88, R90). -/
theorem Node.deliver_participation {sender number : Nat} {view : View} {clears : Bool}
    {ann : Option Announcement} {f : Frame} {n : Node}
    (hf : framePair sender f = some (number, view, clears, ann)) :
    (n.deliver sender f).bus.participation = n.bus.participation := by
  have htake : (n.takePair sender number view clears ann).bus.participation =
      n.bus.participation := by
    unfold Node.takePair
    split
    · rfl
    · unfold Node.relayTrip
      split
      · obtain ⟨-, -, hadopted, -⟩ := (n.offer (.trip
          { number := evSucc number, source := .relay, detail := sender })).adoptPair_leaves
          (evSucc number) .trip
        exact hadopted.trans (by simp)
      · rfl
    · obtain ⟨-, -, hadopted, -⟩ := n.adoptPair_leaves number view
      dsimp only
      split <;> exact hadopted
  rcases n.deliver_pair hf with ⟨p, rfl, hd⟩ | ⟨-, hd⟩
  · rw [hd, ← htake]
    unfold Node.closeViewOf
    split
    · split <;> rfl
    · rfl
  · rw [hd, htake]

/-! #### A frame with a pair received (R137, log 4) -/

/-- The decision is a matter of view and number (Table 5-2). -/
theorem LineState.judge_congr {l k : LineState} (number : Nat) (view : View) (clears : Bool)
    (hv : l.view = k.view) (hn : l.number = k.number) :
    l.judge number view clears = k.judge number view clears := by
  simp only [LineState.judge, hv, hn]

/-- `t` is what `n` has agreed on once the frame's pair is taken, by a station that is ACTIVE as `n` is
unless the Roster's part has taken it out of service (R128, R137). -/
def Node.TakesPair (sender number : Nat) (view : View) (clears : Bool) (ann : Option Announcement)
    (f : Frame) (n : Node) (t : Stance) : Prop :=
  ∃ active : Bool, (active = true → n.active = true) ∧ (n.KeepsCreel sender f → active = n.active) ∧
    t = n.stance.taken active (n.line.judge number view clears) sender number view ann f

theorem Node.deliverGood_stance {sender number : Nat} {view : View} {clears : Bool}
    {ann : Option Announcement} {f : Frame} {n : Node}
    (hf : framePair sender f = some (number, view, clears, ann)) (h : n.mild)
    (hp : n.bus.participation ≠ .joining ∨ n.KeepsCreel sender f) :
    n.TakesPair sender number view clears ann f (n.deliverGood sender f).stance := by
  obtain ⟨b, hb⟩ : ∃ b : Node, b = n.spend 2 := ⟨_, rfl⟩
  have hbs : b.stance = n.stance := by rw [hb, Node.spend_stance]
  have hbp : b.bus.participation = n.bus.participation := by rw [hb]; simp
  have hba : b.active = n.active := by rw [Node.active, hbp]; rfl
  have hbm : b.mild := by
    unfold Node.mild
    rw [hb, show (n.spend 2).faults = n.faults by simp]
    exact h
  have hjudge : ∀ m : Node, m.stance = n.stance →
      m.line.judge number view clears = n.line.judge number view clears := fun m hm =>
    LineState.judge_congr number view clears (congrArg Stance.view hm) (congrArg Stance.number hm)
  have hcreel : ∀ {m : Node}, m.config = n.config → m.roster = n.roster →
      (m.KeepsCreel sender f ↔ n.KeepsCreel sender f) := fun hc hr =>
    ⟨fun hk => hk.congr hc.symm hr.symm, fun hk => hk.congr hc hr⟩
  have hbk := hcreel (m := b) (by rw [hb]; simp) (by rw [hb]; simp)
  unfold Node.deliverGood
  rw [← hb]
  split
  · obtain ⟨hs, hm, hlost, hkept⟩ := Node.deliverRoster_stance hbm (hp.imp (hbp ▸ ·) hbk.2)
    generalize b.deliverRoster sender f = m at hs hm hlost hkept
    obtain ⟨hd, hdm⟩ := Node.deliver_stance (n := m) hf
    refine ⟨m.active, fun ha => hba ▸ hlost ha, fun hk => (hkept (hbk.2 hk)).trans hba, ?_⟩
    rw [Node.deliverBlock, (Node.finish_stance (hdm hm)).1, hd, hs, hbs, hjudge m (hs.trans hbs)]
  · obtain ⟨hd, hdm⟩ := Node.deliver_stance (n := b) hf
    obtain ⟨hfs, hfp, hfm⟩ := Node.finish_stance (hdm hbm)
    obtain ⟨hconf, hros, -⟩ := Node.deliverBlock_hearing (hdm hbm)
    have hpart : (b.deliverBlock sender f).bus.participation = n.bus.participation :=
      hfp.trans ((Node.deliver_participation hf).trans hbp)
    have hk := hcreel (m := b.deliverBlock sender f) (hconf.trans (by rw [hb]; simp))
      (hros.trans (by rw [hb]; simp))
    obtain ⟨hs, -⟩ := Node.deliverRoster_stance (n := b.deliverBlock sender f) hfm (hp.imp (hpart ▸ ·) hk.2)
    refine ⟨n.active, id, fun _ => rfl, ?_⟩
    rw [hs, Node.deliverBlock, hfs, hd, hbs, hba, hjudge b hbs]

/-- A good frame with a pair of another station received (R137). -/
theorem Node.receive_stance {sender number : Nat} {view : View} {clears : Bool}
    {ann : Option Announcement} {f : Frame} {n : Node}
    (hf : framePair sender f = some (number, view, clears, ann)) (hs : stationOk sender = true)
    (hok : frameOk f = true) (hr : n.receiving = true) (ho : sender ≠ n.config.station) (hc : n.calm)
    (hp : n.bus.participation ≠ .joining ∨ n.KeepsCreel sender f) :
    n.TakesPair sender number view clears ann f (n.receive sender f).stance := by
  obtain ⟨b, hb⟩ : ∃ b : Node, b = n.lineIdle.report (CounterEvent.frameReceived 0) := ⟨_, rfl⟩
  have hstance : b.stance = n.stance := by
    rw [hb]
    simp [Node.stance, Node.lineIdle]
  have hpart : b.bus.participation = n.bus.participation := by
    rw [hb]
    simp [Node.lineIdle]
  have hactive : b.active = n.active := by rw [Node.active, hpart]; rfl
  have hmild : b.mild := Node.mild_of_calm ⟨(congrArg Stance.escalation hstance).trans hc.1, by
    rw [hb]
    simpa [Node.lineIdle] using hc.2⟩
  have hconf : b.config = n.config := congrArg Stance.config hstance
  have hros : b.roster = n.roster := by
    rw [hb]
    simp [Node.lineIdle]
  rw [Node.receive_good hs hok hr ho, ← hb]
  obtain ⟨a, hlost, hkept, he⟩ := Node.deliverGood_stance hf hmild
    (hp.imp (hpart ▸ ·) fun hk => hk.congr hconf hros)
  refine ⟨a, fun h => hactive ▸ hlost h, fun hk => hactive ▸ hkept (hk.congr hconf hros), ?_⟩
  rw [he, hstance, LineState.judge_congr number view clears (congrArg Stance.view hstance)
    (congrArg Stance.number hstance)]

end Sys2Proof.Machine
/-! ### Pairs and the own proposal (R86 to R91, R99, R101) -/

namespace Sys2Proof.Machine

/-! #### Event numbers and Table 5-2 (R86, R88 to R90) -/

/-- A number one newer than a newer one is another one (R86). -/
theorem evSucc_ne_of_newer {a b : Nat} (ha : a ≤ 65535) (h : evNewer a b = true) : evSucc a ≠ b := by
  simp only [evNewer, Bool.and_eq_true, decide_eq_true_eq] at h
  obtain ⟨-, hfar⟩ := h
  unfold evDist at hfar
  unfold evSucc
  split at hfar <;> omega

/-- The number of a frame is an event number (R86). -/
theorem framePair_number {sender number : Nat} {view : View} {clears : Bool} {ann : Option Announcement}
    {f : Frame} (hf : framePair sender f = some (number, view, clears, ann)) (hok : frameOk f = true) :
    number ≤ 65535 := by
  cases f with
  | status p => cases hf; simp [frameOk, word16Ok] at hok; omega
  | stop p => cases hf; simp [frameOk, word16Ok] at hok; omega
  | trip p => cases hf; simp [frameOk, word16Ok] at hok; omega
  | enact p => cases hf; simp [frameOk, word16Ok] at hok; omega
  | handoff p => cases hf
  | propose p => cases hf
  | assent i => cases hf
  | hold p => cases hf
  | fault p => cases hf

/-- When a pair is adopted (Table 5-2). -/
theorem LineState.judge_adopt (l : LineState) (number : Nat) (view : View) (clears : Bool) :
    l.judge number view clears = .adopt ↔ l.view = .unknown ∨
      (l.view = .trip ∧ evNewer number l.number = true ∧ (view = .trip ∨ clears = true)) ∨
      (l.view ≠ .unknown ∧ l.view ≠ .trip ∧
        (evNewer number l.number = true ∨ (number = l.number ∧ view.rank < l.view.rank))) := by
  have hmoving : ∀ v, v ≠ View.unknown → v ≠ View.trip →
      ((if evNewer number l.number then Decision.adopt
        else if number = l.number ∧ view.rank < v.rank then .adopt else .ignore) = .adopt ↔
        evNewer number l.number = true ∨ (number = l.number ∧ view.rank < v.rank)) := by
    intro v _ _
    by_cases hn : evNewer number l.number = true
    · simp [hn]
    · by_cases hr : number = l.number ∧ view.rank < v.rank <;> simp [hn, hr]
  unfold LineState.judge
  cases hv : l.view with
  | unknown => simp
  | trip =>
    by_cases hn : evNewer number l.number = true
    · by_cases hcl : view = .trip ∨ clears = true <;> simp [hn, hcl]
    · simp [hn]
  | standstill => simpa using hmoving .standstill (by decide) (by decide)
  | creep => simpa using hmoving .creep (by decide) (by decide)
  | run => simpa using hmoving .run (by decide) (by decide)

/-- When a pair makes a RELAY TRIP of an ACTIVE station (R90). -/
theorem LineState.judge_relay (l : LineState) (number : Nat) (view : View) (clears : Bool) :
    l.judge number view clears = .relay ↔
      l.view = .trip ∧ evNewer number l.number = true ∧ ¬(view = .trip ∨ clears = true) := by
  have hmoving : ∀ v : View, (if evNewer number l.number then Decision.adopt
      else if number = l.number ∧ view.rank < v.rank then .adopt else .ignore) ≠ .relay := by
    intro v
    split
    · decide
    · split <;> decide
  unfold LineState.judge
  cases hv : l.view with
  | unknown => simp
  | trip =>
    by_cases hn : evNewer number l.number = true
    · by_cases hcl : view = .trip ∨ clears = true <;> simp [hn, hcl]
    · simp [hn]
  | standstill => simpa using hmoving .standstill
  | creep => simpa using hmoving .creep
  | run => simpa using hmoving .run

/-! #### What a decision leaves of the agreement (R88 to R91, R99) -/

section Taken

variable {active : Bool} {d : Decision} (sender : Nat) {number : Nat} (view : View)
  (ann : Option Announcement) (f : Frame) (t : Stance)

theorem Stance.taken_ignored (h : d = .ignore ∨ (d = .relay ∧ active = false)) :
    t.taken active d sender number view ann f = t.close f := by
  rcases h with rfl | ⟨rfl, rfl⟩ <;> rfl

/-- The decision changes the number (R99, R101). -/
def Renumbers (active : Bool) (d : Decision) (number k : Nat) : Prop :=
  (d = .adopt ∧ number ≠ k) ∨ (d = .relay ∧ active = true ∧ evSucc number ≠ k)

theorem Stance.taken_renumbered (h : Renumbers active d number t.number) :
    (t.taken active d sender number view ann f).proposalView = none := by
  have hnone : (t.take active d sender number view ann).proposalView = none := by
    rcases h with ⟨rfl, hne⟩ | ⟨rfl, rfl, hne⟩
    · exact if_neg hne
    · exact if_neg hne
  simp [Stance.taken, Stance.close, hnone]

/-- Besides, the proposal view is what it was, or none. -/
theorem Stance.take_proposalView : (t.take active d sender number view ann).proposalView = t.proposalView ∨
    (t.take active d sender number view ann).proposalView = none := by
  have hadopt : ∀ k v a, (t.adopt k v a).proposalView = t.proposalView ∨
      (t.adopt k v a).proposalView = none := fun k _ _ => by
    by_cases hk : k = t.number
    · exact .inl (if_pos hk)
    · exact .inr (if_neg hk)
  cases d with
  | ignore => exact .inl rfl
  | adopt => exact hadopt _ _ _
  | relay =>
    cases active with
    | false => exact .inl rfl
    | true => exact hadopt _ _ _

/-- An ENACT closes the view of its id, whatever becomes of its pair (R99). -/
theorem Stance.taken_closed {v : ProposalView} (hv : t.proposalView = some v) (hf : enacts f v.id = true) :
    (t.taken active d sender number view ann f).proposalView = none := by
  rcases t.take_proposalView (active := active) (d := d) sender (number := number) view ann with h | h
  · simp [Stance.taken, Stance.close, h, hv, hf, Option.filter]
  · simp [Stance.taken, Stance.close, h]

/-- Else a pair that leaves the number leaves the view (R99, log 47). -/
theorem Stance.taken_open (hadopt : d = .adopt → number = t.number) (hrelay : d = .relay → active = false)
    (hf : ∀ v, t.proposalView = some v → enacts f v.id = false) :
    (t.taken active d sender number view ann f).proposalView = t.proposalView := by
  have hsame : (t.take active d sender number view ann).proposalView = t.proposalView := by
    cases d with
    | ignore => rfl
    | adopt => exact if_pos (hadopt rfl)
    | relay => rw [hrelay rfl]; rfl
  rw [Stance.taken, Stance.close, hsame]
  cases hv : t.proposalView with
  | none => rfl
  | some v => simp [Option.filter, hf v hv]

end Taken

/-! #### The own proposal at a change of number (R101, R141) -/

/-- `t` has ended the own proposal `o` ABANDONED, its PROPOSE withdrawn, and can settle. -/
structure Node.Abandons (o : OwnProposal) (t : Node) : Prop where
  mild : t.mild
  lines : t.linesFollow
  own : t.line.own = none
  outcome : t.line.lastOutcome = some { id := o.id, outcome := .abandoned }
  noticed : t.noticed Notice.proposalResult = true
  withdrawn : ∀ q ∈ t.bus.queue, q.isPropose = true → q.inTransmission = true ∧ q.withdrawn = true

/-- The last announcement and the proposal view are no part of it. -/
theorem Node.Abandons.reline {o : OwnProposal} {t : Node} (h : t.Abandons o) (v : Option ProposalView)
    (a : Option Announcement) :
    ({ t with line.proposalView := v, line.lastAnnouncement := a } : Node).Abandons o :=
  ⟨h.mild, Node.linesFollow_congr (n := t) rfl rfl rfl rfl rfl rfl rfl h.lines, h.own, h.outcome,
    h.noticed, h.withdrawn⟩

/-- A number adopted that is not the own one ends the own proposal (R101). -/
theorem Node.adoptPair_abandons {number : Nat} (view : View) {n : Node} {o : OwnProposal}
    (ho : n.line.own = some o) (hne : number ≠ n.line.number) (hm : n.mild)
    (hd : n.prot.driven = n.configured) : (n.adoptPair number view).Abandons o := by
  obtain ⟨hline, hnotice, hbus⟩ := Node.endAndWithdraw_ends .abandoned ho
  obtain ⟨b, hb⟩ : ∃ b : Node, b = { n.abandonOwn with
      line := { n.abandonOwn.line with view := view, number := number, proposalView := none } } := ⟨_, rfl⟩
  have hbase : b.line.own = none ∧ b.line.lastOutcome = some { id := o.id, outcome := .abandoned } ∧
      b.noticed Notice.proposalResult = true ∧ b.bus.queue = withdrawPropose n.bus.queue := by
    rw [hb]
    exact ⟨congrArg LineState.own hline, congrArg LineState.lastOutcome hline, hnotice,
      congrArg LineBus.queue hbus⟩
  have hadopted : ∃ r : Node, n.adoptPair number view = r.settle ∧ r.line = b.line ∧ r.bus = b.bus ∧
      r.keepsNotices b := by
    have heq : n.adoptPair number view = if view = n.line.view then b.settle
        else (b.viewReported n.line.view view number).settle := by
      rw [Node.adoptPair, if_neg hne, hb]
      rfl
    rw [heq]
    split
    · exact ⟨b, rfl, rfl, rfl, fun _ hi => hi⟩
    · obtain ⟨hl, hq, -⟩ := b.viewReported_leaves n.line.view view number
      exact ⟨_, rfl, hl, hq, (b.viewReported_roster _ _ _).2⟩
  have hmild := Node.adoptPair_mild number view hm
  have hstanding := n.adoptPair_standing number view
  obtain ⟨hown, hout, hnoticed, hqueue⟩ := hbase
  obtain ⟨r, hr, hrl, hrb, hrn⟩ := hadopted
  rw [hr] at hmild hstanding ⊢
  obtain ⟨hsline, hsbus, -⟩ := r.settle_none (by rw [hrl, hown])
  have hdriven : r.prot.driven = r.configured :=
    calc r.prot.driven
        = r.settle.prot.driven := by simp
      _ = n.prot.driven := congrArg Standing.driven hstanding
      _ = n.configured := hd
      _ = r.settle.configured := (congrArg Standing.started hstanding).symm
      _ = r.configured := by simp [Node.configured]
  refine ⟨hmild, r.settle_linesFollow hdriven, by rw [hsline, hrl, hown], by rw [hsline, hrl, hout],
    r.settle_keepsNotices _ (hrn _ hnoticed), fun q hq hp => ?_⟩
  rw [hsbus, hrb, hqueue] at hq
  exact withdrawPropose_withdrawn hq hp

/-- A TRIP offered evicts no PROPOSE and no ENACT, so the line state stands (R140). -/
theorem Node.offer_trip_line (p : AnnouncePayload) (n : Node) : (n.offer (.trip p)).line = n.line := by
  have hevicted : ∀ (x : QueuedFrame) (m : Node), x.evictable = true →
      (m.frameLost x).line = m.line := by
    intro x m hx
    obtain ⟨hclass, -⟩ := x.evictable_iff.1 hx
    unfold Node.frameLost
    cases hf : x.frame <;> simp [hf, Frame.cls] at hclass ⊢
  have hrefused : ((n.dropFault (.trip p)).frameLost (QueuedFrame.fresh (.trip p) false)).line =
      n.line := by
    show (n.dropFault (.trip p)).line = n.line
    simp
  unfold Node.offer Node.offerToFull
  split
  · rfl
  · split
    · split
      · split
        · rename_i x hx
          exact (hevicted x _ (List.find?_some hx)).trans (by simp)
        · exact hrefused
      · exact hrefused
    · rfl

/-- A RELAY TRIP of another number ends the own proposal (R90, R101). -/
theorem Node.relay_abandons (sender : Nat) {number : Nat} {n : Node} {o : OwnProposal}
    (ho : n.line.own = some o) (hne : evSucc number ≠ n.line.number) (hm : n.mild)
    (hd : n.prot.driven = n.configured) :
    (n.announce true { number := evSucc number, source := .relay, detail := sender }).Abandons o := by
  obtain ⟨m, hoffer⟩ : ∃ m : Node, m =
      n.offer (.trip { number := evSucc number, source := .relay, detail := sender }) := ⟨_, rfl⟩
  have hline : m.line = n.line := by rw [hoffer, Node.offer_trip_line]
  have hstanding : m.standing = n.standing := by rw [hoffer, Node.offer_standing]
  have hdriven : m.prot.driven = m.configured :=
    (congrArg Standing.driven hstanding).trans (hd.trans (congrArg Standing.started hstanding).symm)
  have habandons := Node.adoptPair_abandons (number := evSucc number) .trip (by rw [hline]; exact ho)
    (by rw [hline]; exact hne) (hoffer ▸ Node.offer_mild _ hm) hdriven
  have hannounced : n.announce true { number := evSucc number, source := .relay, detail := sender } =
      { m.adoptPair (evSucc number) .trip with
        line.lastAnnouncement := some (relayOf n.config.station sender number) } := by
    rw [hoffer]
    rfl
  rw [hannounced]
  exact habandons.reline _ _

/-- A pair that changes the number ends the own proposal (R99, R101). -/
theorem Node.deliver_abandons {sender number : Nat} {view : View} {clears : Bool}
    {ann : Option Announcement} {f : Frame} {n : Node} {o : OwnProposal}
    (hf : framePair sender f = some (number, view, clears, ann)) (ho : n.line.own = some o)
    (h : Renumbers n.active (n.line.judge number view clears) number n.line.number) (hm : n.mild)
    (hd : n.prot.driven = n.configured) : (n.deliver sender f).Abandons o := by
  have htake : (n.takePair sender number view clears ann).Abandons o := by
    unfold Node.takePair
    rcases h with ⟨hj, hne⟩ | ⟨hj, ha, hne⟩
    · have hadopted := Node.adoptPair_abandons view ho hne hm hd
      rw [hj]
      dsimp only
      split
      · exact hadopted.reline _ _
      · exact hadopted
    · rw [hj]
      dsimp only
      rw [Node.relayTrip, if_pos ha]
      exact Node.relay_abandons sender ho hne hm hd
  rcases n.deliver_pair hf with ⟨p, -, he⟩ | ⟨-, he⟩
  · rw [he]
    unfold Node.closeViewOf
    split
    · split
      · exact htake.reline _ _
      · exact htake
    · exact htake
  · rw [he]
    exact htake

/-- A pair not taken leaves all but the proposal view of an ENACT's id (R88, R99). -/
theorem Node.deliver_ignored {sender number : Nat} {view : View} {clears : Bool}
    {ann : Option Announcement} {f : Frame} {n : Node}
    (hf : framePair sender f = some (number, view, clears, ann))
    (h : n.line.judge number view clears = .ignore ∨
      (n.line.judge number view clears = .relay ∧ n.active = false)) :
    ∃ v, n.deliver sender f = { n with line.proposalView := v } := by
  have htake : n.takePair sender number view clears ann = n := by
    unfold Node.takePair
    rcases h with hj | ⟨hj, ha⟩
    · rw [hj]
    · rw [hj]
      exact if_neg (by simp [ha])
  rcases n.deliver_pair hf with ⟨p, -, he⟩ | ⟨-, he⟩
  · rw [he, htake]
    unfold Node.closeViewOf
    split
    · split
      · exact ⟨none, rfl⟩
      · exact ⟨_, rfl⟩
    · exact ⟨_, rfl⟩
  · rw [he, htake]
    exact ⟨_, rfl⟩

/-! #### The frames as received (R128, R137) -/

/-- A receive command is the frame received (R137). -/
theorem exec_received {c : Instr} {sender : Nat} {f : Frame} (s : State)
    (h : receivedFrame c = some (sender, f)) :
    exec c s = .next { s with node := s.node.receive sender f } := by
  cases c with
  | receiveStatus i p => cases h; rfl
  | receiveHandoff i p => cases h; rfl
  | receiveStop i p => cases h; rfl
  | receiveTrip i p => cases h; rfl
  | receivePropose i p => cases h; rfl
  | receiveAssent i p => cases h; rfl
  | receiveHold i p => cases h; rfl
  | receiveEnact i p => cases h; rfl
  | receiveFault i p => cases h; rfl
  | _ => cases h

/-- When no frame of the sender makes the creel condition true (R128). -/
theorem Node.keepsCreel_of {sender : Nat} {f : Frame} {n : Node}
    (h : n.isOrigin = false ∨ n.config.station < sender ∨ n.creel = true ∨
      ((∀ p, f = .status p → p.descriptor.role ≠ .origin) ∧
        ∀ e d, n.roster.entry? sender = some e → e.descriptor = some d → d.role ≠ .origin)) :
    n.KeepsCreel sender f := by
  intro horigin hcreel
  have hstation := n.roster.entryAfter_station sender f
  rcases h with ho | hs | hc | ⟨hstatus, hentry⟩
  · exact absurd (horigin.symm.trans ho) (by decide)
  · simp only [RosterEntry.creel, hstation, Bool.and_eq_true, decide_eq_true_eq] at hcreel
    omega
  · exact hc
  · exfalso
    have hold : ∀ d, ((n.roster.entry? sender).getD (RosterEntry.blank sender)).descriptor = some d →
        d.role ≠ .origin := by
      intro d hd
      cases he : n.roster.entry? sender with
      | none => simp [he, RosterEntry.blank] at hd
      | some e =>
        rw [he] at hd
        exact hentry e d he hd
    have hafter : ∀ d, (n.roster.entryAfter sender f).descriptor = some d → d.role ≠ .origin := by
      intro d hd
      cases f with
      | status p => cases hd; exact hstatus p rfl
      | _ => exact hold d hd
    cases hd : (n.roster.entryAfter sender f).descriptor with
    | none => simp [RosterEntry.creel, hd] at hcreel
    | some d => simp [RosterEntry.creel, hd, hafter d hd] at hcreel

end Sys2Proof.Machine
namespace Sys2Proof.Machine

/-! #### The own proposal as a frame with a pair leaves it (R99, R101, R137) -/

section Received

variable {sender number : Nat} {view : View} {clears : Bool} {ann : Option Announcement} {f : Frame}
  {n : Node} {o : OwnProposal}

/-- A frame that changes the number ends the own proposal (R101). -/
theorem Node.receive_abandons (hf : framePair sender f = some (number, view, clears, ann))
    (hs : stationOk sender = true) (hok : frameOk f = true) (hr : n.receiving = true)
    (hother : sender ≠ n.config.station) (hc : n.calm) (hl : n.linesFollow)
    (hh : n.HearsCalmly sender f) (ho : n.line.own = some o) (hheld : n.holdReasons o.target = [])
    (h : Renumbers n.active (n.line.judge number view clears) number n.line.number) :
    (n.receive sender f).line.own = none ∧
    (n.receive sender f).line.lastOutcome = some { id := o.id, outcome := .abandoned } ∧
    (n.receive sender f).noticed Notice.proposalResult = true ∧
    ∀ q ∈ (n.receive sender f).bus.queue, q.isPropose = true →
      q.inTransmission = true ∧ q.withdrawn = true := by
  have habandons : ∀ m : Node, m.Undisturbed 1 n → m.calm → (m.deliver sender f).Abandons o := by
    intro m hm hmc
    obtain ⟨hline, hactive, -⟩ := hm.same
    exact Node.deliver_abandons hf (by rw [hline, ho]) (by rwa [hline, hactive])
      (Node.mild_of_calm hmc) (Node.linesFollow_of_bearing hm.bearing hl).1
  obtain ⟨m, hm, hmc, k, ht⟩ := Node.receive_undisturbed hs hok hr hother hc hl
    (Node.unheld_of_own ho hheld) hh fun m hm hmc =>
      ⟨(habandons m hm hmc).mild, (habandons m hm hmc).lines,
        Node.unheld_of_none (habandons m hm hmc).own⟩
  have hdone := habandons m hm hmc
  refine ⟨?_, ?_, ht.notices _ hdone.noticed, fun q hq hp => hdone.withdrawn q (ht.proposes hq hp) hp⟩
  · rw [ht.line, hdone.own]
  · rw [ht.line, hdone.outcome]

/-- A frame whose pair is not taken leaves it (R101). -/
theorem Node.receive_ignored (hf : framePair sender f = some (number, view, clears, ann))
    (hs : stationOk sender = true) (hok : frameOk f = true) (hr : n.receiving = true)
    (hother : sender ≠ n.config.station) (hc : n.calm) (hl : n.linesFollow)
    (hh : n.HearsCalmly sender f) (ho : n.line.own = some o) (hheld : n.holdReasons o.target = [])
    (h : n.line.judge number view clears = .ignore ∨
      (n.line.judge number view clears = .relay ∧ n.active = false)) :
    (n.receive sender f).line.own = some o ∧
    (n.receive sender f).line.lastOutcome = n.line.lastOutcome := by
  have hignored : ∀ m : Node, m.Undisturbed 1 n →
      ∃ v, m.deliver sender f = { m with line.proposalView := v } := by
    intro m hm
    obtain ⟨hline, hactive, -⟩ := hm.same
    exact Node.deliver_ignored hf (by rwa [hline, hactive])
  have hu := Node.unheld_of_own ho hheld
  obtain ⟨m, hm, -, k, ht⟩ := Node.receive_undisturbed hs hok hr hother hc hl hu hh fun m hm hmc => by
    obtain ⟨v, hd⟩ := hignored m hm
    rw [hd]
    exact ⟨Node.mild_of_calm hmc, Node.linesFollow_congr (n := m) rfl rfl rfl rfl rfl rfl rfl
      (Node.linesFollow_of_bearing hm.bearing hl), fun o ho => Node.unheld_of_bearing hm.bearing hu o ho⟩
  obtain ⟨v, hd⟩ := hignored m hm
  have hline := ht.line
  rw [hd] at hline
  exact ⟨by rw [hline]; exact (congrArg LineState.own hm.line).trans ho,
    by rw [hline]; exact (congrArg LineState.lastOutcome hm.line : m.line.lastOutcome = _)⟩

end Received

/-- Forward distance of event numbers (R86). -/
theorem eventNumbers_compare (a b : Nat) (ha : a ≤ 65535) :
    (evSucc a = if a = 65535 then 0 else a + 1) ∧
    (evNewer a b = true ↔ 1 ≤ evDist b a ∧ evDist b a ≤ 32767) := by
  refine ⟨?_, by simp [evNewer]⟩
  unfold evSucc
  split <;> omega

/-- Settles O43: the agreement by the decision and whether the station is still ACTIVE when the pair is
taken; the own proposal by whether the number changes. -/
theorem framesAdoptPairs : Obligations.FramesAdoptPairs := by
  refine ⟨?_, fun a b ha _ => eventNumbers_compare a b ha⟩
  intro c sender number view clears ann f s hc hf hs hok hr hother hcalm calmCreel hp own newer clearing
    adopted relayed
  have hkeeps : calmCreel → s.node.KeepsCreel sender f := Node.keepsCreel_of
  have hadopted : adopted ↔ s.node.line.judge number view clears = .adopt :=
    (s.node.line.judge_adopt number view clears).symm
  have hrelayed : relayed ↔ s.node.line.judge number view clears = .relay ∧ s.node.active = true := by
    rw [LineState.judge_relay]
    simp only [relayed, newer, clearing, own, and_assoc]
  have hnot : ¬adopted → ¬relayed → s.node.line.judge number view clears = .ignore ∨
      (s.node.line.judge number view clears = .relay ∧ s.node.active = false) := by
    intro h1 h2
    rw [hadopted] at h1
    rw [hrelayed] at h2
    cases hd : s.node.line.judge number view clears with
    | ignore => exact .inl rfl
    | adopt => exact absurd hd h1
    | relay => exact .inr ⟨rfl, by simpa using fun ha => h2 ⟨hd, ha⟩⟩
  have hsucc : relayed → evSucc number ≠ s.node.line.number := fun ⟨_, hnewer, _⟩ =>
    evSucc_ne_of_newer (framePair_number hf hok) hnewer
  obtain ⟨a, hlost, hkept, ht⟩ := Node.receive_stance hf hs hok hr hother hcalm (hp.imp id hkeeps)
  have hrenumbers : (adopted ∧ number ≠ own.number) ∨ (relayed ∧ calmCreel) →
      Renumbers a (s.node.line.judge number view clears) number s.node.line.number := by
    rintro (⟨h, hne⟩ | ⟨h, hk⟩)
    · exact .inl ⟨hadopted.1 h, hne⟩
    · exact .inr ⟨(hrelayed.1 h).1, (hkept (hkeeps hk)).trans (hrelayed.1 h).2, hsucc h⟩
  refine ⟨_, exec_received s hc, rfl, fun h => ?_, fun h hk => ?_, fun h1 h2 => ?_,
    fun h => ?_, fun h1 h2 h3 => ?_, fun o ho hsource hk hl hheld => ?_⟩
  · rw [hadopted.1 h] at ht
    refine ⟨congrArg Stance.view ht, congrArg Stance.number ht,
      (congrArg Stance.lastAnnouncement ht).trans ?_⟩
    cases ann <;> rfl
  · obtain ⟨hd, hactive⟩ := hrelayed.1 h
    rw [hd, (hkept (hkeeps hk)).trans hactive] at ht
    exact ⟨congrArg Stance.view ht, congrArg Stance.number ht, congrArg Stance.lastAnnouncement ht⟩
  · have hignored : (s.node.receive sender f).stance = s.node.stance.close f :=
      ht.trans (Stance.taken_ignored _ _ _ _ _
        ((hnot h1 h2).imp id fun ⟨hd, hactive⟩ => ⟨hd, by
          cases a with
          | false => rfl
          | true => exact absurd (hlost rfl) (by simp [hactive])⟩))
    exact ⟨congrArg Stance.view hignored, congrArg Stance.number hignored,
      congrArg Stance.lastAnnouncement hignored⟩
  · refine (congrArg Stance.proposalView ht).trans ?_
    rcases h with h | ⟨p, v, rfl, hv, hid⟩
    · exact Stance.taken_renumbered _ _ _ _ _ (hrenumbers h)
    · exact Stance.taken_closed _ _ _ _ _ hv (decide_eq_true hid)
  · refine (congrArg Stance.proposalView ht).trans (Stance.taken_open _ _ _ _ _ (fun hd => ?_)
      (fun hd => ?_) fun v hv => ?_)
    · by_contra hne
      exact h1 (.inl ⟨hadopted.2 hd, hne⟩)
    · by_contra ha
      exact h2 (hrelayed.2 ⟨hd, hlost (by simpa using ha)⟩)
    · cases f with
      | enact p => exact decide_eq_false fun hid => h3 ⟨p, v, rfl, hv, hid⟩
      | _ => rfl
  · have hh : s.node.HearsCalmly sender f := ⟨hkeeps hk, .inl hsource⟩
    refine ⟨fun h => ?_, fun h1 h2 => ?_⟩
    · have hren := hrenumbers h
      rw [hkept (hkeeps hk)] at hren
      exact Node.receive_abandons hf hs hok hr hother hcalm hl hh ho hheld hren
    · exact Node.receive_ignored hf hs hok hr hother hcalm hl hh ho hheld (hnot h1 h2)

end Sys2Proof.Machine

/-! ### The output pins and the action lines (R113 to R116, R135, R154, R157, R159, R175, R180, R181) -/

namespace Sys2Proof.Machine

/-! #### The action lines (R113, R114, R116) -/

/-- A line's condition by its code (Table 6-3). -/
theorem Node.lineCondition_iff (n : Node) (a : ActionConfig) :
    (a.condition = 1 → (n.lineCondition a = true ↔ a.parameter.testBit n.line.view.code = true)) ∧
    (a.condition = 2 → (n.lineCondition a = true ↔
      n.bus.participation ≠ .unconfigured ∧ n.config.dwell1 ≤ n.prot.timer)) ∧
    (a.condition = 3 → (n.lineCondition a = true ↔
      n.bus.participation ≠ .unconfigured ∧ n.config.dwell2 ≤ n.prot.timer)) ∧
    (a.condition = 4 → (n.lineCondition a = true ↔
      ∃ m ∈ n.marks.table, a.parameter.testBit (m.kind.code - 1) = true)) ∧
    (a.condition = 5 → (n.lineCondition a = true ↔
      (n.config.channels.get a.parameter).enable ≠ 0 ∧
        (n.sensor.channels.get a.parameter).out = true)) ∧
    (a.condition = 6 → (n.lineCondition a = true ↔
      (n.config.channels.get a.parameter).enable ≠ 0 ∧
        (n.sensor.channels.get a.parameter).failed = true)) ∧
    (a.condition = 7 → (n.lineCondition a = true ↔ n.len.source = .derived)) ∧
    (a.condition = 8 → (n.lineCondition a = true ↔ n.bus.participation ≠ .active)) := by
  refine ⟨fun h => ?_, fun h => ?_, fun h => ?_, fun h => ?_, fun h => ?_, fun h => ?_, fun h => ?_,
    fun h => ?_⟩
  · simp [Node.lineCondition, h]
  · simp [Node.lineCondition, h, Node.dwell1, Node.configured]
  · simp [Node.lineCondition, h, Node.dwell2, Node.configured]
  · simp [Node.lineCondition, h, Node.spanOpen]
  · simp [Node.lineCondition, h, Node.sensorOut, ChannelConfig.enabled]
  · simp [Node.lineCondition, h, Node.sensorFailed, ChannelConfig.enabled]
  · simp [Node.lineCondition, h, Node.lengthDerived]
  · simp [Node.lineCondition, h, Node.active]

/-- A line evaluated (R114, R116). -/
theorem Node.evalLine_iff (n : Node) (a : ActionConfig) (l : ActionLine) :
    ((n.evalLine a l).latch = true ↔
      a.latch ≠ 0 ∧ n.line.view ≠ .run ∧ (l.latch = true ∨ n.lineCondition a = true)) ∧
    ((n.evalLine a l).asserted = true ↔ n.lineCondition a = true ∨ (n.evalLine a l).latch = true) := by
  simp [Node.evalLine, latchAfter, and_assoc]

/-- Each driven line is evaluated with its own settings (R114). -/
theorem Node.evalLines_get (n : Node) (i : Nat) (h : n.prot.driven = true) :
    n.evalLines.prot.lines.get i = n.evalLine (n.config.lines.get i) (n.prot.lines.get i) := by
  rw [Node.evalLines, if_pos h]
  exact Quad.get_zip _ _ _ i

/-! #### The pins of the action lines, the notices and the station port (R115, R154, R175, R180, R181) -/

/-- An ACT pin is driven from START while RESET_N is negated (R115, R180). -/
theorem Node.actPin_eq (n : Node) (i : Nat) : n.actPin i =
    if n.prot.driven = true ∧ n.inReset = false then
      some (if (n.config.lines.get i).polarity = 0 then (n.prot.lines.get i).asserted
        else !(n.prot.lines.get i).asserted)
    else none := by
  unfold Node.actPin
  rw [Node.pinHigh_eq]
  cases n.prot.driven <;> cases n.inReset <;> rfl

/-- NOTICE_N is low while a flag is set that the mask lets through (R181). -/
theorem Node.noticePin_low_iff (n : Node) : n.noticePin = false ↔
    ∃ i, n.port.notices.getLsbD i = true ∧ n.port.mask.getLsbD i = false := by
  have hbit : ∀ i, (n.port.notices &&& ~~~n.port.mask).getLsbD i = true ↔
      n.port.notices.getLsbD i = true ∧ n.port.mask.getLsbD i = false := by
    intro i
    rw [BitVec.getLsbD_and, BitVec.getLsbD_not, Bool.and_eq_true, Bool.and_eq_true]
    refine and_congr_right fun hi => ?_
    simp [BitVec.lt_of_getLsbD hi]
  simp only [← hbit]
  unfold Node.noticePin Node.noticeAsserted
  rw [Bool.not_eq_false', bne_iff_ne]
  refine ⟨fun h => ?_, fun ⟨i, hi⟩ h => ?_⟩
  · by_contra hnone
    push Not at hnone
    exact h (BitVec.eq_of_getLsbD_eq fun i _ => by simpa using hnone i)
  · rw [h] at hi
    simp at hi

/-- SDO is driven while CS_N is asserted and RESET_N is not, with the held response and zeros (R154, R175,
R180). -/
theorem Node.sdoPin_cases (n : Node) (k : Nat) :
    n.sdoPin false k = none ∧ (n.inReset = true → n.sdoPin true k = none) ∧
    (n.inReset = false → n.port.response = none → n.sdoPin true k = some (List.replicate k 0)) ∧
    (∀ r, n.inReset = false → n.port.response = some r →
      n.sdoPin true k = some ((r ++ List.replicate k 0).take k)) := by
  refine ⟨rfl, fun h => ?_, fun h hr => ?_, fun r h hr => ?_⟩
  · simp [Node.sdoPin, h]
  · simp [Node.sdoPin, Node.sdoBytes, h, hr]
  · simp [Node.sdoPin, Node.sdoBytes, h, hr]

/-! #### The pins of the Sensor Port (R157, R159) -/

/-- Without a transaction no channel is selected, and SSCK and SSDO are low (R157, log 45). -/
theorem Node.sensorPins_idle (n : Node) (h : n.sensor.transaction = none) :
    (∀ i, n.selPin i = true) ∧ (∀ p high, n.ssckPin p high = false) ∧ (∀ p, n.ssdoPin p = false) := by
  refine ⟨fun i => ?_, fun p high => ?_, fun p => ?_⟩
  · simp [Node.selPin, SensorPort.selected, h]
  · simp [Node.ssckPin, h]
  · simp [Node.ssdoPin, h]

/-- The bits of bytes, most significant first (R159). -/
def byteBits (bytes : List Byte) : List Bool :=
  bytes.flatMap fun b => (List.range 8).map fun i => b.getMsbD i

theorem byteBits_length (bytes : List Byte) : (byteBits bytes).length = 8 * bytes.length := by
  simp [byteBits, List.length_flatMap, Nat.mul_comm]

theorem byteBits_cons (b : Byte) (bytes : List Byte) :
    byteBits (b :: bytes) = byteBits [b] ++ byteBits bytes := by simp [byteBits]

/-- Bit `j` of byte `i` stands behind the eight of each byte before it. -/
theorem byteBits_getElem? (bytes : List Byte) (i j : Nat) (b : Byte) (hi : bytes[i]? = some b)
    (hj : j < 8) : (byteBits bytes)[8 * i + j]? = some (b.getMsbD j) := by
  induction bytes generalizing i with
  | nil => cases hi
  | cons c bytes ih =>
    have hlength : (byteBits [c]).length = 8 := byteBits_length [c]
    rw [byteBits_cons]
    cases i with
    | zero =>
      obtain rfl : c = b := by simpa using hi
      rw [List.getElem?_append_left (by omega)]
      simp [byteBits, hj]
    | succ i =>
      have hplace : 8 * (i + 1) + j - 8 = 8 * i + j := by omega
      rw [List.getElem?_append_right (by omega), hlength, hplace]
      exact ih i hi

/-- The command's bits, then low in the reply (R159). -/
theorem Transaction.ssdo_eq (t : Transaction) :
    t.ssdo = byteBits t.command ++ List.replicate (8 * t.replyCount) false := rfl

theorem Transaction.ssdo_command (t : Transaction) (i j : Nat) (b : Byte) (hi : t.command[i]? = some b)
    (hj : j < 8) : t.ssdo[8 * i + j]? = some (b.getMsbD j) := by
  have hbit := byteBits_getElem? t.command i j b hi hj
  obtain ⟨hlt, -⟩ := List.getElem?_eq_some_iff.1 hbit
  rw [t.ssdo_eq, List.getElem?_append_left hlt, hbit]

/-- Behind the command no bit is high, in the reply and after it (R159, log 45). -/
theorem Transaction.ssdo_reply (t : Transaction) (k : Nat) (h : 8 * t.command.length ≤ k) :
    (t.ssdo[k]?).getD false = false := by
  rw [t.ssdo_eq, List.getElem?_append_right (by rwa [byteBits_length])]
  generalize k - (byteBits t.command).length = k
  cases he : (List.replicate (8 * t.replyCount) false)[k]? with
  | none => rfl
  | some v => exact List.eq_of_mem_replicate (List.mem_of_getElem? he)

/-- In a transaction its select is low, SSCK has a clock for each bit and SSDO the command (R159). -/
theorem Node.sensorPins_busy (n : Node) (t : Transaction) (h : n.sensor.transaction = some t) :
    (∀ i, n.selPin i = false ↔ i = t.select) ∧
    (∀ p high, n.ssckPin p high = true ↔
      high = true ∧ 1 ≤ p ∧ p ≤ 8 * (t.command.length + t.replyCount)) ∧
    (∀ p, 8 * t.command.length < p → n.ssdoPin p = false) ∧
    (∀ i b j, t.command[i]? = some b → j < 8 → n.ssdoPin (1 + 8 * i + j) = b.getMsbD j) := by
  have hssdo : ∀ p, n.ssdoPin p = (decide (1 ≤ p) && (t.ssdo[p - 1]?).getD false) := by
    intro p
    simp [Node.ssdoPin, h]
  refine ⟨fun i => ?_, fun p high => ?_, fun p hp => ?_, fun i b j hi hj => ?_⟩
  · rw [eq_comm (a := i)]
    simp [Node.selPin, SensorPort.selected, h]
  · simp only [Node.ssckPin, h, Bool.and_eq_true, decide_eq_true_eq, and_assoc]
    exact Iff.rfl
  · rw [hssdo, t.ssdo_reply (p - 1) (by omega), Bool.and_false]
  · have hplace : 1 + 8 * i + j - 1 = 8 * i + j := by omega
    have hfirst : 1 ≤ 1 + 8 * i + j := by omega
    rw [hssdo, hplace, t.ssdo_command i j b hi hj, decide_eq_true hfirst]
    rfl

/-- Settles O25: pin by pin. -/
theorem pinsShowTheState : Obligations.PinsShowTheState := by
  intro n
  refine ⟨n.lineCondition_iff, fun i _ hd => ?_, n.actPin_eq, n.noticePin_low_iff, n.sdoPin_cases, ?_,
    n.sensorPins_idle, n.sensorPins_busy⟩
  · intro a l after
    have hafter : after = n.evalLine a l := n.evalLines_get i hd
    rw [hafter]
    exact n.evalLine_iff a l
  · rfl

end Sys2Proof.Machine

/-! ### The standstill timer: its seconds, and the dwell that a moving line adds (R53, R107, R108, R111) -/

namespace Sys2Proof.Machine

/-! #### STANDSTILL_SECOND (R107, R111) -/

/-- The second that brings the timer to dwell limit 2 (R111). -/
def Node.reachesDwell2 (n : Node) : Prop :=
  n.prot.timer < n.config.dwell2 ∧ n.config.dwell2 ≤ min 65535 (n.prot.timer + 1)

/-- A second of the timer: the claim is made in the second that reaches dwell limit 2, and in no other
(R107, R111). -/
theorem Node.timerSecond_cases (n : Node) : ∃ w : Window,
    n.timerSecond = { n with
      prot.timer := min 65535 (n.prot.timer + 1), prot.phase := 0, window := w } ∧
    (n.reachesDwell2 → w = n.window.write
      (Claim.span n.len.tracking n.config.spanStart n.config.spanEnd) fun _ b =>
        { b with flags := b.flags ||| (1#16 <<< 7) }) ∧
    (¬n.reachesDwell2 → w = n.window) := by
  by_cases h : n.reachesDwell2
  · exact ⟨_, if_pos h, fun _ => rfl, fun hn => absurd h hn⟩
  · exact ⟨_, if_neg h, fun hn => absurd hn h, fun _ => rfl⟩

/-- A running timer's second in a quiet part, which settles then (R107, R111, R114). -/
theorem Node.standstillSecond_counts {n : Node} (hr : n.prot.running = true) (hq : n.quiet) :
    ∃ m : Node, n.standstillSecond = m ∧
      m.upToReports { n with
        prot.timer := min 65535 (n.prot.timer + 1)
        prot.phase := 0
        prot.lines := m.prot.lines
        window := m.window } ∧
      (n.reachesDwell2 → m.window = n.window.write
        (Claim.span n.len.tracking n.config.spanStart n.config.spanEnd) fun _ b =>
          { b with flags := b.flags ||| (1#16 <<< 7) }) ∧
      (¬n.reachesDwell2 → m.window = n.window) ∧ m.linesFollow := by
  obtain ⟨-, hrep, ho⟩ := Node.of_quiet hq
  obtain ⟨w, hw, hclaims, hleaves⟩ := n.timerSecond_cases
  have hdone : n.standstillSecond = n.timerSecond.settle := by
    rw [Node.standstillSecond, if_pos hr, Node.finish_nil _ (by rw [hw]; exact hrep)]
  have hreports := n.timerSecond.settle_reports (by rw [hw]; exact ho)
  have hfollow : n.timerSecond.settle.linesFollow :=
    n.timerSecond.settle_linesFollow (by rw [hw]; exact hq.2.1.1)
  have hwindow : n.timerSecond.settle.window = w := by
    obtain ⟨-, -, hwin, -⟩ := n.timerSecond.settle_frame
    rw [hwin, hw]
  refine ⟨_, hdone, ?_, fun h => hwindow.trans (hclaims h), fun h => hwindow.trans (hleaves h), hfollow⟩
  rw [hwindow]
  generalize n.timerSecond.settle = m at hreports
  rw [hw] at hreports
  exact hreports

/-! #### A change of view (R107, R108) -/

/-- The dwell of a standstill that ends is its seconds; one of none adds nothing (R108). -/
theorem Node.claimDwell_cases (n : Node) :
    (n.prot.timer ≠ 0 → n.claimDwell = { n with
      window := n.window.write Claim.whole fun _ b =>
        { b with dwell := min 65535 (b.dwell + n.prot.timer) } }) ∧
    (n.prot.timer = 0 → n.claimDwell = n) :=
  ⟨fun h => if_neg h, fun h => if_pos h⟩

/-- No view both stands and moves, and UNKNOWN does neither (Table 5-1). -/
theorem View.moving_cases {v : View} (h : v.moving = true) : v ≠ .unknown ∧ v.standing = false := by
  revert h
  cases v <;> decide

/-- A line that moves again: the dwell claim, then the timer stops (R107, R108). -/
theorem Node.timerOnView_moves {before after : View} (n : Node) (hb : before.standing = true)
    (ha : after.moving = true) :
    n.timerOnView before after = { n.claimDwell with prot := n.claimDwell.prot.stopTimer } := by
  obtain ⟨hu, hs⟩ := View.moving_cases ha
  simp [Node.timerOnView, hu, hs, hb]

/-- The standstill timer at each change of view (R107, R108). -/
theorem Node.timerOnView_cases (n : Node) (before after : View) :
    (after = .unknown → n.timerOnView before after = { n with prot := n.prot.stopTimer }) ∧
    (before.standing = true → after.standing = true → n.timerOnView before after = n) ∧
    (before.standing = false → after.standing = true →
      n.timerOnView before after = { n with prot := n.prot.startTimer }) ∧
    (before.standing = false → after.moving = true → n.timerOnView before after = n) ∧
    (before.standing = true → after.moving = true → n.prot.timer ≠ 0 →
      n.timerOnView before after = { n with
        prot := n.prot.stopTimer
        window := n.window.write Claim.whole fun _ b =>
          { b with dwell := min 65535 (b.dwell + n.prot.timer) } }) ∧
    (before.standing = true → after.moving = true → n.prot.timer = 0 →
      n.timerOnView before after = { n with prot := n.prot.stopTimer }) := by
  obtain ⟨hdwell, hnone⟩ := n.claimDwell_cases
  refine ⟨fun h => if_pos h, fun hb ha => ?_, fun hb ha => ?_, fun hb ha => ?_, fun hb ha ht => ?_,
    fun hb ha ht => ?_⟩
  · rw [Node.timerOnView_stands _ _ _ ha, if_pos hb]
  · rw [Node.timerOnView_stands _ _ _ ha, if_neg (by simp [hb])]
  · obtain ⟨hu, hs⟩ := View.moving_cases ha
    simp [Node.timerOnView, hu, hs, hb]
  · rw [n.timerOnView_moves hb ha, hdwell ht]
  · rw [n.timerOnView_moves hb ha, hnone ht]

/-! #### What an ENACT that moves a standing line changes, and what leaves it -/

/-- The pair in force, the standstill timer, the window and the open marks, with the record. -/
structure Halt where
  config : ConfigRecord
  view : View
  number : Nat
  timer : Nat
  running : Bool
  window : Window
  marks : List SpanMark

/-- The reading of a node as the line's halt. -/
def Node.halt (n : Node) : Halt :=
  { config := n.config, view := n.line.view, number := n.line.number, timer := n.prot.timer
    running := n.prot.running, window := n.window, marks := n.marks.table }

/-- The halt ended by a pair that moves the line (R53, R107, R108). -/
def Halt.ended (number : Nat) (view : View) (h : Halt) : Halt :=
  { h with
    view := view, number := number, timer := 0, running := false
    window := h.window.write Claim.whole fun _ b => { b with dwell := min 65535 (b.dwell + h.timer) }
    marks := h.marks.map
      (SpanMark.start (h.config.spanEnd - h.config.spanStart + h.config.markTail)) }

@[simp] theorem Node.settle_halt (n : Node) : n.settle.halt = n.halt := by simp [Node.halt]

@[simp] theorem Node.spend_halt (k : Nat) (n : Node) : (n.spend k).halt = n.halt := by
  simp [Node.halt]

@[simp] theorem Node.abandonOwn_halt (n : Node) : n.abandonOwn.halt = n.halt := by
  simp [Node.halt, Node.abandonOwn]

@[simp] theorem Node.report_halt (e : CounterEvent) (n : Node) : (n.report e).halt = n.halt := by
  simp [Node.halt]

@[simp] theorem Node.frameLost_halt (q : QueuedFrame) (n : Node) : (n.frameLost q).halt = n.halt := by
  simp [Node.halt]

@[simp] theorem Node.purge_halt (n : Node) : n.purge.halt = n.halt := by
  unfold Node.purge
  rw [foldl_keeps Node.halt _ (fun m q => m.frameLost_halt q)]
  rfl

/-- Participation left (R101, R141, R148). -/
@[simp] theorem Node.leaveFor_halt (p : Participation) (n : Node) : (n.leaveFor p).halt = n.halt := by
  have hbase : (Node.notice Notice.participationChanged
      { n with bus.participation := p, bus.joinRunning := false, bus.statusRunning := false
               bus.statusTimer := 0 }).halt = n.halt := rfl
  unfold Node.leaveFor
  dsimp only
  split
  · split <;> simpa using hbase
  · simpa using hbase

/-- Whether a node is mild is a matter of its faults. -/
theorem Node.mild_of_faults {m n : Node} (hf : m.faults = n.faults) (h : n.mild) : m.mild := by
  unfold Node.mild
  rw [hf]
  exact h

/-- A mild fault that comes to wait leaves a node mild (R183). -/
theorem Node.fault_mild {k : FaultKind} {n : Node} (hk : mildKind k = true) (h : n.mild) :
    (n.fault k).mild := by
  refine ⟨h.1, fun r hr => ?_⟩
  rcases List.mem_append.1 hr with hold | hnew
  · exact h.2 r hold
  · rw [List.mem_singleton.1 hnew]
    exact hk

/-- Mild faults taken (R183). -/
theorem Node.takeFaults_halt {n : Node} (h : n.mild) : n.takeFaults.halt = n.halt := by
  rw [(Node.takeFaults_kept n h).1]
  rfl

/-- A block done whose faults are mild (R183). -/
theorem Node.finish_halt {n : Node} (h : n.mild) : n.finish.halt = n.halt := by
  have hfaults : ∀ m : Node, m.faults = n.faults → m.takeFaults.settle.halt = m.halt := by
    intro m hf
    rw [Node.settle_halt, Node.takeFaults_halt (Node.mild_of_faults hf h)]
  unfold Node.finish
  split
  · split
    · rw [hfaults _ (by simp), Node.spend_halt]
    · rw [hfaults _ (by simp), Node.settle_halt, Node.spend_halt]
  · exact hfaults n rfl

/-- The creel fault takes a station that is not JOINING to LISTEN, and nothing of the halt (R128, R148). -/
theorem Node.creelConflict_halt {n : Node} (h : n.mild) (hp : n.bus.participation ≠ .joining) :
    n.creelConflict.halt = n.halt := by
  have hfault : (n.fault .creelConflict).mild := Node.fault_mild rfl h
  have htaken : (n.fault .creelConflict).takeFaults.halt = n.halt := Node.takeFaults_halt hfault
  obtain ⟨-, hpart⟩ := Node.takeFaults_stance hfault
  unfold Node.creelConflict
  dsimp only
  split
  · rw [Node.enterListen, if_neg (by rw [hpart]; exact hp), Node.leaveFor_halt, htaken]
  · exact htaken

/-- The Roster takes a frame: the halt of a station that is not JOINING stands (R123, R128). -/
theorem Node.rosterTake_halt (sender : Nat) (f : Frame) {n : Node} (h : n.mild)
    (hp : n.bus.participation ≠ .joining) :
    (n.rosterTake sender f).halt = n.halt ∧ (n.rosterTake sender f).mild := by
  by_cases ht : n.roster.takes sender = true
  · have hentered := n.entered_entered sender f
    have hmild := hentered.mild h
    have hhalt : (n.entered sender f).halt = n.halt := by
      rw [hentered.kept]
      rfl
    have hpart : (n.entered sender f).bus.participation ≠ .joining := by
      rw [(n.entered_stance sender f).2]
      exact hp
    rw [Node.rosterTake_takes f ht, Node.testCreel]
    split
    · exact ⟨(Node.creelConflict_halt hmild hpart).trans hhalt,
        (Node.creelConflict_stance hmild hpart).2.1⟩
    · exact ⟨hhalt, hmild⟩
  · rw [Node.rosterTake_full f ht]
    exact ⟨rfl, Node.fault_mild rfl (Node.mild_of_faults rfl h)⟩

/-- The Roster's part of a frame, done with (R123, R137). -/
theorem Node.deliverRoster_halt (sender : Nat) (f : Frame) {n : Node} (h : n.mild)
    (hp : n.bus.participation ≠ .joining) :
    (n.deliverRoster sender f).halt = n.halt ∧ (n.deliverRoster sender f).mild := by
  obtain ⟨hhalt, hmild⟩ := Node.rosterTake_halt sender f h hp
  exact ⟨(Node.finish_halt hmild).trans hhalt, (Node.finish_stance hmild).2.2⟩

/-! #### The ENACT (R53, R88, R108) -/

/-- A change from a standing view to a moving one, reported: the held marks count down and the standstill
becomes dwell (R53, R107, R108). -/
theorem Node.viewReported_ends {before after : View} (number : Nat) (n : Node)
    (hb : before.standing = true) (ha : after.moving = true) (ht : n.prot.timer ≠ 0) :
    (n.viewReported before after number).halt =
      { n.halt.ended number after with view := n.line.view, number := n.line.number } := by
  have hbm : before.moving = false := by
    revert hb
    cases before <;> decide
  have hmarks : ∀ m : Node, m.marksOnView before after number = { m with
      marks.table := m.marks.table.map
        (SpanMark.start (m.config.spanEnd - m.config.spanStart + m.config.markTail)) } := by
    intro m
    simp [Node.marksOnView, ha, hbm]
  have hstall : ∀ m : Node, (m.stallOnView before after).halt = m.halt := by
    intro m
    unfold Node.stallOnView
    split <;> rfl
  obtain ⟨-, -, -, -, htimer, -⟩ := (Node.marksOnView before after number
    (n.notice Notice.viewChanged)).timerOnView_cases before after
  rw [hmarks] at htimer
  rw [Node.viewReported, hstall, hmarks, htimer hb ha ht]
  rfl

/-- A new number and a moving view adopted by a station that stands (R88). -/
theorem Node.adoptPair_ends {number : Nat} {view : View} {n : Node} (hs : n.line.view.standing = true)
    (hm : view.moving = true) (hne : number ≠ n.line.number) (ht : n.prot.timer ≠ 0) :
    (n.adoptPair number view).halt = n.halt.ended number view := by
  obtain ⟨b, hb⟩ : ∃ b : Node, b = { n.numberChanged with line.view := view, line.number := number } :=
    ⟨_, rfl⟩
  have hbase : b.halt = { n.halt with view := view, number := number } := by
    rw [hb]
    exact congrArg (fun h : Halt => { h with view := view, number := number }) n.abandonOwn_halt
  have hview : view ≠ n.line.view := by
    rintro rfl
    exact absurd (View.moving_cases hm).2 (by simp [hs])
  have hadopted : n.adoptPair number view = (b.viewReported n.line.view view number).settle := by
    rw [Node.adoptPair, if_neg hne, hb]
    exact if_neg hview
  have htimer : b.prot.timer = n.prot.timer := congrArg Halt.timer hbase
  have hended := b.viewReported_ends number hs hm (by rwa [htimer])
  rw [hadopted, Node.settle_halt, hended, hbase, hb]
  rfl

/-- The ENACT is newer and moves a line that has stood for a second at least (R88, R108). -/
structure Halt.EndedBy (p : EnactPayload) (h : Halt) : Prop where
  view : h.view = .standstill
  moves : p.target.moving = true
  newer : evNewer p.number h.number = true
  timer : h.timer ≠ 0

/-- A newer ENACT taken by a station that stands still (R88, R99). -/
theorem Node.takeEnact_ends (sender : Nat) {p : EnactPayload} {n : Node} (h : n.halt.EndedBy p) :
    (n.takeEnact sender p).halt = n.halt.ended p.number p.target := by
  obtain ⟨hv, hm, hnew, ht⟩ := h
  have hview : n.line.view = .standstill := hv
  have hadopt : n.line.judge p.number p.target (decide (p.target = .standstill)) = .adopt :=
    (LineState.judge_adopt _ _ _ _).2 (.inr (.inr ⟨by simp [hview], by simp [hview], .inl hnew⟩))
  have hne : p.number ≠ n.line.number := by
    intro he
    simp [Node.halt, evNewer, evDist, he] at hnew
  have hclose : ∀ m : Node, (m.closeViewOf p.id).halt = m.halt := by
    intro m
    unfold Node.closeViewOf
    split
    · split <;> rfl
    · rfl
  rw [Node.takeEnact, hclose, Node.takePair, hadopt]
  exact Node.adoptPair_ends (by rw [hview]; rfl) hm hne ht

/-- Such an ENACT delivered to the Roster and the Line State Unit, in either order (R137, log 4). -/
theorem Node.deliverGood_ends (sender : Nat) {p : EnactPayload} {n : Node} (hm : n.mild)
    (hp : n.bus.participation ≠ .joining) (h : n.halt.EndedBy p) :
    (n.deliverGood sender (.enact p)).halt = n.halt.ended p.number p.target := by
  have hdeliver : ∀ m : Node, m.mild → (m.deliver sender (.enact p)).mild := fun _ =>
    (Node.deliver_stance (f := .enact p) rfl).2
  have hblock : ∀ m : Node, m.halt = n.halt → m.mild →
      (m.deliverBlock sender (.enact p)).halt = n.halt.ended p.number p.target := by
    intro m hhalt hmild
    calc (m.deliverBlock sender (.enact p)).halt
        = (m.takeEnact sender p).halt := Node.finish_halt (hdeliver m hmild)
      _ = m.halt.ended p.number p.target := Node.takeEnact_ends sender (hhalt ▸ h)
      _ = n.halt.ended p.number p.target := by rw [hhalt]
  obtain ⟨b, hb⟩ : ∃ b : Node, b = n.spend 2 := ⟨_, rfl⟩
  have hbh : b.halt = n.halt := by rw [hb, Node.spend_halt]
  have hbp : b.bus.participation ≠ .joining := by
    rw [hb, show (n.spend 2).bus = n.bus by simp]
    exact hp
  have hbm : b.mild := Node.mild_of_faults (by rw [hb]; simp) hm
  unfold Node.deliverGood
  rw [← hb]
  split
  · obtain ⟨hhalt, hmild⟩ := Node.deliverRoster_halt sender (.enact p) hbm hbp
    exact hblock _ (hhalt.trans hbh) hmild
  · obtain ⟨-, hfp, hfm⟩ := Node.finish_stance (hdeliver b hbm)
    have hpart : (b.deliverBlock sender (.enact p)).bus.participation ≠ .joining := by
      rw [Node.deliverBlock, hfp, Node.deliver_participation rfl]
      exact hbp
    exact (Node.deliverRoster_halt sender (.enact p) hfm hpart).1.trans (hblock b hbh hbm)

/-- Such an ENACT received by a calm ACTIVE part (R137). -/
theorem Node.receive_ends {sender : Nat} {p : EnactPayload} {n : Node} (hs : stationOk sender = true)
    (hok : frameOk (.enact p) = true) (ho : sender ≠ n.config.station) (ha : n.active = true)
    (hc : n.calm) (h : n.halt.EndedBy p) :
    (n.receive sender (.enact p)).halt = n.halt.ended p.number p.target := by
  obtain ⟨b, hb⟩ : ∃ b : Node, b = n.lineIdle.report (CounterEvent.frameReceived 0) := ⟨_, rfl⟩
  have hhalt : b.halt = n.halt := by
    rw [hb, Node.report_halt]
    rfl
  have hmild : b.mild :=
    Node.mild_of_faults (by rw [hb]; simp [Node.lineIdle]) (Node.mild_of_calm hc)
  have hpart : b.bus.participation = .active := by
    rw [hb]
    simpa [Node.lineIdle] using of_decide_eq_true ha
  rw [Node.receive_good hs hok (Node.receiving_of_active ha) ho, ← hb, ← hhalt]
  exact Node.deliverGood_ends sender hmild (by rw [hpart]; decide) (hhalt ▸ h)

/-- Settles O46: the second by whether the timer runs, the timer by the two views, the ENACT by what it
leaves of the halt. -/
theorem standstillCountsAndEndsInDwell : Obligations.StandstillCountsAndEndsInDwell := by
  refine ⟨fun s => ⟨fun hr => ?_, fun hr hq => ?_⟩, fun n before after => n.timerOnView_cases before after,
    fun sender p s hs hok ho ha hq hv hm hnew ht => ?_⟩
  · exact State.act_same (if_neg (by simp [hr]))
  · obtain ⟨m, hdone, hreports, hclaims, hleaves, hfollow⟩ := Node.standstillSecond_counts hr hq
    exact ⟨_, State.act_eq hdone, rfl, hreports, hclaims, hleaves, hfollow⟩
  · have hended := Node.receive_ends hs hok ho ha hq.1 ⟨hv, hm, hnew, ht⟩
    simp only [Node.halt, Halt.ended, Halt.mk.injEq] at hended
    obtain ⟨-, hview, hnumber, htimer, hrunning, hwindow, hmarks⟩ := hended
    refine ⟨_, exec_received (c := .receiveEnact sender p) s rfl, rfl, hview, hnumber, htimer, hrunning,
      hwindow, hmarks.trans (List.map_congr_left fun m _ => ?_)⟩
    unfold SpanMark.start
    simp only [MarkKind.stopOrTrip_iff]

end Sys2Proof.Machine

/-! ### Frames heard and stations fallen silent: the Roster's entries (R123 to R125, R130, R133) -/

namespace Sys2Proof.Machine

/-! #### What leaves the Roster (R94, R128, R149, R183) -/

/-- Participation left leaves the Roster (R148 to R150). -/
theorem Node.leaveFor_roster (p : Participation) (n : Node) : (n.leaveFor p).roster = n.roster :=
  congrArg Blocks.roster (n.leaveFor_left p).blocks

/-- A withdrawal leaves the Roster (R94, R149). -/
theorem Node.withdraw_roster (k : FaultKind) (n : Node) : (n.withdraw k).roster = n.roster := by
  have hrecord : ((n.recordFatal k).faultNotice .fatal).roster = n.roster := by
    unfold Node.faultNotice Node.recordFatal
    split <;> split <;> rfl
  have hoffer : ∀ (m : Node) p, (m.offerWithdrawal p).roster = m.roster := by
    intro m p
    unfold Node.offerWithdrawal
    split
    · split <;> simp [Node.joinQueue]
    · rfl
  unfold Node.withdraw Node.fatalTrip
  simp [hoffer, Node.leaveFor_roster, hrecord]

/-- A fault's class reported leaves the Roster (R183). -/
theorem Node.reportClass_roster (frames : Bool) (c : FaultClass) (k : FaultKind) (n : Node) :
    (n.reportClass frames c k).roster = n.roster := by
  rw [(n.reportClass_kept frames c k).1]

/-- A fault taken that may withdraw the station leaves the Roster (R183, R184). -/
theorem Node.takeFatal_roster (frames : Bool) (r : FaultReport) (n : Node) :
    (if n.faultClass r.kind = .fatal then
      if n.onLine then (n.countFault r.kind).withdraw r.kind else n.countFault r.kind
    else (n.countFault r.kind).reportClass frames (n.faultClass r.kind) r.kind).roster = n.roster := by
  split
  · split
    · exact Node.withdraw_roster _ _
    · rfl
  · exact Node.reportClass_roster _ _ _ _

/-- Faults taken leave the Roster, FATAL ones too (R183, R184). -/
@[simp] theorem Node.takeFaults_roster (n : Node) : n.takeFaults.roster = n.roster := by
  have hturn : ∀ (take : Node → FaultReport → Node), (∀ m r, (take m r).roster = m.roster) →
      ∀ m : Node, (m.takeReported take).roster = m.roster := fun take ht m =>
    foldl_keeps (fun m : Node => m.roster) take ht _ _
  have hcounted : ∀ (m : Node) r, (m.takeCounted r).roster = m.roster := by
    intro m r
    unfold Node.takeCounted
    dsimp only
    split
    · rfl
    · exact Node.reportClass_roster _ _ _ _
  unfold Node.takeFaults
  split
  · rfl
  · calc (((n.takeReported Node.takeFault).takeReported Node.takeFollowing).takeReported
          Node.takeCounted).roster
        = ((n.takeReported Node.takeFault).takeReported Node.takeFollowing).roster :=
          hturn _ hcounted _
      _ = (n.takeReported Node.takeFault).roster := hturn _ (fun m r => m.takeFatal_roster false r) _
      _ = n.roster := hturn _ (fun m r => m.takeFatal_roster (!r.silent) r) n

/-- A block that has done with an event leaves the Roster, whatever faults it had (R183). -/
theorem Node.finish_leavesRoster (n : Node) : n.finish.roster = n.roster := by
  unfold Node.finish
  split
  · split <;> simp
  · simp

/-- The end of JOINING leaves the Roster (R32, R89). -/
theorem Node.endJoining_roster (n : Node) : n.endJoining.roster = n.roster := by
  unfold Node.endJoining Node.standstillIfUnknown
  split
  · rw [Node.adoptPair_roster, n.openFirst_eq]
  · rw [n.openFirst_eq]

/-- A creel conflict leaves the Roster (R128, R148). -/
theorem Node.creelConflict_roster (n : Node) : n.creelConflict.roster = n.roster := by
  have hlisten : ∀ m : Node, m.enterListen.roster = m.roster := by
    intro m
    unfold Node.enterListen
    dsimp only
    split
    · rw [Node.endJoining_roster, Node.leaveFor_roster]
    · exact m.leaveFor_roster .listen
  unfold Node.creelConflict
  dsimp only
  split
  · simp [hlisten]
  · simp

/-! #### The entry that a frame updates (R123, R125) -/

/-- A change of the first that satisfies `p` finds the others as before. -/
theorem find?_changeFirst_other {α : Type} {p q : α → Bool} {f : α → α} (l : List α)
    (hpq : ∀ a, p a = true → q a = false) (hf : ∀ a, p a = true → q (f a) = false) :
    (changeFirst p f l).find? q = l.find? q := by
  induction l with
  | nil => rfl
  | cons a l ih =>
    unfold changeFirst
    by_cases ha : p a = true
    · simp [ha, hpq a ha, hf a ha]
    · simp only [ha, Bool.false_eq_true, if_false, List.find?_cons, ih]

/-- An entry of one station changed leaves those of the others (R123). -/
theorem Roster.entry?_changeFirst_other {station other : Nat} {f : RosterEntry → RosterEntry}
    (hf : ∀ e, (f e).station = e.station) (hne : other ≠ station) (r : Roster) :
    ({ r with others := changeFirst (fun e => e.station == station) f r.others } : Roster).entry? other =
      r.entry? other :=
  find?_changeFirst_other r.others
    (fun e he => by rw [eq_of_beq he]; exact beq_false_of_ne hne.symm)
    (fun e he => by rw [hf, eq_of_beq he]; exact beq_false_of_ne hne.symm)

/-- The entry of a station, changed where it stays that station's (R123). -/
theorem Roster.entry?_changeFirst {station : Nat} {f : RosterEntry → RosterEntry} {e : RosterEntry}
    {r : Roster} (hf : ∀ e, (f e).station = e.station) (he : r.entry? station = some e) :
    ({ r with others := changeFirst (fun e => e.station == station) f r.others } : Roster).entry?
      station = some (f e) := by
  have hstation : (e.station == station) = true :=
    List.find?_some (p := fun x : RosterEntry => x.station == station) he
  exact find?_changeFirst he (by rw [hf]; exact hstation)

/-- A frame leaves the station of the entry it updates (R123). -/
theorem RosterEntry.update_station (f : Frame) (e : RosterEntry) :
    (RosterEntry.update f e).station = e.station := by
  unfold RosterEntry.update
  split <;> rfl

/-- The sender's entry once a frame is taken, and those of the others (R123). -/
theorem Roster.entry?_updated (sender : Nat) (f : Frame) (r : Roster) :
    ({ r with others := r.updated sender f } : Roster).entry? sender = some (r.entryAfter sender f) ∧
    ∀ other, other ≠ sender →
      ({ r with others := r.updated sender f } : Roster).entry? other = r.entry? other := by
  cases he : r.entry? sender with
  | some e =>
    have hupdated : r.updated sender f =
        changeFirst (fun e => e.station == sender) (RosterEntry.update f) r.others := by
      rw [Roster.updated, he]
    rw [hupdated, Roster.entryAfter, he]
    exact ⟨Roster.entry?_changeFirst (RosterEntry.update_station f) he,
      fun other hne => Roster.entry?_changeFirst_other (RosterEntry.update_station f) hne r⟩
  | none =>
    have hupdated : r.updated sender f =
        r.others ++ [RosterEntry.update f (RosterEntry.blank sender)] := by
      rw [Roster.updated, he]
    have hstation : (RosterEntry.update f (RosterEntry.blank sender)).station = sender :=
      RosterEntry.update_station f _
    rw [hupdated, Roster.entryAfter, he]
    unfold Roster.entry? at he ⊢
    refine ⟨?_, fun other hne => ?_⟩
    · simp [List.find?_append, he, hstation]
    · simp [List.find?_append, hstation, hne.symm]

/-- The Roster has an entry for the sender or room for one (R121, R123). -/
theorem Roster.takes_of {sender : Nat} {r : Roster}
    (h : r.entry? sender ≠ none ∨ r.others.length < 23) : r.takes sender = true := by
  unfold Roster.takes
  rcases h with h | h
  · simp [Option.isSome_iff_ne_none.2 h]
  · simp [Config.otherEntries, h]

/-- What a frame makes of an entry: heard now, PRESENT unless it is a TRIP of source FAULT, with what a
STATUS or a FAULT brings (R123, R125). -/
theorem RosterEntry.update_brings (f : Frame) (e : RosterEntry) :
    let u := RosterEntry.update f e
    u.age = 0 ∧ (u.present = false ↔ ∃ p, f = .trip p ∧ p.source = .fault) ∧
    (∀ p, f = .status p → u.descriptor = some p.descriptor ∧ u.lastView = some (p.view, p.number) ∧
      u.speed = some p.speed ∧ u.newest = p.newest) ∧
    (∀ p, f = .fault p → u.lastFault = some p) ∧
    ((∀ p, f ≠ .status p) → u.descriptor = e.descriptor ∧ u.lastView = e.lastView ∧
      u.speed = e.speed ∧ u.newest = e.newest ∧ ((∀ p, f ≠ .fault p) → u.lastFault = e.lastFault)) := by
  cases f <;> simp [RosterEntry.update, Frame.fatalTrip]

/-! #### A frame received (R123, R137) -/

/-- `m` is `n` once the line is idle again, the frame counted and the order of its deliveries chosen, as far
as the blocks that take it read it (R137, log 4). -/
structure Node.FrameCounted (m n : Node) : Prop where
  standing : m.standing = n.standing
  roster : m.roster = n.roster
  faults : m.faults = n.faults
  line : m.line = n.line
  participation : m.bus.participation = n.bus.participation

/-- What holds after the two deliveries in either order holds after a good frame of another station
(R137, log 4). -/
theorem Node.receive_either {P : Node → Prop} {sender : Nat} {f : Frame} {n : Node}
    (hs : stationOk sender = true) (hf : frameOk f = true) (hr : n.receiving = true)
    (ho : sender ≠ n.config.station)
    (h : ∀ b : Node, b.FrameCounted n → P ((b.deliverRoster sender f).deliverBlock sender f) ∧
      P ((b.deliverBlock sender f).deliverRoster sender f)) : P (n.receive sender f) := by
  have hb : ((n.lineIdle.report (CounterEvent.frameReceived 0)).spend 2).FrameCounted n := by
    refine ⟨?_, ?_, ?_, ?_, ?_⟩
    · have hheld : ((n.lineIdle.report (CounterEvent.frameReceived 0)).spend 2).held = n.lineIdle.held :=
        (Node.spend_held _ _).trans (Node.report_held _ _)
      exact (Node.standing_of_held hheld).trans rfl
    all_goals simp [Node.lineIdle]
  obtain ⟨hroster, hblock⟩ := h _ hb
  rw [Node.receive_good hs hf hr ho, Node.deliverGood]
  split
  · exact hroster
  · exact hblock

/-- The Roster of `m` is that of `n` with the frame in its entries and its number learned (R123, R133). -/
structure Node.Hears (sender : Nat) (f : Frame) (m n : Node) : Prop where
  others : m.roster.others = n.roster.updated sender f
  highest : m.roster.highest = learn n.roster.highest (Frame.newestNumber f)

/-- The Roster's part of a frame that it takes, whatever its faults (R123, R133). -/
theorem Node.deliverRoster_hears {sender : Nat} (f : Frame) {n : Node}
    (ht : n.roster.takes sender = true) : (n.deliverRoster sender f).Hears sender f n := by
  have htake : (n.rosterTake sender f).roster = (n.entered sender f).roster := by
    rw [Node.rosterTake_takes f ht]
    unfold Node.testCreel
    split
    · exact Node.creelConflict_roster _
    · rfl
  have hhighest : (n.entered sender f).roster.highest =
      learn n.roster.highest (Frame.newestNumber f) := by
    obtain ⟨l, -, -, he⟩ := (n.noted sender f).testEntry_eq (n.roster.entry? sender)
      ((n.noted sender f).roster.entry? sender)
    rw [Node.entered, he, Node.remakeChoices_eq]
    rfl
  have hroster : (n.deliverRoster sender f).roster = (n.entered sender f).roster :=
    (Node.finish_leavesRoster _).trans htake
  exact ⟨by rw [hroster]; exact (n.entered_roster sender f).1, by rw [hroster]; exact hhighest⟩

/-- The other block's part leaves the Roster (R137). -/
theorem Node.deliverBlock_roster (sender : Nat) (f : Frame) (n : Node) :
    (n.deliverBlock sender f).roster = n.roster :=
  (Node.finish_leavesRoster _).trans (n.deliver_roster sender f)

/-- Both parts leave what nothing but the Length Unit's own events and the setup changes (R137). -/
theorem Node.delivered_standing (sender : Nat) (f : Frame) (n : Node) :
    (n.deliverRoster sender f).standing = n.standing ∧
    (n.deliverBlock sender f).standing = n.standing :=
  ⟨(Node.finish_standing _).trans (n.rosterTake_standing sender f),
    (Node.finish_standing _).trans (n.deliver_standing sender f)⟩

/-- A good frame of another station that the Roster has an entry or room for, received (R123, R137). -/
theorem Node.receive_hears {sender : Nat} {f : Frame} {n : Node} (hs : stationOk sender = true)
    (hf : frameOk f = true) (hr : n.receiving = true) (ho : sender ≠ n.config.station)
    (ht : n.roster.takes sender = true) :
    (n.receive sender f).Hears sender f n ∧ (n.receive sender f).standing = n.standing := by
  refine Node.receive_either (P := fun m => m.Hears sender f n ∧ m.standing = n.standing) hs hf hr ho
    fun b hb => ?_
  have hbt : b.roster.takes sender = true := by rw [hb.roster]; exact ht
  refine ⟨?_, ?_⟩
  · obtain ⟨hothers, hhighest⟩ := Node.deliverRoster_hears f hbt
    obtain ⟨hstanding, -⟩ := b.delivered_standing sender f
    obtain ⟨-, hdone⟩ := (b.deliverRoster sender f).delivered_standing sender f
    refine ⟨⟨?_, ?_⟩, hdone.trans (hstanding.trans hb.standing)⟩
    · rw [Node.deliverBlock_roster, hothers, hb.roster]
    · rw [Node.deliverBlock_roster, hhighest, hb.roster]
  · have hkept := b.deliverBlock_roster sender f
    obtain ⟨hothers, hhighest⟩ := Node.deliverRoster_hears (n := b.deliverBlock sender f) f
      (by rw [hkept]; exact hbt)
    obtain ⟨-, hstanding⟩ := b.delivered_standing sender f
    obtain ⟨hdone, -⟩ := (b.deliverBlock sender f).delivered_standing sender f
    refine ⟨⟨?_, ?_⟩, hdone.trans (hstanding.trans hb.standing)⟩
    · rw [hothers, hkept, hb.roster]
    · rw [hhighest, hkept, hb.roster]

/-- An entry is a matter of the entries. -/
theorem Roster.entry?_congr {r q : Roster} (h : r.others = q.others) (station : Nat) :
    r.entry? station = q.entry? station := by
  unfold Roster.entry?
  rw [h]

/-! #### An entry that falls silent (R124, R130) -/

/-- The entry as it falls silent (R124). -/
def RosterEntry.silenced (e : RosterEntry) : RosterEntry := { e with present := false, age := Config.silence }

/-- The node with the station's entry silenced, before it is tested (R124). -/
def Node.silenced (station : Nat) (n : Node) : Node :=
  { n with
    roster.others := changeFirst (fun e => e.station == station) RosterEntry.silenced n.roster.others }

/-- A silenced entry makes no creel condition true (R128). -/
theorem Node.silenced_creel {station : Nat} {n : Node} (h : (n.silenced station).creel = true) :
    n.creel = true := by
  have hany : ∀ l : List RosterEntry,
      (changeFirst (fun e => e.station == station) RosterEntry.silenced l).any
        (RosterEntry.creel n.config.station) = true →
      l.any (RosterEntry.creel n.config.station) = true := by
    intro l
    induction l with
    | nil => exact id
    | cons e l ih =>
      have hdead : RosterEntry.creel n.config.station e.silenced = false := rfl
      unfold changeFirst
      split
      · intro hl
        rw [List.any_cons, hdead, Bool.false_or] at hl
        rw [List.any_cons, hl, Bool.or_true]
      · intro hl
        rw [List.any_cons, Bool.or_eq_true] at hl ⊢
        exact hl.imp id ih
  obtain ⟨horigin, hsome⟩ := Bool.and_eq_true_iff.1 h
  exact Bool.and_eq_true_iff.2 ⟨horigin, hany _ hsome⟩

/-- NEIGHBOUR_LOST waits once a silenced station was the choice of a PATH or TERMINAL station (R130). -/
def Node.lossReports (station : Nat) (n : Node) : List FaultReport :=
  if n.isOrigin = false ∧ n.roster.upstream = some station then
    [{ kind := .neighbourLost, silent := false }]
  else []

/-- A PRESENT entry that falls silent: it is silenced, a loss waits, and the choices are made again (R124,
R129 to R131). -/
theorem Node.silence_eq {station : Nat} {e : RosterEntry} {n : Node}
    (he : n.roster.entry? station = some e) (hp : e.present = true) :
    n.silence station =
      ((n.silenced station).withFaults (n.lossReports station)).remakeChoices := by
  obtain ⟨m, hm⟩ : ∃ m : Node, m = n.silenced station := ⟨_, rfl⟩
  have hstation : e.station = station :=
    eq_of_beq (List.find?_some (p := fun x : RosterEntry => x.station == station) he)
  have hafter : m.roster.entry? station = some e.silenced := by
    rw [hm]
    exact Roster.entry?_changeFirst (fun _ => rfl) he
  have horder : m.testOrder (some e) (some e.silenced) = m := by
    simp [Node.testOrder, RosterEntry.conflict, RosterEntry.silenced]
  have hlost : m.testLost (some e) (some e.silenced) = m.withFaults (n.lossReports station) := by
    have hsame : m.isOrigin = n.isOrigin ∧ m.roster.upstream = n.roster.upstream := by
      rw [hm]
      exact ⟨rfl, rfl⟩
    simp only [Node.testLost, hp, RosterEntry.silenced, hsame.1, hsame.2, hstation, Node.lossReports]
    cases n.isOrigin with
    | true => simp [Node.withFaults_nil]
    | false =>
      by_cases hu : n.roster.upstream = some station
      · simp [hu, Node.fault, Node.withFaults]
      · simp [hu, Node.withFaults_nil]
  have hcreel : (m.withFaults (n.lossReports station)).remakeChoices.testCreel n.creel =
      (m.withFaults (n.lossReports station)).remakeChoices := by
    have hsame : (m.withFaults (n.lossReports station)).remakeChoices.creel = m.creel := by
      rw [Node.remakeChoices_eq]
      rfl
    refine if_neg ?_
    rw [hsame, hm]
    intro hc
    simp only [Bool.and_eq_true, Bool.not_eq_true'] at hc
    obtain ⟨⟨hno, hyes⟩, -⟩ := hc
    exact absurd (hno.symm.trans (Node.silenced_creel hyes)) (by decide)
  have hsilence : n.silence station =
      n.changeEntries station (n.silenced station).roster.others := by
    rw [Node.silence, he]
    dsimp only
    rw [if_pos hp]
    rfl
  have hchange : n.changeEntries station (n.silenced station).roster.others =
      ((m.testOrder (n.roster.entry? station) (m.roster.entry? station)).testLost
        (n.roster.entry? station) (m.roster.entry? station)).remakeChoices.testCreel n.creel := by
    rw [hm]
    rfl
  rw [hsilence, hchange, he, hafter, horder, hlost, hcreel, hm]

/-- The silence of a PRESENT entry at a quiet station, done with: the entry alone of the entries, and one
NEIGHBOUR_LOST for a lost neighbour (R124, R130). -/
theorem Node.silence_finish {station : Nat} {e : RosterEntry} {n : Node} (hq : n.quiet)
    (he : n.roster.entry? station = some e) (hp : e.present = true) :
    let m := (n.silence station).finish
    m.roster.others = (n.silenced station).roster.others ∧ m.window = n.window ∧ m.line = n.line ∧
    m.len.tracking = n.len.tracking ∧
    (n.isOrigin = false → n.roster.upstream = some station → m.countedOnce .neighbourLost n) := by
  obtain ⟨hesc, hnone, hown⟩ := Node.of_quiet hq
  rw [Node.silence_eq he hp]
  have hb := ((n.silenced station).withFaults (n.lossReports station)).remakeChoices_eq
  generalize ((n.silenced station).withFaults (n.lossReports station)).remakeChoices = b at hb
  have hreported : b.faults.reported = n.lossReports station := by
    rw [hb]
    exact (congrArg (· ++ n.lossReports station) hnone).trans (List.nil_append _)
  have hparts : b.faults.escalation = n.faults.escalation ∧ b.faults.counts = n.faults.counts ∧
      b.roster.others = (n.silenced station).roster.others ∧ b.window = n.window ∧ b.line = n.line ∧
      b.len.tracking = n.len.tracking := by
    rw [hb]
    exact ⟨rfl, rfl, rfl, rfl, rfl, rfl⟩
  obtain ⟨hbesc, hcounts, hothers, hwindow, hline, htracking⟩ := hparts
  have hmild : b.mild := by
    refine ⟨hbesc.trans hesc, fun r hr => ?_⟩
    rw [hreported, Node.lossReports] at hr
    split at hr
    · rw [List.mem_singleton.1 hr]
      rfl
    · exact absurd hr List.not_mem_nil
  have hbown : b.line.own = none := by rw [hline]; exact hown
  have hfaults := Node.finish_counts (k := .neighbourLost) (by decide) hmild hbown
  obtain ⟨⟨frames, -, hfin⟩, -⟩ := Node.finish_upToReports hmild hbown
  have hdone : b.finish.roster = b.roster ∧ b.finish.window = b.window ∧ b.finish.line = b.line ∧
      b.finish.len = b.len := by
    rw [hfin]
    exact ⟨rfl, rfl, rfl, rfl⟩
  obtain ⟨hfr, hfw, hfl, hft⟩ := hdone
  refine ⟨by rw [hfr, hothers], hfw.trans hwindow, hfl.trans hline, by rw [hft, htracking],
    fun ho hu => ?_⟩
  have hone : b.waiting .neighbourLost = 1 := by
    rw [Node.waiting, hreported, Node.lossReports, if_pos ⟨ho, hu⟩]
    rfl
  rw [hone, hcounts] at hfaults
  exact hfaults

/-- ENTRY_SILENT (R124). -/
theorem exec_entrySilent (station : Nat) (s : State) :
    exec (.entrySilent station) s = s.act fun n => (n.silence station).finish := rfl

/-- Settles O47: the entry that a frame received leaves, and the silence by whether the entry is PRESENT. -/
theorem rosterEntriesFollowTheirStations : Obligations.RosterEntriesFollowTheirStations := by
  refine ⟨fun c sender f s hc hs hf hr ho hroom => ?_,
    fun station s hq => ⟨fun hno => ?_, fun e he hp => ?_⟩⟩
  · obtain ⟨⟨hothers, hhighest⟩, hstanding⟩ :=
      Node.receive_hears hs hf hr ho (Roster.takes_of hroom)
    obtain ⟨hentry, hrest⟩ := s.node.roster.entry?_updated sender f
    have hfound : ∀ station, (s.node.receive sender f).roster.entry? station =
        ({ s.node.roster with others := s.node.roster.updated sender f } : Roster).entry? station :=
      Roster.entry?_congr hothers
    obtain ⟨hage, hpresent, hstatus, hfault, hkept⟩ := RosterEntry.update_brings f
      ((s.node.roster.entry? sender).getD (RosterEntry.blank sender))
    refine ⟨_, s.node.roster.entryAfter sender f, exec_received s hc, rfl, (hfound sender).trans hentry,
      s.node.roster.entryAfter_station sender f, hage, hpresent, hstatus, hfault, fun old hold hno => ?_,
      fun other hne => (hfound other).trans (hrest other hne), hhighest, congrArg Standing.config hstanding⟩
    rw [hold] at hkept
    rw [Roster.entryAfter, hold]
    exact hkept hno
  · rw [exec_entrySilent]
    refine State.act_same ?_
    have hsame : s.node.silence station = s.node := by
      unfold Node.silence
      split
      · rfl
      · rename_i e he
        exact if_neg (by simp [hno e he])
    rw [hsame, Node.finish_quiet _ hq]
  · obtain ⟨hothers, hwindow, hline, htracking, hlost⟩ := Node.silence_finish hq he hp
    have hfound := Roster.entry?_congr hothers
    exact ⟨_, (exec_entrySilent station s).trans (State.act_eq rfl), rfl,
      (hfound station).trans
        (Roster.entry?_changeFirst (f := RosterEntry.silenced) (fun _ => rfl) he),
      fun other hne => (hfound other).trans
        (Roster.entry?_changeFirst_other (f := RosterEntry.silenced) (fun _ => rfl) hne s.node.roster),
      hwindow, hline, htracking, hlost⟩

end Sys2Proof.Machine

/-! ### The Roster's choices: the entry nearest upstream, the lowest TERMINAL, the gap in force (R68, R129, R131) -/

namespace Sys2Proof.Machine

/-! #### The upstream neighbour (R129) -/

/-- The entry has a place, and that of `x` lies no further downstream (7.4). -/
structure RosterEntry.Reaches (a x : RosterEntry) : Prop where
  placed : ∃ d, a.descriptor = some d
  nearest : ∀ d, x.descriptor = some d → a.upstreamOf d.order x.station = false

/-- What reaches an entry that reaches a third reaches the third: upstream order is a linear order (7.4). -/
theorem RosterEntry.Reaches.trans {a b x : RosterEntry} (h : a.Reaches b) (k : b.Reaches x) :
    a.Reaches x := by
  obtain ⟨⟨d, hd⟩, hab⟩ := h
  obtain ⟨⟨e, he⟩, hbx⟩ := k
  refine ⟨⟨d, hd⟩, fun f hf => ?_⟩
  have h1 := hab e he
  have h2 := hbx f hf
  simp only [RosterEntry.upstreamOf, hd, he, Machine.upstreamOf, Bool.or_eq_false_iff,
    Bool.and_eq_false_iff, decide_eq_false_iff_not] at h1 h2 ⊢
  omega

/-- A placed entry reaches itself. -/
theorem RosterEntry.reaches_refl {a : RosterEntry} {d : Descriptor} (h : a.descriptor = some d) :
    a.Reaches a := by
  refine ⟨⟨d, h⟩, fun e he => ?_⟩
  obtain rfl : d = e := Option.some.inj (h.symm.trans he)
  simp [RosterEntry.upstreamOf, h, Machine.upstreamOf]

/-- Of two placed entries the one further downstream is one of the two and reaches both (7.4). -/
theorem RosterEntry.nearer_reaches {a b : RosterEntry} {d e : Descriptor} (ha : a.descriptor = some d)
    (hb : b.descriptor = some e) :
    (a.nearer b = a ∨ a.nearer b = b) ∧ (a.nearer b).Reaches a ∧ (a.nearer b).Reaches b := by
  unfold RosterEntry.nearer
  rw [hb]
  dsimp only
  split
  · rename_i hup
    refine ⟨.inr rfl, ⟨⟨e, hb⟩, fun f hf => ?_⟩, RosterEntry.reaches_refl hb⟩
    obtain rfl : d = f := Option.some.inj (ha.symm.trans hf)
    simp only [RosterEntry.upstreamOf, ha, hb, Machine.upstreamOf, Bool.or_eq_true, Bool.and_eq_true,
      decide_eq_true_eq, Bool.or_eq_false_iff, Bool.and_eq_false_iff, decide_eq_false_iff_not] at hup ⊢
    omega
  · rename_i hup
    refine ⟨.inl rfl, RosterEntry.reaches_refl ha, ⟨d, ha⟩, fun f hf => ?_⟩
    obtain rfl : e = f := Option.some.inj (hb.symm.trans hf)
    simpa using hup

/-- The entry furthest downstream of a list of placed ones is of the list and reaches all of it (R129). -/
theorem RosterEntry.foldl_nearer_reaches (l : List RosterEntry) (a : RosterEntry)
    (h : ∀ x ∈ a :: l, ∃ d, x.descriptor = some d) :
    l.foldl RosterEntry.nearer a ∈ a :: l ∧
      ∀ x ∈ a :: l, (l.foldl RosterEntry.nearer a).Reaches x := by
  induction l generalizing a with
  | nil =>
    obtain ⟨d, hd⟩ := h a List.mem_cons_self
    refine ⟨List.mem_cons_self, fun x hx => ?_⟩
    rw [List.mem_singleton.1 hx]
    exact RosterEntry.reaches_refl hd
  | cons b l ih =>
    obtain ⟨d, ha⟩ := h a List.mem_cons_self
    obtain ⟨e, hb⟩ := h b (List.mem_cons_of_mem _ List.mem_cons_self)
    obtain ⟨hone, hra, hrb⟩ := RosterEntry.nearer_reaches ha hb
    obtain ⟨hmem, hall⟩ := ih (a.nearer b) fun x hx => by
      rcases List.mem_cons.1 hx with rfl | hx
      · exact hra.placed
      · exact h x (List.mem_cons_of_mem _ (List.mem_cons_of_mem _ hx))
    have hnear := hall _ List.mem_cons_self
    refine ⟨?_, fun x hx => ?_⟩
    · rcases List.mem_cons.1 hmem with hmem | hmem
      · rw [List.foldl_cons, hmem]
        rcases hone with hone | hone <;> simp [hone]
      · exact List.mem_cons_of_mem _ (List.mem_cons_of_mem _ hmem)
    · rcases List.mem_cons.1 hx with rfl | hx
      · exact hnear.trans hra
      · rcases List.mem_cons.1 hx with rfl | hx
        · exact hnear.trans hrb
        · exact hall x (List.mem_cons_of_mem _ hx)

/-- An entry upstream of a place has one of its own (7.4). -/
theorem RosterEntry.placed_of_upstreamOf {o s : Nat} {e : RosterEntry} (h : e.upstreamOf o s = true) :
    ∃ d, e.descriptor = some d := by
  unfold RosterEntry.upstreamOf at h
  split at h
  · exact ⟨_, ‹_›⟩
  · cases h

/-- Where nothing is nearest upstream of a place no PRESENT entry lies there (R129). -/
theorem nearestUpstream_none {o s : Nat} {l : List RosterEntry} (h : nearestUpstream o s l = none) :
    ∀ e ∈ l, ¬(e.present = true ∧ e.upstreamOf o s = true) := by
  unfold nearestUpstream at h
  split at h
  · rename_i hnil
    intro e he
    simpa using List.filter_eq_nil_iff.1 hnil e he
  · cases h

/-- The entry nearest upstream of a place is PRESENT, lies there, and reaches every other that does (R129). -/
theorem nearestUpstream_some {o s : Nat} {l : List RosterEntry} {e : RosterEntry}
    (h : nearestUpstream o s l = some e) :
    e ∈ l ∧ (e.present = true ∧ e.upstreamOf o s = true) ∧
      ∀ x ∈ l, x.present = true → x.upstreamOf o s = true → e.Reaches x := by
  have hmem : ∀ x, x ∈ l.filter (fun e => e.present && e.upstreamOf o s) ↔
      x ∈ l ∧ x.present = true ∧ x.upstreamOf o s = true := fun x => by simp
  unfold nearestUpstream at h
  split at h
  · cases h
  · rename_i a es hl
    rw [hl] at hmem
    obtain ⟨hin, hall⟩ := RosterEntry.foldl_nearer_reaches es a fun x hx =>
      RosterEntry.placed_of_upstreamOf ((hmem x).1 hx).2.2
    rw [← Option.some.inj h]
    obtain ⟨hl, hup⟩ := (hmem _).1 hin
    exact ⟨hl, hup, fun x hx hp hu => hall x ((hmem x).2 ⟨hx, hp, hu⟩)⟩

/-! #### The speed reference (R131) -/

/-- The least of a list of numbers is its minimum. -/
theorem least_eq_min? (l : List Nat) : least l = l.min? := by
  cases l <;> rfl

/-- A PRESENT TERMINAL (R131). -/
def RosterEntry.presentTerminal (e : RosterEntry) : Bool :=
  e.present && e.descriptor.any fun d => decide (d.role = .terminal)

/-- The TERMINALs are the station itself, where it is one, and the PRESENT ones among the entries (R131). -/
theorem Node.terminals_eq (n : Node) : n.terminals =
    (if n.isTerminal then [n.config.station] else []) ++
    (n.roster.others.filter RosterEntry.presentTerminal).map fun e => e.station := by
  have hrole : RosterEntry.presentTerminal = fun e => e.present &&
      (match e.descriptor with | some d => decide (d.role = .terminal) | none => false) := by
    funext e
    unfold RosterEntry.presentTerminal
    cases e.descriptor <;> rfl
  rw [hrole]
  rfl

/-- A TERMINAL is the station itself or a PRESENT entry with that role (R131). -/
theorem Node.mem_terminals (n : Node) (s : Nat) : s ∈ n.terminals ↔
    (s = n.config.station ∧ n.isTerminal = true) ∨
    ∃ e ∈ n.roster.others, e.station = s ∧ e.present = true ∧
      ∃ d, e.descriptor = some d ∧ d.role = .terminal := by
  have hself : s ∈ (if n.isTerminal then [n.config.station] else []) ↔
      s = n.config.station ∧ n.isTerminal = true := by
    split <;> rename_i h <;> simp [h]
  have hterm : ∀ e : RosterEntry, e.presentTerminal = true ↔
      e.present = true ∧ ∃ d, e.descriptor = some d ∧ d.role = .terminal := by
    intro e
    unfold RosterEntry.presentTerminal
    cases e.descriptor <;> simp
  simp only [Node.terminals_eq, List.mem_append, hself, List.mem_map, List.mem_filter, hterm]
  refine or_congr_right (exists_congr fun e => ?_)
  tauto

/-! #### The gap in force (R68) -/

/-- A list is bridged when there is an entry between. -/
theorem not_isEmpty_eq_decide {α : Type} [DecidableEq α] (l : List α) :
    (!l.isEmpty) = decide (l ≠ []) := by
  cases l <;> simp

/-- The stations between, as the chosen entry's place gives them (R68, 7.4). -/
theorem Node.between_eq (chosen : Option Nat) (n : Node) : n.between chosen =
    match chosen.bind fun s => (n.roster.entry? s).bind fun e => e.descriptor.map fun d => (s, d) with
    | some (s, d) =>
      if n.config.neighbourMode = 1 then []
      else n.roster.others.filter fun e =>
        e.downstreamOf d.order s && e.upstreamOf n.config.order n.config.station
    | none => [] := by
  cases chosen with
  | none => rfl
  | some s =>
    cases he : n.roster.entry? s with
    | none => simp [Node.between, he]
    | some e => cases hd : e.descriptor <;> simp [Node.between, he, hd]

/-- A change of the choice puts it in force, with its gap and the notice (R68, R129). -/
theorem Node.remakeUpstream_changed {n : Node} (h : n.chooseUpstream ≠ n.roster.upstream) :
    n.remakeUpstream = { n with
      roster.upstream := n.chooseUpstream
      handover.neighbour := n.chooseUpstream
      handover.gap := n.config.entryGap + n.addedLength n.chooseUpstream
      handover.allowance := n.addedLength n.chooseUpstream / 10
      handover.bridging := decide (n.between n.chooseUpstream ≠ [])
      port.notices := n.port.notices ||| (1#16 <<< 10) } := by
  rw [← not_isEmpty_eq_decide]
  exact if_neg h

/-- Settles O48: the neighbour by mode and the entries upstream, the reference by the TERMINALs, the gap by
the stations between. -/
theorem rosterChoosesItsStations : Obligations.RosterChoosesItsStations := by
  refine ⟨fun n => ⟨fun h => ?_, fun h hm => ?_, fun h hm => ?_⟩,
    fun n => ⟨fun hm => if_pos hm, fun hm => ?_⟩, fun n => ⟨fun h => if_pos h, fun h => ?_⟩⟩
  · have hstop : n.bus.participation = .offline ∨ n.isOrigin = true := by
      rw [not_and_or, not_not, Bool.not_eq_false] at h
      exact h
    exact if_pos hstop
  · obtain ⟨hp, ho⟩ := h
    rw [Node.chooseUpstream, if_neg (by simp [hp, ho]), if_pos hm]
  · obtain ⟨hp, ho⟩ := h
    have hauto : n.chooseUpstream = (nearestUpstream n.config.order n.config.station
        n.roster.others).map fun e => e.station := by
      rw [Node.chooseUpstream, if_neg (by simp [hp, ho]), if_neg hm]
    rw [hauto]
    refine ⟨fun hnone => nearestUpstream_none (Option.map_eq_none_iff.1 hnone), fun s hs => ?_⟩
    obtain ⟨e, he, hstation⟩ := Option.map_eq_some_iff.1 hs
    obtain ⟨hmem, hup, hall⟩ := nearestUpstream_some he
    exact ⟨e, hmem, hstation, hup, fun x hx hxu => (hall x hx hxu.1 hxu.2).nearest⟩
  · rw [Node.chooseReference, if_neg hm, least_eq_min?]
    refine ⟨fun s hs => ?_, fun hnone x hx => ?_⟩
    · obtain ⟨hmem, hleast⟩ := List.min?_eq_some_iff.1 hs
      exact ⟨(n.mem_terminals s).1 hmem, fun x hx => hleast x ((n.mem_terminals x).2 hx)⟩
    · have hx' := (n.mem_terminals x).2 hx
      rw [List.min?_eq_none_iff.1 hnone] at hx'
      exact absurd hx' List.not_mem_nil
  · have hchanged := Node.remakeUpstream_changed h
    rw [Node.addedLength, n.between_eq] at hchanged
    exact hchanged

end Sys2Proof.Machine

/-! ### ORDER_CONFLICT and CREEL_CONFLICT (R127, R128, R148) -/

namespace Sys2Proof.Machine

/-! #### A count once the faults that wait are taken (R183) -/

/-- No own proposal is open, the faults that wait are mild, and the detected count of kind `k` is `count` once
they are taken (R183). -/
structure Node.Tallies (k : FaultKind) (count : Option Nat) (n : Node) : Prop where
  mild : n.mild
  own : n.line.own = none
  tally : raised (n.waiting k) n.faults.counts[k.index]? = count

/-- A quiet station has its counts, no fault waiting. -/
theorem Node.tallies_of_quiet (k : FaultKind) {n : Node} (h : n.quiet) :
    n.Tallies k n.faults.counts[k.index]? := by
  obtain ⟨hesc, hnone, hown⟩ := Node.of_quiet h
  exact ⟨Node.mild_of_calm ⟨hesc, hnone⟩, hown, by rw [Node.waiting_nil k hnone, raised_zero]⟩

/-- The tally is a matter of the faults and the line state. -/
theorem Node.Tallies.congr {k : FaultKind} {count : Option Nat} {m n : Node} (h : n.Tallies k count)
    (hf : m.faults = n.faults) (hl : m.line = n.line) : m.Tallies k count := by
  obtain ⟨hmild, hown, htally⟩ := h
  refine ⟨Node.mild_of_faults hf hmild, by rw [hl]; exact hown, ?_⟩
  rw [Node.waiting, hf]
  exact htally

/-- A mild fault that comes to wait raises the tally of its kind by one (R183). -/
theorem Node.Tallies.fault {k j : FaultKind} {count : Option Nat} {n : Node} (h : n.Tallies k count)
    (hj : mildKind j = true) :
    (n.fault j).Tallies k (raised (if j.index = k.index then 1 else 0) count) := by
  obtain ⟨hmild, hown, htally⟩ := h
  refine ⟨Node.fault_mild hj hmild, hown, ?_⟩
  have hwaiting : (n.fault j).waiting k = n.waiting k + if j.index = k.index then 1 else 0 := by
    simp [Node.waiting, Node.fault, List.countP_append, List.countP_singleton]
  rw [hwaiting, ← htally, raised_raised]
  rfl

/-- Faults taken leave the tally, and none waits (R183). -/
theorem Node.Tallies.takeFaults {k : FaultKind} {count : Option Nat} {n : Node} (h : n.Tallies k count)
    (hd : FaultKind.frameDropped.index ≠ k.index) :
    n.takeFaults.Tallies k count ∧ n.takeFaults.bus.participation = n.bus.participation := by
  obtain ⟨hmild, hown, htally⟩ := h
  obtain ⟨hkept, hm, hnone⟩ := n.takeFaults_kept hmild
  have hline : n.takeFaults.line = n.line := by rw [hkept]
  refine ⟨⟨hm, by rw [hline]; exact hown, ?_⟩, (Node.takeFaults_stance hmild).2⟩
  rw [Node.waiting_nil k hnone, raised_zero, Node.takeFaults_counts hd hmild, htally]

/-- A block done leaves the tally (R183). -/
theorem Node.Tallies.finish {k : FaultKind} {count : Option Nat} {n : Node} (h : n.Tallies k count)
    (hd : FaultKind.frameDropped.index ≠ k.index) : n.finish.Tallies k count := by
  obtain ⟨hmild, hown, htally⟩ := h
  obtain ⟨-, -, hm⟩ := Node.finish_stance hmild
  obtain ⟨⟨_, _, hfin⟩, -⟩ := Node.finish_upToReports hmild hown
  have hline : n.finish.line = n.line := by
    rw [hfin]
    rfl
  refine ⟨hm, by rw [hline]; exact hown, ?_⟩
  rw [Node.waiting_nil k n.finish_reported, raised_zero, Node.finish_counts hd hmild hown, htally]

/-- With no fault waiting the tally is the detected count. -/
theorem Node.Tallies.counts {k : FaultKind} {count : Option Nat} {n : Node} (h : n.Tallies k count)
    (hr : n.faults.reported = []) : n.faults.counts[k.index]? = count := by
  rw [← h.tally, Node.waiting_nil k hr, raised_zero]

/-! #### The lesser faults of a pair taken (R46, R57, R140) -/

/-- The kinds that a change of view or an offer may report (R46, R57, R140). -/
def lesserKinds : List FaultKind := [.markEvicted, .marksOverflow, .handoffDropped, .frameDropped]

/-- The faults of `m` are those of `n` but for some of these kinds, which wait. -/
structure Node.LesserFaults (m n : Node) : Prop where
  counts : m.faults.counts = n.faults.counts
  waits : ∀ r ∈ m.faults.reported, r ∈ n.faults.reported ∨ r.kind ∈ lesserKinds

theorem Node.lesserFaults_of_eq {m n : Node} (h : m.faults = n.faults) : m.LesserFaults n := by
  refine ⟨by rw [h], fun r hr => .inl ?_⟩
  rwa [← h]

theorem Node.LesserFaults.trans {l m n : Node} (h : l.LesserFaults m) (g : m.LesserFaults n) :
    l.LesserFaults n :=
  ⟨h.counts.trans g.counts, fun r hr => (h.waits r hr).elim (g.waits r) .inr⟩

theorem Node.lesserFaults_of_markFaults {m n : Node} (h : m.markFaults n) : m.LesserFaults n := by
  obtain ⟨hcounts, hwaits⟩ := h
  refine ⟨hcounts, fun r hr => (hwaits r hr).imp id fun hkind => ?_⟩
  rcases hkind with hkind | hkind <;> rw [hkind] <;> decide

/-- Where no fault waited they leave the tally of every other kind. -/
theorem Node.LesserFaults.tallies {k : FaultKind} {count : Option Nat} {m n : Node}
    (h : m.LesserFaults n) (hn : n.Tallies k count) (hr : n.faults.reported = [])
    (hk : ∀ j ∈ lesserKinds, j.index ≠ k.index) (hm : m.mild) (ho : m.line.own = none) :
    m.Tallies k count := by
  have hnone : m.waiting k = 0 := by
    refine List.countP_eq_zero.2 fun r hmem => ?_
    rcases h.waits r hmem with hold | hkind
    · rw [hr] at hold
      exact absurd hold List.not_mem_nil
    · simpa using hk _ hkind
  exact ⟨hm, ho, by rw [hnone, raised_zero, h.counts, hn.counts hr]⟩

/-- Without an own proposal a frame lost leaves the faults and opens none (R141). -/
theorem Node.frameLost_lesser (q : QueuedFrame) {n : Node} (ho : n.line.own = none) :
    (n.frameLost q).LesserFaults n ∧ (n.frameLost q).line.own = none :=
  ⟨Node.lesserFaults_of_eq (by simp), (n.frameLost_stands q).own ho⟩

/-- The fault of a frame dropped is a lesser one (R140). -/
theorem Node.dropFault_lesser (f : Frame) (n : Node) :
    (n.dropFault f).LesserFaults n ∧ (n.dropFault f).line = n.line := by
  have hkinds : ∀ r ∈ dropReports f, r.kind ∈ lesserKinds := by
    cases f <;> simp [dropReports, lesserKinds]
  rw [Node.dropFault_eq]
  exact ⟨⟨rfl, fun r hr => (List.mem_append.1 hr).imp id (hkinds r)⟩, rfl⟩

/-- An offer reports lesser faults alone (R139, R140). -/
theorem Node.offer_lesser (f : Frame) {n : Node} (ho : n.line.own = none) :
    (n.offer f).LesserFaults n ∧ (n.offer f).line.own = none := by
  have hlost : ∀ (g : Frame) (q : QueuedFrame) (m : Node), m.faults = n.faults → m.line = n.line →
      ((m.dropFault g).frameLost q).LesserFaults n ∧
      ((m.dropFault g).frameLost q).line.own = none := by
    intro g q m hf hl
    obtain ⟨hdrop, hline⟩ := m.dropFault_lesser g
    obtain ⟨hl1, hl2⟩ := Node.frameLost_lesser q (n := m.dropFault g) (by rw [hline, hl]; exact ho)
    exact ⟨hl1.trans (hdrop.trans (Node.lesserFaults_of_eq hf)), hl2⟩
  unfold Node.offer Node.offerToFull
  split
  · exact Node.frameLost_lesser _ ho
  · split
    · split
      · split
        · rename_i q hq
          obtain ⟨⟨hcounts, hwaits⟩, hown⟩ := hlost q.frame q
            { n with bus.queue := n.bus.queue.eraseP QueuedFrame.evictable } rfl rfl
          exact ⟨⟨hcounts, hwaits⟩, hown⟩
        · exact hlost f _ n rfl rfl
      · exact hlost f _ n rfl rfl
    · exact ⟨Node.lesserFaults_of_eq rfl, ho⟩

/-- Without an own proposal a pair adopted leaves the bus, opens none, and reports lesser faults alone (R87,
R88). -/
theorem Node.adoptPair_lesser (m : Nat) (s : View) {n : Node} (ho : n.line.own = none) :
    (n.adoptPair m s).LesserFaults n ∧ (n.adoptPair m s).line.own = none ∧
    (n.adoptPair m s).bus = n.bus := by
  obtain ⟨-, -, -, hmarks⟩ := n.adoptPair_leaves m s
  have hend : n.numberChanged = { n with line.proposalView := none } := by
    rw [Node.numberChanged, Node.abandonOwn, Node.endAndWithdraw_none _ _ ho]
  obtain ⟨b, hb⟩ : ∃ b : Node, b = { (if m = n.line.number then n else n.numberChanged) with
      line.view := s, line.number := m } := ⟨_, rfl⟩
  have hbase : b.line.own = none ∧ b.bus = n.bus := by
    rw [hb, hend]
    split <;> exact ⟨ho, rfl⟩
  have hadopt : n.adoptPair m s =
      if s = n.line.view then b.settle else (b.viewReported n.line.view s m).settle := by
    rw [hb]
    rfl
  have hsettle : ∀ v : Node, v.line.own = none → v.settle.line.own = none ∧ v.settle.bus = v.bus := by
    intro v hv
    obtain ⟨hl, hbus, -⟩ := v.settle_none hv
    exact ⟨by rw [hl]; exact hv, hbus⟩
  refine ⟨Node.lesserFaults_of_markFaults hmarks, ?_⟩
  rw [hadopt, ← hbase.2]
  split
  · exact hsettle b hbase.1
  · obtain ⟨hl, hbus, -⟩ := b.viewReported_leaves n.line.view s m
    obtain ⟨hown, hsame⟩ := hsettle (b.viewReported n.line.view s m) (by rw [hl]; exact hbase.1)
    exact ⟨hown, hsame.trans hbus⟩

/-- Without an own proposal the pair of a STATUS taken opens none and reports lesser faults alone; a station
that is not ACTIVE makes no frame of it (R88, R90). -/
theorem Node.deliver_status (sender : Nat) (p : StatusPayload) {n : Node} (ho : n.line.own = none) :
    (n.deliver sender (.status p)).LesserFaults n ∧
    (n.deliver sender (.status p)).line.own = none ∧
    (n.active = false → (n.deliver sender (.status p)).bus = n.bus) := by
  have htake : n.deliver sender (.status p) = n.takePair sender p.number p.view false none := rfl
  rw [htake, Node.takePair]
  split
  · exact ⟨Node.lesserFaults_of_eq rfl, ho, fun _ => rfl⟩
  · unfold Node.relayTrip
    split
    · rename_i ha
      obtain ⟨hoffer, hown⟩ := Node.offer_lesser
        (.trip { number := evSucc p.number, source := .relay, detail := sender }) ho
      obtain ⟨hadopt, hown', -⟩ := Node.adoptPair_lesser (evSucc p.number) .trip hown
      obtain ⟨hcounts, hwaits⟩ := hadopt.trans hoffer
      exact ⟨⟨hcounts, hwaits⟩, hown', fun hno => absurd (ha.symm.trans hno) (by decide)⟩
    · exact ⟨Node.lesserFaults_of_eq rfl, ho, fun _ => rfl⟩
  · obtain ⟨hadopt, hown, hbus⟩ := Node.adoptPair_lesser p.number p.view ho
    exact ⟨hadopt, hown, fun _ => hbus⟩

/-- The other block's part of a STATUS leaves the tally of a kind that is none of the lesser ones, and
participation (R88, R183). -/
theorem Node.Tallies.deliverBlock {k : FaultKind} {count : Option Nat} {n : Node}
    (h : n.Tallies k count) (hk : ∀ j ∈ lesserKinds, j.index ≠ k.index) (hr : n.faults.reported = [])
    (sender : Nat) (p : StatusPayload) :
    (n.deliverBlock sender (.status p)).Tallies k count ∧
    (n.deliverBlock sender (.status p)).bus.participation = n.bus.participation ∧
    (n.active = false → (n.deliverBlock sender (.status p)).bus = n.bus) := by
  obtain ⟨hlesser, hown, hbus⟩ := n.deliver_status sender p h.own
  have hmild : (n.deliver sender (.status p)).mild :=
    (Node.deliver_stance (f := .status p) rfl).2 h.mild
  have hpart : (n.deliver sender (.status p)).bus.participation = n.bus.participation :=
    Node.deliver_participation (f := .status p) rfl
  obtain ⟨-, hfp, -⟩ := Node.finish_stance hmild
  refine ⟨(hlesser.tallies h hr hk hmild hown).finish (hk _ (by decide)), hfp.trans hpart, fun ha => ?_⟩
  have hactive : (n.deliver sender (.status p)).active = false := by
    rw [Node.active, hpart]
    exact ha
  exact (Node.finish_bus hmild hown hactive).trans (hbus ha)

/-! #### The creel conflict (R128, R148) -/

/-- A creel conflict is counted and takes a station in service to LISTEN, its queue empty (R128, R141,
R148). -/
theorem Node.creelConflict_listens {k : FaultKind} {count : Option Nat} {n : Node}
    (h : n.Tallies k count) (hk : ∀ j ∈ lesserKinds, j.index ≠ k.index) (hs : n.inService = true) :
    n.creelConflict.Tallies k
      (raised (if FaultKind.creelConflict.index = k.index then 1 else 0) count) ∧
    n.creelConflict.bus.participation = .listen ∧ n.creelConflict.bus.queue = [] := by
  obtain ⟨htaken, hpart⟩ := (h.fault (j := .creelConflict) rfl).takeFaults (hk _ (by decide))
  have hnone := (n.fault .creelConflict).takeFaults_reported
  have hconflict : n.creelConflict =
      if (n.fault .creelConflict).takeFaults.inService then (n.fault .creelConflict).takeFaults.enterListen
      else (n.fault .creelConflict).takeFaults := rfl
  have hservice : (n.fault .creelConflict).takeFaults.inService = true := by
    rw [← hs]
    simp only [Node.inService, Node.active, hpart]
    rfl
  rw [hconflict, if_pos hservice]
  generalize (n.fault .creelConflict).takeFaults = m at htaken hnone
  obtain ⟨hlisten, -, hfaults⟩ := m.leaveFor_leaves .listen
  have hleft := m.leaveFor_left .listen
  have hmild : (m.leaveFor .listen).mild := Node.mild_of_faults hfaults htaken.mild
  have hlesser := Node.lesserFaults_of_eq hfaults
  have hlistens : m.enterListen =
      if m.bus.participation = .joining then (m.leaveFor .listen).endJoining else m.leaveFor .listen := rfl
  rw [hlistens]
  by_cases hj : m.bus.participation = .joining
  · rw [if_pos hj]
    obtain ⟨hemild, heown, hebus, -⟩ := Node.leaveFor_endJoining ⟨htaken.mild.1, hnone⟩
    have hstill := (m.leaveFor .listen).endJoining_standsStill hleft.own (by rw [hlisten]; decide)
    have hfirst : (m.leaveFor .listen).openFirst.faults = m.faults := by
      rw [Node.openFirst_eq]
      exact hfaults
    have hends := (Node.lesserFaults_of_markFaults hstill.faults).trans (Node.lesserFaults_of_eq hfirst)
    exact ⟨hends.tallies htaken hnone hk hemild heown, by rw [hebus]; exact hlisten,
      by rw [hebus]; exact hleft.queue⟩
  · rw [if_neg hj]
    exact ⟨hlesser.tallies htaken hnone hk hmild hleft.own, hlisten, hleft.queue⟩

/-! #### The Roster's part of a STATUS (R127, R128) -/

/-- The sender's entry as the Roster has it stands in order conflict (R127). -/
def Node.inConflict (sender : Nat) (n : Node) : Bool :=
  (n.roster.entry? sender).any (RosterEntry.conflict n.config.order)

/-- The STATUS of a station brings its entry into order conflict (R127). -/
def Node.comesIntoConflict (sender : Nat) (p : StatusPayload) (n : Node) : Bool :=
  !n.inConflict sender && decide (p.descriptor.order = n.config.order)

/-- What the entries are once a STATUS is in them: an ORDER_CONFLICT may wait, and the rest of the faults and
the line stand (R123, R127). -/
theorem Node.Tallies.entered {k : FaultKind} {count : Option Nat} {n : Node} (h : n.Tallies k count)
    (sender : Nat) (p : StatusPayload) : (n.entered sender (.status p)).Tallies k
      (raised (if n.comesIntoConflict sender p ∧ FaultKind.orderConflict.index = k.index then 1 else 0)
        count) := by
  obtain ⟨m, hm⟩ : ∃ m : Node, m = n.noted sender (.status p) := ⟨_, rfl⟩
  have hafter : m.roster.entry? sender = some (n.roster.entryAfter sender (.status p)) := by
    rw [hm]
    exact (n.roster.entry?_updated sender (.status p)).1
  have hpresent : (n.roster.entryAfter sender (.status p)).present = true := rfl
  have hlost : ∀ (l : Node) before, l.testLost before (m.roster.entry? sender) = l := by
    intro l before
    rw [hafter]
    cases before <;> simp [Node.testLost, hpresent]
  have horder : m.testOrder (n.roster.entry? sender) (m.roster.entry? sender) =
      if n.comesIntoConflict sender p then m.fault .orderConflict else m := by
    have hconflict : (n.roster.entryAfter sender (.status p)).conflict n.config.order =
        decide (p.descriptor.order = n.config.order) := Bool.true_and _
    rw [hafter, hm, Node.testOrder, Node.comesIntoConflict, ← hconflict]
    rfl
  have hentered : n.entered sender (.status p) =
      (if n.comesIntoConflict sender p then m.fault .orderConflict else m).remakeChoices := by
    rw [← horder, Node.entered, ← hm, hlost]
  have hbase : m.Tallies k count := h.congr (by rw [hm]; rfl) (by rw [hm]; rfl)
  have hchoices : ∀ (l : Node) c, l.Tallies k c → l.remakeChoices.Tallies k c := fun l c hl =>
    hl.congr (by rw [l.remakeChoices_eq]) (by rw [l.remakeChoices_eq])
  rw [hentered]
  refine hchoices _ _ ?_
  cases n.comesIntoConflict sender p with
  | false => simpa [raised_zero] using hbase
  | true => simpa using hbase.fault (j := .orderConflict) rfl

/-- The Roster's part of a STATUS counts an ORDER_CONFLICT where the sender's entry comes into conflict (R127,
R183). -/
theorem Node.deliverRoster_order {sender : Nat} {p : StatusPayload} {count : Option Nat} {n : Node}
    (h : n.Tallies .orderConflict count) (ht : n.roster.takes sender = true)
    (hp : p.descriptor.order = n.config.order) :
    (n.deliverRoster sender (.status p)).Tallies .orderConflict
      (raised (if n.inConflict sender then 0 else 1) count) := by
  have hentered := h.entered sender p
  have hamount : (if n.comesIntoConflict sender p ∧
      FaultKind.orderConflict.index = FaultKind.orderConflict.index then 1 else 0) =
      if n.inConflict sender then 0 else 1 := by
    unfold Node.comesIntoConflict
    cases n.inConflict sender <;> simp [hp]
  rw [hamount] at hentered
  refine Node.Tallies.finish ?_ (by decide)
  rw [Node.rosterTake_takes _ ht, Node.testCreel]
  by_cases hc : (!n.creel && (n.entered sender (.status p)).creel &&
      (n.entered sender (.status p)).inService) = true
  · obtain ⟨-, hs⟩ := Bool.and_eq_true_iff.1 hc
    rw [if_pos hc]
    have hcreel := (Node.creelConflict_listens hentered (by decide) hs).1
    rwa [if_neg (by decide), raised_zero] at hcreel
  · rw [if_neg hc]
    exact hentered

/-- The Roster has the entry of a lower-numbered ORIGIN once it has taken its STATUS (R128). -/
theorem Node.entered_creels {sender : Nat} {p : StatusPayload} {n : Node} (ho : n.isOrigin = true)
    (hl : sender < n.config.station) (hp : p.descriptor.role = .origin) :
    (n.entered sender (.status p)).creel = true := by
  obtain ⟨hothers, -⟩ := n.entered_roster sender (.status p)
  have hconfig : (n.entered sender (.status p)).config = n.config := by
    rw [(n.entered_entered sender (.status p)).kept]
  have hfound := (n.roster.entry?_updated sender (.status p)).1
  have hmem : n.roster.entryAfter sender (.status p) ∈ n.roster.updated sender (.status p) :=
    List.mem_of_find?_eq_some hfound
  have hcreel : RosterEntry.creel n.config.station (n.roster.entryAfter sender (.status p)) = true := by
    have hstation := n.roster.entryAfter_station sender (.status p)
    have hplaced : (n.roster.entryAfter sender (.status p)).present = true ∧
        (n.roster.entryAfter sender (.status p)).descriptor = some p.descriptor := ⟨rfl, rfl⟩
    simp [RosterEntry.creel, hplaced, hstation, hl, hp]
  rw [Node.creel, hothers, hconfig, Node.isOrigin, hconfig]
  exact Bool.and_eq_true_iff.2 ⟨ho, List.any_eq_true.2 ⟨_, hmem, hcreel⟩⟩

/-- The Roster's part of a STATUS that makes the creel condition true counts the conflict and takes the
station to LISTEN (R128, R148). -/
theorem Node.deliverRoster_creel {sender : Nat} {p : StatusPayload} {count : Option Nat} {n : Node}
    (h : n.Tallies .creelConflict count) (ht : n.roster.takes sender = true) (ho : n.isOrigin = true)
    (hl : sender < n.config.station) (hp : p.descriptor.role = .origin) (hc : n.creel = false)
    (hs : n.inService = true) :
    (n.deliverRoster sender (.status p)).Tallies .creelConflict (raised 1 count) ∧
    (n.deliverRoster sender (.status p)).bus.participation = .listen ∧
    (n.deliverRoster sender (.status p)).bus.queue = [] := by
  have hentered := h.entered sender p
  rw [if_neg (fun hboth => absurd hboth.2 (by decide)), raised_zero] at hentered
  have hpart := (n.entered_stance sender (.status p)).2
  have hservice : (n.entered sender (.status p)).inService = true := by
    rw [← hs]
    simp only [Node.inService, Node.active, hpart]
  have htake : n.rosterTake sender (.status p) = (n.entered sender (.status p)).creelConflict := by
    rw [Node.rosterTake_takes _ ht, Node.testCreel, hc, Node.entered_creels ho hl hp, hservice]
    rfl
  obtain ⟨htallies, hlisten, hqueue⟩ := Node.creelConflict_listens hentered (by decide) hservice
  rw [if_pos rfl, ← htake] at htallies
  rw [← htake] at hlisten hqueue
  have hactive : (n.rosterTake sender (.status p)).active = false := by
    rw [Node.active, hlisten]
    rfl
  have hbus : (n.deliverRoster sender (.status p)).bus = (n.rosterTake sender (.status p)).bus :=
    Node.finish_bus htallies.mild htallies.own hactive
  exact ⟨htallies.finish (by decide), by rw [hbus]; exact hlisten, by rw [hbus]; exact hqueue⟩

/-! #### The STATUS received (R137, log 4) -/

/-- Once the line is idle and the frame counted the tally is that of the quiet station. -/
theorem Node.FrameCounted.tallies (k : FaultKind) {m n : Node} (h : m.FrameCounted n) (hq : n.quiet) :
    m.Tallies k n.faults.counts[k.index]? ∧ m.faults.reported = [] ∧ m.config = n.config := by
  refine ⟨(Node.tallies_of_quiet k hq).congr h.faults h.line, ?_, congrArg Standing.config h.standing⟩
  rw [h.faults]
  exact hq.1.2

/-- A STATUS with the own order received by a quiet station: ORDER_CONFLICT is counted unless the sender's
entry was in conflict before (R127). -/
theorem Node.receive_order {sender : Nat} {p : StatusPayload} {n : Node} (hs : stationOk sender = true)
    (hf : frameOk (.status p) = true) (hr : n.receiving = true) (ho : sender ≠ n.config.station)
    (hq : n.quiet) (ht : n.roster.takes sender = true) (hp : p.descriptor.order = n.config.order) :
    (n.receive sender (.status p)).faults.counts[FaultKind.orderConflict.index]? =
      raised (if n.inConflict sender then 0 else 1)
        n.faults.counts[FaultKind.orderConflict.index]? := by
  have hlesser : ∀ j ∈ lesserKinds, j.index ≠ FaultKind.orderConflict.index := by decide
  have hsame : ∀ {m : Node}, m.config = n.config → m.roster = n.roster →
      m.inConflict sender = n.inConflict sender := by
    intro m hc hro
    rw [Node.inConflict, hc, hro]
    rfl
  refine Node.receive_either (P := fun m => m.faults.counts[FaultKind.orderConflict.index]? =
    raised (if n.inConflict sender then 0 else 1)
      n.faults.counts[FaultKind.orderConflict.index]?) hs hf hr ho fun b hb => ?_
  obtain ⟨htallies, hnone, hconfig⟩ := hb.tallies .orderConflict hq
  refine ⟨?_, ?_⟩
  · have hroster := Node.deliverRoster_order htallies (by rw [hb.roster]; exact ht)
      (hp.trans (congrArg ConfigRecord.order hconfig).symm)
    rw [hsame hconfig hb.roster] at hroster
    exact (hroster.deliverBlock hlesser (Node.finish_reported _) sender p).1.counts (Node.finish_reported _)
  · have hblock := (htallies.deliverBlock hlesser hnone sender p).1
    have hkept : (b.deliverBlock sender (.status p)).roster = n.roster :=
      (b.deliverBlock_roster sender _).trans hb.roster
    have hconf : (b.deliverBlock sender (.status p)).config = n.config :=
      (congrArg Standing.config (b.delivered_standing sender (.status p)).2).trans hconfig
    have hroster := Node.deliverRoster_order hblock (by rw [hkept]; exact ht)
      (hp.trans (congrArg ConfigRecord.order hconf).symm)
    rw [hsame hconf hkept] at hroster
    exact hroster.counts (Node.finish_reported _)

/-- A station that has recorded the creel conflict of `n` and listens, its queue empty (R128, R148). -/
structure Node.CreelListens (m n : Node) : Prop where
  participation : m.bus.participation = .listen
  queue : m.bus.queue = []
  counted : m.faults.counts[FaultKind.creelConflict.index]? =
    raised 1 n.faults.counts[FaultKind.creelConflict.index]?

/-- A STATUS that makes the creel condition true received by a quiet ORIGIN in service (R128). -/
theorem Node.receive_creel {sender : Nat} {p : StatusPayload} {n : Node} (hs : stationOk sender = true)
    (hf : frameOk (.status p) = true) (hsv : n.inService = true) (ho : n.isOrigin = true)
    (hl : sender < n.config.station) (hq : n.quiet) (hc : n.creel = false)
    (ht : n.roster.takes sender = true) (hp : p.descriptor.role = .origin) :
    (n.receive sender (.status p)).CreelListens n ∧
    (n.receive sender (.status p)).standing = n.standing := by
  have hlesser : ∀ j ∈ lesserKinds, j.index ≠ FaultKind.creelConflict.index := by decide
  have hr : n.receiving = true := by
    revert hsv
    unfold Node.inService Node.active Node.receiving
    cases n.bus.participation <;> decide
  have hdeliver : ∀ {m : Node} {count}, m.Tallies .creelConflict count → m.config = n.config →
      m.roster = n.roster → m.bus.participation = n.bus.participation →
      (m.deliverRoster sender (.status p)).Tallies .creelConflict (raised 1 count) ∧
      (m.deliverRoster sender (.status p)).bus.participation = .listen ∧
      (m.deliverRoster sender (.status p)).bus.queue = [] := by
    intro m count hm hconf hros hpart
    refine Node.deliverRoster_creel hm (by rw [hros]; exact ht) ?_ (by rw [hconf]; exact hl) hp ?_ ?_
    · rw [Node.isOrigin, hconf]
      exact ho
    · rw [Node.creel_congr hconf (by rw [hros])]
      exact hc
    · simp only [Node.inService, Node.active, hpart]
      exact hsv
  refine Node.receive_either (P := fun m => m.CreelListens n ∧ m.standing = n.standing) hs hf hr
    (Nat.ne_of_lt hl) fun b hb => ?_
  obtain ⟨htallies, hnone, hconfig⟩ := hb.tallies .creelConflict hq
  obtain ⟨hsr, hsb⟩ := b.delivered_standing sender (.status p)
  refine ⟨⟨?_, ?_⟩, ⟨?_, ?_⟩⟩
  · obtain ⟨hroster, hlisten, hqueue⟩ := hdeliver htallies hconfig hb.roster hb.participation
    have hactive : (b.deliverRoster sender (.status p)).active = false := by
      rw [Node.active, hlisten]
      rfl
    obtain ⟨hdone, -, hbus⟩ := hroster.deliverBlock hlesser (Node.finish_reported _) sender p
    exact ⟨by rw [hbus hactive]; exact hlisten, by rw [hbus hactive]; exact hqueue,
      hdone.counts (Node.finish_reported _)⟩
  · exact ((Node.delivered_standing sender _ _).2.trans hsr).trans hb.standing
  · obtain ⟨hblock, hpart, -⟩ := htallies.deliverBlock hlesser hnone sender p
    obtain ⟨hdone, hlisten, hqueue⟩ := hdeliver hblock
      ((congrArg Standing.config hsb).trans hconfig)
      ((b.deliverBlock_roster sender _).trans hb.roster) (hpart.trans hb.participation)
    exact ⟨hlisten, hqueue, hdone.counts (Node.finish_reported _)⟩
  · exact ((Node.delivered_standing sender _ _).1.trans hsb).trans hb.standing

/-! #### JOINING entered while the creel condition holds (R128, R146) -/

/-- A quiet station that enters JOINING while the creel condition holds goes to LISTEN at once (R128). -/
theorem Node.enterJoining_creel {n : Node} (hq : n.quiet) (hc : n.creel = true) :
    n.enterJoining.finish.CreelListens n := by
  have hjoin := n.joinBegun.remakeChoices_eq
  have hconflict : n.enterJoining = if n.joinBegun.remakeChoices.creel
      then n.joinBegun.remakeChoices.creelConflict else n.joinBegun.remakeChoices := rfl
  rw [hconflict]
  generalize n.joinBegun.remakeChoices = b at hjoin
  have hcreel : b.creel = true := by
    rw [hjoin]
    exact hc
  have hservice : b.inService = true := by
    rw [hjoin]
    rfl
  have hbase : b.Tallies .creelConflict n.faults.counts[FaultKind.creelConflict.index]? :=
    (Node.tallies_of_quiet _ hq).congr (by rw [hjoin]; rfl) (by rw [hjoin]; rfl)
  rw [if_pos hcreel]
  obtain ⟨htallies, hlisten, hqueue⟩ := Node.creelConflict_listens hbase (by decide) hservice
  rw [if_pos rfl] at htallies
  have hactive : b.creelConflict.active = false := by
    rw [Node.active, hlisten]
    rfl
  have hbus := Node.finish_bus htallies.mild htallies.own hactive
  exact ⟨by rw [hbus]; exact hlisten, by rw [hbus]; exact hqueue,
    (htallies.finish (by decide)).counts (Node.finish_reported _)⟩

/-- A request for ACTIVE in LISTEN or OFFLINE begins JOINING (R146). -/
theorem exec_setActive {s : State}
    (hp : s.node.bus.participation = .listen ∨ s.node.bus.participation = .offline) :
    exec (.setParticipation [2#8]) s =
      .next { s with node := s.node.enterJoining.finish.doneParticipation } := by
  have hconfigured : s.node.bus.participation ≠ .unconfigured := by
    rcases hp with hp | hp <;> simp [hp]
  refine exec_setParticipation rfl hconfigured ?_
  rw [s.node.setParticipation_target (t := .active) rfl, s.node.moveTo_active.1 hp]

/-- An entry stands in order conflict when it is PRESENT and placed at the own order (R127). -/
theorem Node.inConflict_iff (sender : Nat) (n : Node) : n.inConflict sender = true ↔
    ∃ e d, n.roster.entry? sender = some e ∧ e.present = true ∧ e.descriptor = some d ∧
      d.order = n.config.order := by
  unfold Node.inConflict
  cases he : n.roster.entry? sender with
  | none => simp
  | some e => cases hd : e.descriptor <;> simp [RosterEntry.conflict, hd]

/-- Settles O49: the order conflict by whether the entry stood in it before, the creel conflict in each order
of the deliveries and on entry to JOINING. -/
theorem conflictsAreRecorded : Obligations.ConflictsAreRecorded := by
  refine ⟨fun sender p s hs hf hr ho hq hroom hp => ?_,
    fun sender p s hs hf hsv ho hl hq hc hroom hp => ?_, fun s hp hq hc => ?_⟩
  · have hcounts := Node.receive_order hs hf hr ho hq (Roster.takes_of hroom) hp
    refine ⟨_, exec_received s rfl, rfl, fun hno => ?_, fun hstood => ?_⟩
    · rw [if_neg (mt (Node.inConflict_iff sender s.node).1 hno)] at hcounts
      exact hcounts
    · rw [if_pos ((Node.inConflict_iff sender s.node).2 hstood), raised_zero] at hcounts
      exact hcounts
  · obtain ⟨⟨hpart, hqueue, hcounted⟩, hstanding⟩ :=
      Node.receive_creel hs hf hsv ho hl hq hc (Roster.takes_of hroom) hp
    exact ⟨_, exec_received s rfl, rfl, hpart, hqueue, hcounted,
      congrArg (fun o : Standing => o.len.tracking) hstanding⟩
  · obtain ⟨hpart, -, hcounted⟩ := Node.enterJoining_creel hq hc
    refine ⟨_, exec_setActive hp, rfl, hpart, hcounted, ?_⟩
    rw [Node.doneParticipation, hpart]
    rfl

end Sys2Proof.Machine

/-! ### Bytes and codes (R136, R152, Table 8-6, Table 11-4) -/

namespace Sys2Proof.Machine

/-! #### Numbers as bytes (R152) -/

@[simp] theorem be_length (k v : Nat) : (be k v).length = k := by
  induction k generalizing v with
  | zero => rfl
  | succ k ih => simp [be, ih]

theorem foldl_fromBE (bs : List Byte) (acc : Nat) :
    bs.foldl (fun a b => a * 256 + b.toNat) acc = acc * 256 ^ bs.length + fromBE bs := by
  induction bs generalizing acc with
  | nil => simp [fromBE]
  | cons b bs ih =>
    have hb : fromBE (b :: bs) = b.toNat * 256 ^ bs.length + fromBE bs := by
      rw [fromBE, List.foldl_cons, ih]
      simp
    rw [List.foldl_cons, ih, hb, List.length_cons, pow_succ']
    ring

theorem fromBE_cons (b : Byte) (bs : List Byte) :
    fromBE (b :: bs) = b.toNat * 256 ^ bs.length + fromBE bs := by
  rw [fromBE, List.foldl_cons, foldl_fromBE]
  simp

theorem fromBE_lt (bs : List Byte) : fromBE bs < 256 ^ bs.length := by
  induction bs with
  | nil => simp [fromBE]
  | cons b bs ih =>
    have hb := Nat.mul_le_mul_right (256 ^ bs.length) (show b.toNat + 1 ≤ 256 from b.isLt)
    rw [fromBE_cons, List.length_cons, pow_succ']
    rw [Nat.add_mul] at hb
    omega

/-- The number that `k` bytes of `v` spell. -/
theorem fromBE_be (k v : Nat) : fromBE (be k v) = v % 256 ^ k := by
  induction k with
  | zero => simp [be, fromBE, Nat.mod_one]
  | succ k ih =>
    rw [be, fromBE_cons, ih, be_length, pow_succ, Nat.mod_mul]
    simp only [BitVec.toNat_ofNat, Nat.reducePow]
    ring

/-- A number taken from `k` bytes spells them. -/
theorem be_congr {k v w : Nat} (h : v % 256 ^ k = w % 256 ^ k) : be k v = be k w := by
  induction k with
  | zero => rfl
  | succ k ih =>
    have hlow : v % 256 ^ k = w % 256 ^ k := by
      rw [← Nat.mod_mul_right_mod v (256 ^ k) 256, ← Nat.mod_mul_right_mod w (256 ^ k) 256,
        ← pow_succ, h]
    have hhigh : v / 256 ^ k % 256 = w / 256 ^ k % 256 := by
      rw [← Nat.mod_mul_right_div_self, ← Nat.mod_mul_right_div_self, ← pow_succ, h]
    rw [be, be, ih hlow]
    congr 1
    exact BitVec.eq_of_toNat_eq (by simpa using hhigh)

theorem be_fromBE (bs : List Byte) : be bs.length (fromBE bs) = bs := by
  induction bs with
  | nil => rfl
  | cons b bs ih =>
    have hlow : be bs.length (fromBE (b :: bs)) = bs := by
      rw [be_congr (w := fromBE bs) (by rw [fromBE_cons, Nat.mul_add_mod_self_right]), ih]
    have hhigh : fromBE (b :: bs) / 256 ^ bs.length = b.toNat := by
      rw [fromBE_cons, Nat.mul_comm, Nat.mul_add_div (by positivity),
        Nat.div_eq_of_lt (fromBE_lt bs), Nat.add_zero]
    rw [List.length_cons, be, hlow, hhigh, BitVec.ofNat_toNat, BitVec.setWidth_eq]

/-! #### Fields (R152) -/

/-- A field behind the bytes `l` is a field of what follows them. -/
theorem fieldAt_append {l : List Byte} {i : Nat} (h : l.length ≤ i) (r : List Byte) (k : Nat) :
    fieldAt (l ++ r) i k = fieldAt r (i - l.length) k := by
  rw [fieldAt, fieldAt, List.drop_append, List.drop_eq_nil_of_le h, List.nil_append]

theorem fieldAt_skip {j i : Nat} (h : j ≤ i) (v : Nat) (r : List Byte) (k : Nat) :
    fieldAt (be j v ++ r) i k = fieldAt r (i - j) k := by
  rw [fieldAt_append (by rwa [be_length]), be_length]

/-- A number in its range, laid out in `k` bytes, is read back. -/
theorem fieldAt_be {k v : Nat} (h : v < 256 ^ k) (r : List Byte) : fieldAt (be k v ++ r) 0 k = v := by
  have htake : ((be k v ++ r).drop 0).take k = be k v := by
    rw [List.drop_zero, List.take_left' (be_length k v)]
  rw [fieldAt, htake, fromBE_be, Nat.mod_eq_of_lt h]

theorem fieldAt_be_self {k v : Nat} (h : v < 256 ^ k) : fieldAt (be k v) 0 k = v := by
  rw [← List.append_nil (be k v), fieldAt_be h]

theorem fieldAt_drop (bs : List Byte) (i j k : Nat) : fieldAt (bs.drop i) j k = fieldAt bs (i + j) k := by
  rw [fieldAt, fieldAt, List.drop_drop]

theorem fieldAt_lt (bs : List Byte) (i k : Nat) : fieldAt bs i k < 256 ^ k :=
  (fromBE_lt _).trans_le (Nat.pow_le_pow_right (by decide) (List.length_take_le k _))

/-- A field read spells the bytes it was read from. -/
theorem be_fieldAt {bs : List Byte} {i k : Nat} (h : i + k ≤ bs.length) :
    be k (fieldAt bs i k) = (bs.drop i).take k := by
  have hlen : ((bs.drop i).take k).length = k := by
    rw [List.length_take, List.length_drop]
    omega
  have hbe := be_fromBE ((bs.drop i).take k)
  rwa [hlen] at hbe

/-- The bytes of a layout: fields of the widths `ks`, one behind the other, from `i` onward. -/
def fieldsFrom (bs : List Byte) : Nat → List Nat → List Byte
  | _, [] => []
  | i, k :: ks => be k (fieldAt bs i k) ++ fieldsFrom bs (i + k) ks

/-- Bytes are their fields by any layout that ends within them. -/
theorem drop_eq_fieldsFrom {bs : List Byte} {i : Nat} {ks : List Nat} (h : i + ks.sum ≤ bs.length) :
    bs.drop i = fieldsFrom bs i ks ++ bs.drop (i + ks.sum) := by
  induction ks generalizing i with
  | nil => rfl
  | cons k ks ih =>
    rw [List.sum_cons] at h ⊢
    rw [fieldsFrom, be_fieldAt (by omega), List.append_assoc, ← Nat.add_assoc,
      ← ih (by omega), ← List.drop_drop, List.take_append_drop]

theorem fieldsFrom_length (bs : List Byte) (i : Nat) (ks : List Nat) :
    (fieldsFrom bs i ks).length = ks.sum := by
  induction ks generalizing i with
  | nil => rfl
  | cons k ks ih => rw [fieldsFrom, List.length_append, be_length, ih, List.sum_cons]

/-- The first bytes are their fields by a layout of as many. -/
theorem take_eq_fieldsFrom {bs : List Byte} {ks : List Nat} (h : ks.sum ≤ bs.length) :
    bs.take ks.sum = fieldsFrom bs 0 ks := by
  have hd := drop_eq_fieldsFrom (bs := bs) (i := 0) (ks := ks) (by omega)
  rw [List.drop_zero] at hd
  conv_lhs => rw [hd]
  exact List.take_left' (fieldsFrom_length bs 0 ks)

/-- Bytes are their fields by a layout that takes all of them. -/
theorem eq_fieldsFrom {bs : List Byte} (ks : List Nat) (h : bs.length = ks.sum) :
    bs = fieldsFrom bs 0 ks := by
  rw [← take_eq_fieldsFrom h.ge, ← h, List.take_length]

end Sys2Proof.Machine

namespace Sys2Proof

/-! #### Codes read back (Table 8-6, Table 11-4) -/

theorem Frame.kindCode_lt (f : Frame) : f.kindCode < 256 := by
  cases f <;> exact of_decide_eq_true rfl

theorem View.ofCode?_eq_some {c : Nat} {v : View} : View.ofCode? c = some v ↔ v.code = c := by
  constructor
  · intro h
    unfold View.ofCode? at h
    split at h <;> cases h <;> rfl
  · rintro rfl
    cases v <;> rfl

theorem Role.ofCode?_eq_some {c : Nat} {r : Role} : Role.ofCode? c = some r ↔ r.code = c := by
  constructor
  · intro h
    unfold Role.ofCode? at h
    split at h <;> cases h <;> rfl
  · rintro rfl
    cases r <;> rfl

theorem Content.ofCode?_eq_some {c : Nat} {a : Content} : Content.ofCode? c = some a ↔ a.code = c := by
  constructor
  · intro h
    unfold Content.ofCode? at h
    split at h <;> cases h <;> rfl
  · rintro rfl
    cases a <;> rfl

theorem MarkKind.ofCode?_eq_some {c : Nat} {k : MarkKind} :
    MarkKind.ofCode? c = some k ↔ k.code = c := by
  constructor
  · intro h
    unfold MarkKind.ofCode? at h
    split at h <;> cases h <;> rfl
  · rintro rfl
    cases k <;> rfl

theorem Source.ofCode?_eq_some {c : Nat} {a : Source} : Source.ofCode? c = some a ↔ a.code = c := by
  constructor
  · intro h
    unfold Source.ofCode? at h
    split at h <;> cases h <;> rfl
  · rintro rfl
    cases a <;> rfl

theorem HoldReason.ofCode?_eq_some {c : Nat} {r : HoldReason} :
    HoldReason.ofCode? c = some r ↔ r.code = c := by
  constructor
  · intro h
    unfold HoldReason.ofCode? at h
    split at h <;> cases h <;> rfl
  · rintro rfl
    cases r <;> rfl

theorem FaultClass.ofCode?_eq_some {c : Nat} {a : FaultClass} :
    FaultClass.ofCode? c = some a ↔ a.code = c := by
  constructor
  · intro h
    unfold FaultClass.ofCode? at h
    split at h <;> cases h <;> rfl
  · rintro rfl
    cases a <;> rfl

theorem FaultKind.ofCode?_eq_some {c : Nat} {k : FaultKind} :
    FaultKind.ofCode? c = some k ↔ k.code = c := by
  constructor
  · intro h
    simpa using List.find?_some h
  · rintro rfl
    cases k <;> rfl

/-! Every code is read back, and fits its byte. -/

@[simp] theorem View.ofCode?_code (v : View) : View.ofCode? v.code = some v :=
  View.ofCode?_eq_some.2 rfl

theorem View.code_lt (v : View) : v.code < 256 := by cases v <;> decide

@[simp] theorem Role.ofCode?_code (r : Role) : Role.ofCode? r.code = some r :=
  Role.ofCode?_eq_some.2 rfl

theorem Role.code_lt (r : Role) : r.code < 256 := by cases r <;> decide

@[simp] theorem Content.ofCode?_code (c : Content) : Content.ofCode? c.code = some c :=
  Content.ofCode?_eq_some.2 rfl

theorem Content.code_lt (c : Content) : c.code < 256 := by cases c <;> decide

@[simp] theorem MarkKind.ofCode?_code (k : MarkKind) : MarkKind.ofCode? k.code = some k :=
  MarkKind.ofCode?_eq_some.2 rfl

theorem MarkKind.code_lt (k : MarkKind) : k.code < 256 := by cases k <;> decide

@[simp] theorem Source.ofCode?_code (a : Source) : Source.ofCode? a.code = some a :=
  Source.ofCode?_eq_some.2 rfl

theorem Source.code_lt (a : Source) : a.code < 256 := by cases a <;> decide

@[simp] theorem HoldReason.ofCode?_code (r : HoldReason) : HoldReason.ofCode? r.code = some r :=
  HoldReason.ofCode?_eq_some.2 rfl

theorem HoldReason.code_lt (r : HoldReason) : r.code < 256 := by cases r <;> decide

@[simp] theorem FaultClass.ofCode?_code (c : FaultClass) : FaultClass.ofCode? c.code = some c :=
  FaultClass.ofCode?_eq_some.2 rfl

theorem FaultClass.code_lt (c : FaultClass) : c.code < 256 := by cases c <;> decide

@[simp] theorem FaultKind.ofCode?_code (k : FaultKind) : FaultKind.ofCode? k.code = some k :=
  FaultKind.ofCode?_eq_some.2 rfl

theorem FaultKind.code_lt (k : FaultKind) : k.code < 256 := by cases k <;> decide

end Sys2Proof

/-! ### Payloads laid out are read back (R137, R152, R153, Table 8-7, Table 8-8) -/

namespace Sys2Proof.Machine

/-! #### The payloads of a fixed length -/

theorem stationOk_lt {s : Nat} (h : stationOk s = true) : s < 32 := by
  simp only [stationOk, Bool.and_eq_true, decide_eq_true_eq] at h
  omega

theorem word16Ok_lt {v : Nat} (h : word16Ok v = true) : v < 65536 :=
  Nat.lt_succ_of_le (of_decide_eq_true h)

theorem proposalIdOk_lt {i : ProposalId} (h : proposalIdOk i = true) :
    i.station < 32 ∧ i.count < 256 := by
  simp only [proposalIdOk, Bool.and_eq_true, decide_eq_true_eq] at h
  exact ⟨stationOk_lt h.1, Nat.lt_succ_of_le h.2⟩

/-- The detail of an announcement fits its byte (5.3). -/
theorem detailOk_lt {s : Source} {d : Nat} (h : detailOk s d = true) : d < 256 := by
  cases s with
  | localRequest => exact Nat.lt_succ_of_le (of_decide_eq_true h)
  | fault =>
    obtain ⟨k, hk⟩ := Option.isSome_iff_exists.1 h
    exact FaultKind.ofCode?_eq_some.1 hk ▸ k.code_lt
  | relay => exact (stationOk_lt h).trans (by decide)

theorem parseDescriptor_bytes {d : Descriptor} (h : descriptorOk d = true) (pre : List Byte) :
    parseDescriptor (pre ++ descriptorBytes d) pre.length = some d := by
  obtain ⟨role, order, reach, gap, right⟩ := d
  simp only [descriptorOk, Bool.and_eq_true, decide_eq_true_eq] at h
  obtain ⟨⟨⟨⟨-, horder⟩, -⟩, hreach⟩, hgap⟩ := h
  have hrole := role.code_lt
  cases right <;>
    simp (disch := omega) [parseDescriptor, descriptorBytes, fieldAt_append, fieldAt_skip, fieldAt_be,
      fieldAt_be_self, bit, guard]

theorem parseAnnounce_bytes {p : AnnouncePayload} (hn : word16Ok p.number = true)
    (hd : detailOk p.source p.detail = true) :
    parseAnnounce (be 2 p.number ++ (be 1 p.source.code ++ be 1 p.detail)) = some p := by
  have hnumber := word16Ok_lt hn
  have hdetail := detailOk_lt hd
  have hsource := p.source.code_lt
  simp (disch := omega) [parseAnnounce, fieldAt_skip, fieldAt_be, fieldAt_be_self]

theorem parseId_bytes {i : ProposalId} (h : proposalIdOk i = true) (r : List Byte) :
    parseId (idBytes i ++ r) = i := by
  obtain ⟨hs, hc⟩ := proposalIdOk_lt h
  simp (disch := omega) [parseId, idBytes, fieldAt_skip, fieldAt_be]

/-- What stands behind a proposal's id. -/
theorem fieldAt_skipId {i : Nat} (h : 2 ≤ i) (d : ProposalId) (r : List Byte) (k : Nat) :
    fieldAt (idBytes d ++ r) i k = fieldAt r (i - 2) k := fieldAt_append h r k

@[simp] theorem idBytes_length (i : ProposalId) : (idBytes i).length = 2 := rfl

@[simp] theorem descriptorBytes_length (d : Descriptor) : (descriptorBytes d).length = 8 := rfl

/-! #### The content block (R153, Table 8-8) -/

/-- The origin length of a content block, free bytes when it is absent (log 5). -/
def originBytes (fill : List Byte) (b : Body) : List Byte :=
  match b.origin with
  | some v => be 4 v
  | none => fill

/-- The fields of a content block before its readings. -/
def bodyHead (fill : List Byte) (b : Body) : List Byte :=
  be 3 b.first ++ be 3 b.last ++ be 1 b.content.code ++ be 1 (presence b) ++ be 2 b.flags.toNat ++
  be 4 (b.nominal.getD 0) ++ originBytes fill b ++ be 2 b.beamSet ++ be 3 b.skip ++ be 2 b.dwell ++
  be 1 b.summary.toNat ++ be 1 (16 * b.marks.length + b.trail.length)

theorem contentBlock_eq (fill : List Byte) (b : Body) :
    contentBlock fill b = bodyHead fill b ++ (readingBytes b.pickup ++ (readingBytes b.moisture ++
      (readingBytes b.tension ++ (b.marks.flatMap markEntryBytes ++ b.trail.flatMap trailEntryBytes)))) := by
  simp only [contentBlock, bodyHead, originBytes, List.append_assoc] <;> rfl

theorem originBytes_length {fill : List Byte} (hf : fill.length = 4) (b : Body) :
    (originBytes fill b).length = 4 := by
  unfold originBytes
  split
  · exact be_length 4 _
  · exact hf

theorem bodyHead_length {fill : List Byte} (hf : fill.length = 4) (b : Body) :
    (bodyHead fill b).length = 27 := by
  simp [bodyHead, originBytes_length hf]

@[simp] theorem readingBytes_length (r : Option Reading) : (readingBytes r).length = 4 := by
  cases r <;> rfl

@[simp] theorem markEntryBytes_length (m : MarkEntry) : (markEntryBytes m).length = 8 := rfl

@[simp] theorem trailEntryBytes_length (t : TrailEntry) : (trailEntryBytes t).length = 3 := by
  unfold trailEntryBytes
  split <;> rfl

theorem flatMap_length {α : Type} {f : α → List Byte} {k : Nat} (hf : ∀ a, (f a).length = k)
    (l : List α) : (l.flatMap f).length = k * l.length := by
  induction l with
  | nil => rfl
  | cons a l ih => rw [List.flatMap_cons, List.length_append, ih, hf, List.length_cons, Nat.mul_succ,
      Nat.add_comm]

theorem nominalOk_lt {v : Option Nat} (h : nominalOk v = true) :
    v.getD 0 < 4294967296 ∧ optLength (v.getD 0) = v := by
  cases v with
  | none => exact ⟨by decide, rfl⟩
  | some v =>
    simp only [nominalOk, Bool.and_eq_true, decide_eq_true_eq] at h
    simp only [Config.maxLength] at h
    refine ⟨by simp only [Option.getD_some]; omega, ?_⟩
    exact if_neg (by simp only [Option.getD_some]; omega)

/-- The presence bits and what they tell (Table 8-8). -/
theorem presence_testBit (b : Body) : presence b < 16 ∧ (presence b).testBit 0 = b.origin.isSome ∧
    (presence b).testBit 1 = b.pickup.isSome ∧ (presence b).testBit 2 = b.moisture.isSome ∧
    (presence b).testBit 3 = b.tension.isSome := by
  unfold presence
  generalize b.origin.isSome = o
  generalize b.pickup.isSome = p
  generalize b.moisture.isSome = m
  generalize b.tension.isSome = t
  revert o p m t
  decide

/-- A reading laid out is read back (Table 8-8). -/
theorem parseReading_bytes {r : Option Reading} (h : readingOk r = true) (pre rest : List Byte) :
    parseReading r.isSome (pre ++ (readingBytes r ++ rest)) pre.length = some r := by
  cases r with
  | none => simp (disch := omega) [parseReading, readingBytes, fieldAt_append, fieldAt_be]
  | some r =>
    simp only [readingOk, word16Ok, Bool.and_eq_true, decide_eq_true_eq] at h
    obtain ⟨⟨hv, -⟩, hc⟩ := h
    simp (disch := omega) [parseReading, readingBytes, fieldAt_append, fieldAt_skip, fieldAt_be]

theorem markEntryOk_lt {m : MarkEntry} (h : markEntryOk m = true) :
    m.id < 65536 ∧ m.station < 32 ∧ m.offset < 4294967296 := by
  simp only [markEntryOk, Bool.and_eq_true, decide_eq_true_eq] at h
  simp only [Config.maxLength] at h
  obtain ⟨⟨⟨hi, hs⟩, ho⟩, -⟩ := h
  exact ⟨word16Ok_lt hi, stationOk_lt hs, by omega⟩

/-- Mark entries laid out are read back (R153). -/
theorem parseMarks_bytes {l : List MarkEntry} (h : ∀ m ∈ l, markEntryOk m = true)
    (pre rest : List Byte) :
    parseMarks l.length (pre ++ (l.flatMap markEntryBytes ++ rest)) pre.length = some l := by
  induction l generalizing pre with
  | nil => rfl
  | cons m l ih =>
    obtain ⟨hi, hs, ho⟩ := markEntryOk_lt (h m List.mem_cons_self)
    have hk := m.kind.code_lt
    have hrest := ih (fun x hx => h x (List.mem_cons_of_mem _ hx)) (pre ++ markEntryBytes m)
    rw [List.length_append, markEntryBytes_length, List.append_assoc] at hrest
    rw [List.flatMap_cons, List.append_assoc, List.length_cons, parseMarks, hrest]
    simp (disch := omega) [markEntryBytes, fieldAt_append, fieldAt_skip, fieldAt_be]

/-- A stretch as two bytes of two's complement is read back (R152). -/
theorem signed16_beSigned {v : Int} (hlo : -32768 ≤ v) (hhi : v ≤ 32767) (r : List Byte) :
    signed16 (fieldAt (beSigned 2 v ++ r) 0 2) = v := by
  rw [beSigned, fieldAt_be (by omega), signed16]
  split <;> omega

/-- Trail entries laid out are read back (R153). -/
theorem parseTrail_bytes {l : List TrailEntry} (h : ∀ t ∈ l, trailEntryOk t = true)
    (pre rest : List Byte) :
    parseTrail l.length (pre ++ (l.flatMap trailEntryBytes ++ rest)) pre.length = some l := by
  induction l generalizing pre with
  | nil => rfl
  | cons t l ih =>
    have hok := h t List.mem_cons_self
    obtain ⟨station, stretch⟩ := t
    simp only [trailEntryOk, Bool.and_eq_true] at hok
    obtain ⟨hs, hv⟩ := hok
    have hs := stationOk_lt hs
    have hrest := ih (fun x hx => h x (List.mem_cons_of_mem _ hx))
      (pre ++ trailEntryBytes { station := station, stretch := stretch })
    rw [List.length_append, trailEntryBytes_length, List.append_assoc] at hrest
    rw [List.flatMap_cons, List.append_assoc, List.length_cons, parseTrail, hrest]
    have hmod : station % 128 = station := Nat.mod_eq_of_lt (by omega)
    cases stretch with
    | none =>
      simp (disch := omega) [trailEntryBytes, fieldAt_append, fieldAt_skip, fieldAt_be, guard, hmod, hs]
    | some v =>
      simp only [Bool.and_eq_true, decide_eq_true_eq] at hv
      have hlow : ¬ 128 ≤ station := by omega
      simp (disch := omega) [trailEntryBytes, fieldAt_append, fieldAt_skip, fieldAt_be, guard,
        signed16_beSigned, hmod, hs, hlow]

/-- The ranges of a content block's fields that its layout turns on (R137, R152, R153). -/
structure BodyInRange (b : Body) : Prop where
  first : b.first < 16777216
  last : b.last < 16777216
  nominal : nominalOk b.nominal = true
  origin : ∀ v, b.origin = some v → v < 4294967296
  beamSet : b.beamSet < 65536
  skip : b.skip < 16777216
  dwell : b.dwell < 65536
  marks : b.marks.length ≤ 4
  entries : ∀ m ∈ b.marks, markEntryOk m = true
  trail : b.trail.length ≤ 6
  stretches : ∀ t ∈ b.trail, trailEntryOk t = true
  pickup : readingOk b.pickup = true
  moisture : readingOk b.moisture = true
  tension : readingOk b.tension = true

theorem bodyOk_inRange {b : Body} (h : bodyOk b = true) : BodyInRange b := by
  simp only [bodyOk, segmentOk, word16Ok, Bool.and_eq_true, decide_eq_true_eq, List.all_eq_true,
    and_assoc] at h
  simp only [Config.maxSegment, Config.maxSkip, Config.markListCapacity, Config.trailCapacity] at h
  obtain ⟨-, hfirst, -, hlast, -, -, hnominal, horigin, hbeam, -, hskip, hmarks, hentries, -, htrail,
    hstretches, hpickup, hmoisture, htension, hdwell⟩ := h
  refine ⟨by omega, by omega, hnominal, fun v hv => ?_, by omega, by omega, by omega, hmarks, hentries,
    htrail, hstretches, hpickup, hmoisture, htension⟩
  rw [hv] at horigin
  simp only [originOk, decide_eq_true_eq] at horigin
  simp only [Config.maxLength] at horigin
  omega

/-- A content block's fields before its readings are read back (Table 8-8). -/
theorem contentBlock_fields {fill : List Byte} (hf : fill.length = 4) {b : Body} (h : bodyOk b = true) :
    let c := contentBlock fill b
    (fieldAt c 0 3 = b.first ∧ fieldAt c 3 3 = b.last ∧ fieldAt c 6 1 = b.content.code ∧
      fieldAt c 7 1 = presence b ∧ fieldAt c 8 2 = b.flags.toNat ∧
      fieldAt c 10 4 = b.nominal.getD 0) ∧
    (∀ v, b.origin = some v → fieldAt c 14 4 = v) ∧
    fieldAt c 18 2 = b.beamSet ∧ fieldAt c 20 3 = b.skip ∧ fieldAt c 23 2 = b.dwell ∧
      fieldAt c 25 1 = b.summary.toNat ∧ fieldAt c 26 1 = 16 * b.marks.length + b.trail.length := by
  obtain ⟨hfirst, hlast, hnominal, horigin, hbeam, hskip, hdwell, hmarks, -, htrail, -⟩ :=
    bodyOk_inRange h
  have hcontent := b.content.code_lt
  have hpresence := (presence_testBit b).1
  have hflags := b.flags.isLt
  have hsummary := b.summary.isLt
  have hnominal := (nominalOk_lt hnominal).1
  have horiginLength := originBytes_length hf b
  simp only [contentBlock_eq]
  refine ⟨?_, fun v hv => ?_, ?_⟩
  · simp (disch := omega) [bodyHead, fieldAt_skip, fieldAt_be]
  · have hlt := horigin v hv
    simp (disch := omega) [bodyHead, originBytes, hv, fieldAt_skip, fieldAt_be]
  · simp (disch := omega) [bodyHead, fieldAt_skip, fieldAt_append, horiginLength, fieldAt_be]

/-- A content block's readings, mark list and trail are read back (R153, Table 8-8). -/
theorem contentBlock_lists {fill : List Byte} (hf : fill.length = 4) {b : Body} (h : bodyOk b = true) :
    let c := contentBlock fill b
    parseReading b.pickup.isSome c 27 = some b.pickup ∧
    parseReading b.moisture.isSome c 31 = some b.moisture ∧
    parseReading b.tension.isSome c 35 = some b.tension ∧
    parseMarks b.marks.length c 39 = some b.marks ∧
    parseTrail b.trail.length c (39 + 8 * b.marks.length) = some b.trail := by
  obtain ⟨-, -, -, -, -, -, -, -, hmarks, -, htrail, hpickup, hmoisture, htension⟩ := bodyOk_inRange h
  have hhead := bodyHead_length hf b
  have hp := parseReading_bytes hpickup (bodyHead fill b) (readingBytes b.moisture ++
    (readingBytes b.tension ++ (b.marks.flatMap markEntryBytes ++ b.trail.flatMap trailEntryBytes)))
  have hm := parseReading_bytes hmoisture (bodyHead fill b ++ readingBytes b.pickup)
    (readingBytes b.tension ++ (b.marks.flatMap markEntryBytes ++ b.trail.flatMap trailEntryBytes))
  have ht := parseReading_bytes htension (bodyHead fill b ++ readingBytes b.pickup ++
    readingBytes b.moisture) (b.marks.flatMap markEntryBytes ++ b.trail.flatMap trailEntryBytes)
  have hms := parseMarks_bytes hmarks (bodyHead fill b ++ readingBytes b.pickup ++
    readingBytes b.moisture ++ readingBytes b.tension) (b.trail.flatMap trailEntryBytes)
  have hts := parseTrail_bytes htrail (bodyHead fill b ++ readingBytes b.pickup ++
    readingBytes b.moisture ++ readingBytes b.tension ++ b.marks.flatMap markEntryBytes) []
  rw [List.length_append] at hts
  simp only [List.length_append, List.append_assoc, List.append_nil, hhead, readingBytes_length,
    flatMap_length markEntryBytes_length, Nat.reduceAdd, ← contentBlock_eq] at hp hm ht hms hts
  exact ⟨hp, hm, ht, hms, hts⟩

theorem contentBlock_length {fill : List Byte} (hf : fill.length = 4) (b : Body) :
    (contentBlock fill b).length = 39 + 8 * b.marks.length + 3 * b.trail.length := by
  rw [contentBlock_eq]
  simp only [List.length_append, bodyHead_length hf, readingBytes_length,
    flatMap_length markEntryBytes_length, flatMap_length trailEntryBytes_length]
  omega

/-- A HANDOFF payload laid out is read back (R153). -/
theorem parseHandoff_bytes {fill : List Byte} (hf : fill.length = 4) {p : HandoffPayload}
    (h : frameOk (.handoff p) = true) :
    parseHandoff (be 4 (p.nextNominal.getD 0) ++ contentBlock fill p.body) = some p := by
  obtain ⟨next, b⟩ := p
  simp only [frameOk, Bool.and_eq_true] at h
  obtain ⟨hnext, hok⟩ := h
  obtain ⟨hlt, hnext⟩ := nominalOk_lt hnext
  obtain ⟨⟨hfirst, hlast, hcontent, hpresence, hflags, hnominal⟩, horigin, hbeam, hskip, hdwell,
    hsummary, hcounts⟩ := contentBlock_fields hf hok
  obtain ⟨hp, hm, ht, hms, hts⟩ := contentBlock_lists hf hok
  obtain ⟨hbits, hbit0, hbit1, hbit2, hbit3⟩ := presence_testBit b
  have hlength := contentBlock_length hf b
  obtain ⟨-, -, hnominalOk, -, -, -, -, hmarks, -, htrail, -⟩ := bodyOk_inRange hok
  have hnm : (16 * b.marks.length + b.trail.length) / 16 = b.marks.length := by omega
  have hnt : (16 * b.marks.length + b.trail.length) % 16 = b.trail.length := by omega
  have hnext' := fieldAt_be (k := 4) hlt (contentBlock fill b)
  have htotal : 4 + (39 + 8 * b.marks.length + 3 * b.trail.length) =
    43 + 8 * b.marks.length + 3 * b.trail.length := by omega
  simp only [parseHandoff, List.drop_left' (be_length 4 _), List.length_append, be_length]
  generalize contentBlock fill b = c at *
  have horiginRead : (if b.origin.isSome then some (fieldAt c 14 4) else none) = b.origin := by
    cases ho : b.origin with
    | none => rfl
    | some v => simp [horigin v ho]
  simp [guard, hfirst, hlast, hcontent, hpresence, hflags, hnominal, hbeam, hskip, hdwell, hsummary,
    hcounts, hbits, hbit0, hbit1, hbit2, hbit3, hnm, hnt, hp, hm, ht, hms, hts, hnext', hnext, hlength,
    htotal, hmarks, htrail, Config.markListCapacity, Config.trailCapacity, horiginRead,
    (nominalOk_lt hnominalOk).2]

/-! #### Every frame -/

/-- The payload of a frame with its fields in their ranges is read back, whatever the free bytes (R137,
log 5). -/
theorem parsePayload_payloadBytes {fill : List Byte} (hf : fill.length = 4) {f : Frame}
    (h : frameOk f = true) : parsePayload f.kindCode (payloadBytes fill f) = some f := by
  cases f with
  | status p =>
    simp only [frameOk, Bool.and_eq_true, decide_eq_true_eq] at h
    obtain ⟨⟨⟨⟨-, hnumber⟩, hspeed⟩, hnewest⟩, hdescriptor⟩ := h
    have hnumber := word16Ok_lt hnumber
    have hspeed := word16Ok_lt hspeed
    simp only [Config.maxSegment] at hnewest
    have hview := p.view.code_lt
    have hd := parseDescriptor_bytes hdescriptor (be 1 p.view.code ++ (be 2 p.number ++ (be 2 p.speed ++
      be 3 p.newest)))
    simp only [List.length_append, be_length, Nat.reduceAdd, List.append_assoc] at hd
    simp (disch := omega) [parsePayload, Frame.kindCode, payloadBytes, hd, fieldAt_skip, fieldAt_be]
  | handoff p => simp [parsePayload, Frame.kindCode, payloadBytes, parseHandoff_bytes hf h]
  | stop p =>
    simp only [frameOk, Bool.and_eq_true] at h
    simp [parsePayload, Frame.kindCode, payloadBytes, parseAnnounce_bytes h.1 h.2]
  | trip p =>
    simp only [frameOk, Bool.and_eq_true] at h
    simp [parsePayload, Frame.kindCode, payloadBytes, parseAnnounce_bytes h.1 h.2]
  | propose p =>
    simp only [frameOk, Bool.and_eq_true] at h
    obtain ⟨⟨hid, hbase⟩, -⟩ := h
    have hbase := word16Ok_lt hbase
    have htarget := p.target.code_lt
    simp (disch := omega) [parsePayload, Frame.kindCode, payloadBytes, parseId_bytes hid, fieldAt_skipId,
      fieldAt_skip, fieldAt_be, fieldAt_be_self]
  | assent i =>
    have hi := parseId_bytes h []
    rw [List.append_nil] at hi
    simp [parsePayload, Frame.kindCode, payloadBytes, hi]
  | hold p =>
    have hreason := p.reason.code_lt
    simp (disch := omega) [parsePayload, Frame.kindCode, payloadBytes, parseId_bytes h, fieldAt_skipId,
      fieldAt_be_self]
  | enact p =>
    simp only [frameOk, Bool.and_eq_true] at h
    obtain ⟨⟨⟨hid, hbase⟩, hnumber⟩, -⟩ := h
    have hbase := word16Ok_lt hbase
    have hnumber := word16Ok_lt hnumber
    have htarget := p.target.code_lt
    simp (disch := omega) [parsePayload, Frame.kindCode, payloadBytes, parseId_bytes hid, fieldAt_skipId,
      fieldAt_skip, fieldAt_be, fieldAt_be_self]
  | fault p =>
    have hclass := p.cls.code_lt
    have hkind := p.kind.code_lt
    simp (disch := omega) [parsePayload, Frame.kindCode, payloadBytes, fieldAt_skip, fieldAt_be,
      fieldAt_be_self]

end Sys2Proof.Machine

/-! ### Bytes read are those of a payload laid out (R137, R152, R153) -/

namespace Sys2Proof.Machine

/-! #### Entries and readings -/

/-- Two fields side by side are one of their widths together. -/
theorem be_fieldAt_add {bs : List Byte} {i j k : Nat} (h : i + (j + k) ≤ bs.length) :
    be j (fieldAt bs i j) ++ be k (fieldAt bs (i + j) k) = be (j + k) (fieldAt bs i (j + k)) := by
  rw [be_fieldAt (by omega), be_fieldAt (by omega), be_fieldAt h, List.take_add, List.drop_drop]

theorem parseReading_spells {present : Bool} {bs : List Byte} {i : Nat} {r : Option Reading}
    (h : parseReading present bs i = some r) (hi : i + 4 ≤ bs.length) :
    r.isSome = present ∧ readingBytes r = be 4 (fieldAt bs i 4) := by
  unfold parseReading at h
  split at h
  · rename_i hp
    obtain rfl := Option.some.inj h
    exact ⟨hp.symm, be_fieldAt_add (j := 2) (k := 2) hi⟩
  · rename_i hp
    split at h
    · rename_i h0
      obtain rfl := Option.some.inj h
      exact ⟨by simpa using hp, by rw [h0]; rfl⟩
    · exact absurd h (by simp)

theorem parseMarks_spells {n : Nat} {bs : List Byte} {i : Nat} {l : List MarkEntry}
    (h : parseMarks n bs i = some l) (hi : i + 8 * n ≤ bs.length) :
    l.length = n ∧ l.flatMap markEntryBytes ++ bs.drop (i + 8 * n) = bs.drop i := by
  induction n generalizing i l with
  | zero =>
    obtain rfl := Option.some.inj h
    exact ⟨rfl, rfl⟩
  | succ n ih =>
    simp only [parseMarks, Option.bind_eq_bind, Option.bind_eq_some_iff, Option.pure_def,
      Option.some.injEq] at h
    obtain ⟨kind, hkind, rest, hrest, rfl⟩ := h
    obtain ⟨hlen, hbytes⟩ := ih hrest (by omega)
    have hd := drop_eq_fieldsFrom (bs := bs) (i := i) (ks := [1, 2, 1, 4]) (by simp; omega)
    rw [show i + [1, 2, 1, 4].sum = i + 8 from rfl, ← hbytes] at hd
    refine ⟨by rw [List.length_cons, hlen], ?_⟩
    rw [hd]
    simp [fieldsFrom, markEntryBytes, MarkKind.ofCode?_eq_some.1 hkind, Nat.mul_succ, Nat.add_assoc, Nat.add_comm 8]

/-- Two bytes of two's complement are spelled by the stretch they give (R152). -/
theorem beSigned_signed16 {v : Nat} (h : v < 65536) : beSigned 2 (signed16 v) = be 2 v := by
  have hv : (signed16 v % (256 ^ 2 : Nat)).toNat = v := by
    unfold signed16
    split <;> omega
  rw [beSigned, hv]

theorem parseTrail_spells {n : Nat} {bs : List Byte} {i : Nat} {l : List TrailEntry}
    (h : parseTrail n bs i = some l) (hi : i + 3 * n ≤ bs.length) :
    l.length = n ∧ l.flatMap trailEntryBytes ++ bs.drop (i + 3 * n) = bs.drop i := by
  induction n generalizing i l with
  | zero =>
    obtain rfl := Option.some.inj h
    exact ⟨rfl, rfl⟩
  | succ n ih =>
    simp only [parseTrail, Option.bind_eq_bind, Option.bind_eq_some_iff, Option.pure_def] at h
    obtain ⟨rest, hrest, -, hs, h⟩ := h
    obtain ⟨hlen, hbytes⟩ := ih hrest (by omega)
    have hd := drop_eq_fieldsFrom (bs := bs) (i := i) (ks := [1, 2]) (by simp; omega)
    rw [show i + [1, 2].sum = i + 3 from rfl, ← hbytes] at hd
    have hentry : ∃ t : TrailEntry, l = t :: rest ∧
        trailEntryBytes t = be 1 (fieldAt bs i 1) ++ be 2 (fieldAt bs (i + 1) 2) := by
      split at h
      · rename_i hp
        simp only [Option.bind_eq_some_iff, Option.guard_eq_some', Option.some.injEq] at h
        obtain ⟨-, hv, rfl⟩ := h
        refine ⟨_, rfl, ?_⟩
        have hlt := fieldAt_lt bs i 1
        have hstation : fieldAt bs i 1 % 128 + 128 = fieldAt bs i 1 := by omega
        rw [hv, ← hstation]
        simp only [trailEntryBytes, hstation]
      · obtain rfl := Option.some.inj h
        exact ⟨_, rfl, congrArg (be 1 _ ++ ·) (beSigned_signed16 (fieldAt_lt bs _ 2))⟩
    obtain ⟨t, rfl, ht⟩ := hentry
    refine ⟨by rw [List.length_cons, hlen], ?_⟩
    rw [hd]
    simp [fieldsFrom, ht, Nat.mul_succ, Nat.add_assoc, Nat.add_comm 3]

/-! #### The payloads -/

theorem packBits_testBits {v : Nat} (h : v < 16) :
    packBits [v.testBit 0, v.testBit 1, v.testBit 2, v.testBit 3] = v := by
  revert v
  decide

theorem optLength_getD (v : Nat) : (optLength v).getD 0 = v := by
  unfold optLength
  split
  · rename_i h
    exact h.symm
  · rfl

/-- Bytes read as a HANDOFF payload are that payload laid out, its free bytes those that were not read
(R153, log 5). -/
theorem parseHandoff_spells {bs : List Byte} {p : HandoffPayload} (h : parseHandoff bs = some p) :
    ∃ fill : List Byte, fill.length = 4 ∧
      bs = be 4 (p.nextNominal.getD 0) ++ contentBlock fill p.body := by
  simp only [parseHandoff, Option.bind_eq_bind, Option.bind_eq_some_iff, Option.pure_def,
    Option.guard_eq_some', Option.some.injEq, fieldAt_drop, Nat.reduceAdd] at h
  obtain ⟨content, hcontent, -, ⟨hpresence, hnm, hnt, hlen⟩, pickup, hp, moisture, hm, tension, ht, marks,
    hms, trail, hts, rfl⟩ := h
  have hrest : (bs.drop 4).length = bs.length - 4 := List.length_drop
  obtain ⟨hpbit, hpbytes⟩ := parseReading_spells hp (by omega)
  obtain ⟨hmbit, hmbytes⟩ := parseReading_spells hm (by omega)
  obtain ⟨htbit, htbytes⟩ := parseReading_spells ht (by omega)
  obtain ⟨hmlen, hmarks⟩ := parseMarks_spells hms (by omega)
  obtain ⟨htlen, htrail⟩ := parseTrail_spells hts (by omega)
  have hend : (bs.drop 4).drop (39 + 8 * (fieldAt bs 30 1 / 16) + 3 * (fieldAt bs 30 1 % 16)) = [] :=
    List.drop_eq_nil_of_le (by omega)
  rw [hend, List.append_nil] at htrail
  rw [← htrail, List.drop_drop] at hmarks
  rw [fieldAt_drop] at hpbytes hmbytes htbytes
  have hbytes : bs = fieldsFrom bs 0 [4, 3, 3, 1, 1, 2, 4, 4, 2, 3, 2, 1, 1, 4, 4, 4] ++
      (marks.flatMap markEntryBytes ++ trail.flatMap trailEntryBytes) := by
    rw [hmarks]
    exact drop_eq_fieldsFrom (i := 0) (by simp; omega)
  have hbits := packBits_testBits hpresence
  have hcounts : 16 * marks.length + trail.length = fieldAt bs 30 1 := by omega
  have hflags : fieldAt bs 12 2 % 65536 = fieldAt bs 12 2 := Nat.mod_eq_of_lt (fieldAt_lt bs 12 2)
  have hsummary : fieldAt bs 29 1 % 256 = fieldAt bs 29 1 := Nat.mod_eq_of_lt (fieldAt_lt bs 29 1)
  refine ⟨be 4 (fieldAt bs 18 4), be_length 4 _, hbytes.trans ?_⟩
  cases horigin : (fieldAt bs 11 1).testBit 0 <;> rw [horigin] at hbits <;>
    simp [contentBlock_eq, bodyHead, originBytes, presence, fieldsFrom, optLength_getD, hcounts, hpbit,
      hmbit, htbit, hpbytes, hmbytes, htbytes, Content.ofCode?_eq_some.1 hcontent, hflags, hsummary, hbits]

theorem parseDescriptor_spells {bs : List Byte} {i : Nat} {d : Descriptor}
    (h : parseDescriptor bs i = some d) :
    descriptorBytes d = fieldsFrom bs i [1, 1, 3, 2, 1] := by
  simp only [parseDescriptor, Option.bind_eq_bind, Option.bind_eq_some_iff, Option.pure_def,
    Option.guard_eq_some', Option.some.injEq] at h
  obtain ⟨role, hrole, -, hright, rfl⟩ := h
  have hbit : bit (fieldAt bs (i + 7) 1 == 1) = fieldAt bs (i + 7) 1 := by
    rcases Nat.le_one_iff_eq_zero_or_eq_one.1 hright with h | h <;> rw [h] <;> rfl
  simp [descriptorBytes, fieldsFrom, Role.ofCode?_eq_some.1 hrole, hbit]

theorem parseAnnounce_spells {bs : List Byte} {p : AnnouncePayload} (h : parseAnnounce bs = some p)
    (hl : bs.length = 4) : bs = be 2 p.number ++ be 1 p.source.code ++ be 1 p.detail := by
  simp only [parseAnnounce, Option.bind_eq_bind, Option.bind_eq_some_iff, Option.pure_def,
    Option.some.injEq] at h
  obtain ⟨source, hsource, rfl⟩ := h
  refine (eq_fieldsFrom [2, 1, 1] hl).trans ?_
  simp [fieldsFrom, Source.ofCode?_eq_some.1 hsource]

/-- Bytes read as the payload of a kind are a payload of that kind laid out (R137). -/
theorem parsePayload_spells {kind : Nat} {bs : List Byte} {f : Frame}
    (h : parsePayload kind bs = some f) :
    f.kindCode = kind ∧ ∃ fill : List Byte, fill.length = 4 ∧ bs = payloadBytes fill f := by
  unfold parsePayload at h
  split at h
  case h_1 hl =>
    simp only [Option.bind_eq_bind, Option.bind_eq_some_iff, Option.pure_def, Option.some.injEq] at h
    obtain ⟨view, hview, d, hd, rfl⟩ := h
    refine ⟨rfl, be 4 0, rfl, ?_⟩
    refine (eq_fieldsFrom [1, 2, 2, 3, 1, 1, 3, 2, 1] hl).trans ?_
    simp [payloadBytes, parseDescriptor_spells hd, fieldsFrom, View.ofCode?_eq_some.1 hview]
  case h_2 hl =>
    obtain ⟨p, hp, rfl⟩ := Option.map_eq_some_iff.1 h
    exact ⟨rfl, parseHandoff_spells hp⟩
  case h_3 hl =>
    obtain ⟨p, hp, rfl⟩ := Option.map_eq_some_iff.1 h
    exact ⟨rfl, be 4 0, rfl, parseAnnounce_spells hp hl⟩
  case h_4 hl =>
    obtain ⟨p, hp, rfl⟩ := Option.map_eq_some_iff.1 h
    exact ⟨rfl, be 4 0, rfl, parseAnnounce_spells hp hl⟩
  case h_5 hl =>
    simp only [Option.bind_eq_bind, Option.bind_eq_some_iff, Option.pure_def, Option.some.injEq] at h
    obtain ⟨target, htarget, rfl⟩ := h
    refine ⟨rfl, be 4 0, rfl, (eq_fieldsFrom [1, 1, 2, 1] hl).trans ?_⟩
    simp [payloadBytes, idBytes, parseId, fieldsFrom, View.ofCode?_eq_some.1 htarget]
  case h_6 hl =>
    obtain rfl := Option.some.inj h
    refine ⟨rfl, be 4 0, rfl, (eq_fieldsFrom [1, 1] hl).trans ?_⟩
    simp [payloadBytes, idBytes, parseId, fieldsFrom]
  case h_7 hl =>
    simp only [Option.bind_eq_bind, Option.bind_eq_some_iff, Option.pure_def, Option.some.injEq] at h
    obtain ⟨reason, hreason, rfl⟩ := h
    refine ⟨rfl, be 4 0, rfl, (eq_fieldsFrom [1, 1, 1] hl).trans ?_⟩
    simp [payloadBytes, idBytes, parseId, fieldsFrom, HoldReason.ofCode?_eq_some.1 hreason]
  case h_8 hl =>
    simp only [Option.bind_eq_bind, Option.bind_eq_some_iff, Option.pure_def, Option.some.injEq] at h
    obtain ⟨target, htarget, rfl⟩ := h
    refine ⟨rfl, be 4 0, rfl, (eq_fieldsFrom [1, 1, 2, 2, 1] hl).trans ?_⟩
    simp [payloadBytes, idBytes, parseId, fieldsFrom, View.ofCode?_eq_some.1 htarget]
  case h_9 hl =>
    simp only [Option.bind_eq_bind, Option.bind_eq_some_iff, Option.pure_def, Option.some.injEq] at h
    obtain ⟨cls, hcls, kind, hkind, rfl⟩ := h
    refine ⟨rfl, be 4 0, rfl, (eq_fieldsFrom [1, 1] hl).trans ?_⟩
    simp [payloadBytes, fieldsFrom, FaultClass.ofCode?_eq_some.1 hcls, FaultKind.ofCode?_eq_some.1 hkind]
  case h_10 => exact absurd h (by simp)

end Sys2Proof.Machine

/-! ### Frames judged (R136, R137) -/

namespace Sys2Proof.Machine

/-! #### The check (R136) -/

/-- The check register after one more bit: the bit and the register's top bit decide whether the polynomial
is added (R136). -/
def crcBit (c : BitVec 16) (b : Bool) : BitVec 16 :=
  (c <<< 1) ^^^ (if c.msb ^^ b then 0x1021#16 else 0#16)

/-- A byte's bits are taken as well while they stand in the register (R136). -/
theorem crcShift_xor (c d : BitVec 16) : crcShift (c ^^^ d) = crcBit c d.msb ^^^ (d <<< 1) := by
  unfold crcShift crcBit
  rw [BitVec.msb_xor, BitVec.shiftLeft_xor_distrib]
  cases c.msb ^^ d.msb
  · simp
  · simp only [if_true]
    rw [BitVec.xor_assoc, BitVec.xor_assoc, BitVec.xor_comm (d <<< 1)]

/-- The bits of a byte that wait behind the first `i`, at the top of the register. -/
def bitsLeft (b : Byte) (i : Nat) : BitVec 16 := b.zeroExtend 16 <<< (8 + i)

theorem bitsLeft_msb (b : Byte) {i : Nat} (h : i < 8) : (bitsLeft b i).msb = b.getMsbD i := by
  have hi : 15 - (8 + i) = 7 - i := by omega
  have hn : ¬ 15 < 8 + i := by omega
  simp [bitsLeft, BitVec.msb_eq_getLsbD_last, BitVec.getMsbD, h, hi, hn]

theorem bitsLeft_succ (b : Byte) (i : Nat) : bitsLeft b i <<< 1 = bitsLeft b (i + 1) := by
  rw [bitsLeft, ← BitVec.shiftLeft_add]
  rfl

/-- The register a byte at a time is the register a bit at a time with the bits that wait (R136). -/
theorem crcShift_bits (c : BitVec 16) (b : Byte) {k : Nat} (h : k ≤ 8) :
    (List.range k).foldl (fun c _ => crcShift c) (c ^^^ bitsLeft b 0) =
      ((List.range k).map fun i => b.getMsbD i).foldl crcBit c ^^^ bitsLeft b k := by
  induction k with
  | zero => rfl
  | succ k ih =>
    rw [List.range_succ, List.foldl_append, ih (by omega), List.map_append, List.foldl_append]
    simp only [List.foldl_cons, List.foldl_nil, List.map_cons, List.map_nil]
    rw [crcShift_xor, bitsLeft_msb b (by omega), bitsLeft_succ]

/-- A byte is taken most significant bit first (R136). -/
theorem crcByte_bits (c : BitVec 16) (b : Byte) :
    crcByte c b = ((List.range 8).map fun i => b.getMsbD i).foldl crcBit c := by
  have hnone : bitsLeft b 8 = 0#16 := BitVec.shiftLeft_eq_zero (by decide)
  have h := crcShift_bits c b (Nat.le_refl 8)
  rw [hnone, BitVec.xor_zero] at h
  exact h

/-- The check a bit at a time (R136). -/
theorem crc_bits (bytes : List Byte) :
    crc bytes = (bytes.flatMap fun b => (List.range 8).map fun i => b.getMsbD i).foldl crcBit 0xFFFF#16 := by
  rw [List.foldl_flatMap]
  exact congrArg (fun f => bytes.foldl f 0xFFFF#16) (funext fun c => funext fun b => crcByte_bits c b)

/-! #### The cases of a judgement (R137, log 37) -/

/-- The header is whole and no stop bit of it is dominant. -/
def Headed (bytes : List Byte) (badStop : Option Nat) : Prop :=
  3 ≤ bytes.length ∧ ∀ i, badStop = some i → 3 ≤ i

/-- No stop bit is dominant, the bytes are as many as the length says, and the check is good. -/
def Checked (bytes : List Byte) (badStop : Option Nat) : Prop :=
  (badStop = none ∧ bytes.length = fieldAt bytes 2 1 + 5) ∧
  checkBytes (bytes.take (fieldAt bytes 2 1 + 3)) = bytes.drop (fieldAt bytes 2 1 + 3)

theorem headed_iff (bytes : List Byte) (badStop : Option Nat) : Headed bytes badStop ↔
    ((match badStop with | some i => decide (i < 3) | none => false) ||
      decide (bytes.length < 3)) = false := by
  cases badStop <;> simp [Headed, and_comm]

section

variable {bytes : List Byte} {badStop : Option Nat}

theorem judge_headless (h : ¬ Headed bytes badStop) : judge bytes badStop = .checkFail := by
  rw [headed_iff, Bool.not_eq_false] at h
  exact if_pos h

theorem judge_headed (h : Headed bytes badStop) : judge bytes badStop =
    if 96 < fieldAt bytes 2 1 then .malformed
    else if badStop.isSome || decide (bytes.length ≠ fieldAt bytes 2 1 + 5) then .checkFail
    else if checkBytes (bytes.take (fieldAt bytes 2 1 + 3)) ≠ bytes.drop (fieldAt bytes 2 1 + 3) then
      .checkFail
    else judgeContent (fieldAt bytes 0 1) (fieldAt bytes 1 1) ((bytes.drop 3).take (fieldAt bytes 2 1)) :=
  if_neg (Bool.eq_false_iff.1 ((headed_iff _ _).1 h))

theorem judge_long (h : Headed bytes badStop) (hl : 96 < fieldAt bytes 2 1) :
    judge bytes badStop = .malformed := (judge_headed h).trans (if_pos hl)

theorem judge_unchecked (h : Headed bytes badStop) (hl : fieldAt bytes 2 1 ≤ 96)
    (hc : ¬ Checked bytes badStop) : judge bytes badStop = .checkFail := by
  rw [judge_headed h, if_neg (Nat.not_lt.2 hl)]
  split
  · rfl
  · rename_i hw
    refine if_pos fun hcheck => hc ⟨?_, hcheck⟩
    simpa using hw

theorem judge_checked (h : Headed bytes badStop) (hl : fieldAt bytes 2 1 ≤ 96)
    (hc : Checked bytes badStop) : judge bytes badStop =
      judgeContent (fieldAt bytes 0 1) (fieldAt bytes 1 1)
        ((bytes.drop 3).take (fieldAt bytes 2 1)) := by
  obtain ⟨⟨hstop, hlen⟩, hcheck⟩ := hc
  rw [judge_headed h, if_neg (Nat.not_lt.2 hl), if_neg (by simp [hstop, hlen]),
    if_neg (by simpa using hcheck)]

end

/-- Content with a good check is malformed or good, never a failed check (R137). -/
theorem judgeContent_good_iff (sender kind : Nat) (payload : List Byte) (s : Nat) (f : Frame) :
    judgeContent sender kind payload = .good s f ↔
      s = sender ∧ parsePayload kind payload = some f ∧ stationOk sender = true ∧ frameOk f = true := by
  unfold judgeContent
  split
  · rename_i g hg
    split
    · rename_i hok
      rw [Bool.and_eq_true] at hok
      constructor
      · rintro ⟨⟩
        exact ⟨rfl, hg, hok⟩
      · rintro ⟨rfl, hf, -⟩
        rw [Option.some.inj (hg.symm.trans hf)]
    · rename_i hok
      refine ⟨fun h => absurd h (by simp), fun ⟨_, hf, hs, hfok⟩ => absurd ?_ hok⟩
      rw [Option.some.inj (hg.symm.trans hf), hs, hfok]
      rfl
  · rename_i hnone
    refine ⟨fun h => absurd h (by simp), fun ⟨_, hf, _⟩ => absurd (hnone.symm.trans hf) (by simp)⟩

theorem judgeContent_ne_checkFail (sender kind : Nat) (payload : List Byte) :
    judgeContent sender kind payload ≠ .checkFail := by
  unfold judgeContent
  split
  · split <;> simp
  · simp

/-! #### A frame sent is the one judged good (R136, R137) -/

@[simp] theorem checkBytes_length (bytes : List Byte) : (checkBytes bytes).length = 2 := be_length 2 _

theorem headedBytes_length (station : Nat) (fill : List Byte) (f : Frame) :
    (headedBytes station fill f).length = (payloadBytes fill f).length + 3 := by
  simp only [headedBytes, List.length_append, be_length]
  omega

/-- No payload of 8.7 is longer than 96 bytes (R136). -/
theorem payloadBytes_length_le {fill : List Byte} (hf : fill.length = 4) {f : Frame}
    (h : frameOk f = true) : (payloadBytes fill f).length ≤ 96 := by
  cases f with
  | handoff p =>
    have hbody := bodyOk_inRange (Bool.and_eq_true_iff.1 h).2
    have hmarks := hbody.marks
    have htrail := hbody.trail
    rw [payloadBytes, List.length_append, be_length, contentBlock_length hf]
    omega
  | _ => simp [payloadBytes]

/-- A frame sent with its fields in their ranges is judged good and read back whole (R137, log 5). -/
theorem judge_frameBytes {station : Nat} {fill : List Byte} {f : Frame} (hs : stationOk station = true)
    (hok : frameOk f = true) (hf : fill.length = 4) :
    judge (frameBytes station fill f) none = .good station f := by
  have hlong := payloadBytes_length_le hf hok
  have hparse := parsePayload_payloadBytes hf hok
  have hstation := stationOk_lt hs
  have hkind := f.kindCode_lt
  have hlen := headedBytes_length station fill f
  have hbytes : frameBytes station fill f = be 1 station ++ (be 1 f.kindCode ++
      (be 1 (payloadBytes fill f).length ++ (payloadBytes fill f ++
        checkBytes (headedBytes station fill f)))) := by
    simp [frameBytes, headedBytes]
  have h0 : fieldAt (frameBytes station fill f) 0 1 = station := by
    rw [hbytes, fieldAt_be (by omega)]
  have h1 : fieldAt (frameBytes station fill f) 1 1 = f.kindCode := by
    rw [hbytes, fieldAt_skip (by omega), fieldAt_be (by omega)]
  have h2 : fieldAt (frameBytes station fill f) 2 1 = (payloadBytes fill f).length := by
    rw [hbytes, fieldAt_skip (by omega), fieldAt_skip (by omega), fieldAt_be (by omega)]
  have htotal : (frameBytes station fill f).length = (payloadBytes fill f).length + 5 := by
    rw [frameBytes, List.length_append, hlen, checkBytes_length]
  have hpayload : ((frameBytes station fill f).drop 3).take (payloadBytes fill f).length =
      payloadBytes fill f := by
    rw [hbytes]
    exact List.take_left
  have hheaded : Headed (frameBytes station fill f) none := ⟨by omega, fun i hi => absurd hi (by simp)⟩
  have hchecked : Checked (frameBytes station fill f) none := by
    refine ⟨⟨rfl, by rw [htotal, h2]⟩, ?_⟩
    rw [h2, ← hlen, frameBytes, List.take_left, List.drop_left]
  rw [judge_checked hheaded (by rw [h2]; exact hlong) hchecked, judgeContent_good_iff, h0, h1, h2, hpayload]
  exact ⟨rfl, hparse, hs, hok⟩

/-- Bytes judged good are those of a frame sent with its fields in their ranges, no stop bit dominant
(R137, log 10). -/
theorem judge_good_spells {bytes : List Byte} {badStop : Option Nat} {sender : Nat} {f : Frame}
    (h : judge bytes badStop = .good sender f) :
    badStop = none ∧ stationOk sender = true ∧ frameOk f = true ∧
      ∃ fill : List Byte, fill.length = 4 ∧ bytes = frameBytes sender fill f := by
  have hheaded : Headed bytes badStop := by
    by_contra hn
    exact absurd ((judge_headless hn).symm.trans h) (by simp)
  have hshort : fieldAt bytes 2 1 ≤ 96 := by
    by_contra hn
    exact absurd ((judge_long hheaded (Nat.lt_of_not_le hn)).symm.trans h) (by simp)
  have hchecked : Checked bytes badStop := by
    by_contra hn
    exact absurd ((judge_unchecked hheaded hshort hn).symm.trans h) (by simp)
  rw [judge_checked hheaded hshort hchecked, judgeContent_good_iff] at h
  obtain ⟨rfl, hparse, hs, hok⟩ := h
  obtain ⟨⟨hstop, hlen⟩, hcheck⟩ := hchecked
  obtain ⟨hkind, fill, hf, hpayload⟩ := parsePayload_spells hparse
  refine ⟨hstop, hs, hok, fill, hf, ?_⟩
  have hplen : (payloadBytes fill f).length = fieldAt bytes 2 1 := by
    rw [← hpayload, List.length_take, List.length_drop]
    omega
  have hhead : bytes.take (fieldAt bytes 2 1 + 3) = headedBytes (fieldAt bytes 0 1) fill f := by
    have hthree : bytes.take 3 = fieldsFrom bytes 0 [1, 1, 1] :=
      take_eq_fieldsFrom (ks := [1, 1, 1]) (by simp; omega)
    rw [Nat.add_comm, List.take_add, hpayload, hthree]
    simp [fieldsFrom, headedBytes, hkind, hplen]
  rw [frameBytes, ← hhead, hcheck, List.take_append_drop]

end Sys2Proof.Machine

/-! ### Frames are laid out, sent and read back; commands complete -/

namespace Sys2Proof.Machine

/-- Settles O10: the layout by the kinds of frame, the check bit by bit (`crc_bits`), a frame sent
judged (`judge_frameBytes`) and bytes judged good spelled (`judge_good_spells`). -/
theorem sentFrameIsReadBack : Obligations.SentFrameIsReadBack := by
  refine ⟨fun station fill f => ?_, fun bytes => ?_, fun _ _ _ hs hok hf => judge_frameBytes hs hok hf,
    fun _ _ _ _ h => judge_good_spells h⟩
  · cases f with
    | status p => simp [frameBytes, headedBytes, payloadBytes, Frame.kindCode, descriptorBytes, bit]
    | _ => simp [frameBytes, headedBytes, payloadBytes, Frame.kindCode, idBytes]
  · exact congrArg (fun c : BitVec 16 => be 2 c.toNat) (crc_bits bytes)

/-- A command is an effect on the part alone: the queue is the model's (logs 1, 8). -/
theorem exec_next (c : Instr) (s : State) : ∃ n : Node, exec c s = .next { s with node := n } := by
  cases c <;> exact ⟨_, rfl⟩

/-- Settles O2: an effect on the part alone gives a next state and leaves the queue (`exec_next`). -/
theorem everyCommandCompletes : Obligations.EveryCommandCompletes := by
  intro c s
  obtain ⟨n, hn⟩ := exec_next c s
  exact ⟨_, hn, rfl⟩

end Sys2Proof.Machine

/-! ### Images (Tables 8-6, 8-8, 8-9, 8-11, 11-4) -/

namespace Sys2Proof.Machine

/-! #### Content blocks and lists of images -/

/-- A reading that is absent is four zero bytes (Table 8-8). -/
theorem readingBytes_eq (r : Option Reading) : readingBytes r =
    match r with
    | some x => be 2 x.value ++ be 2 x.count
    | none => [0, 0, 0, 0] := by
  cases r <;> rfl

/-- A trail entry: an absent stretch is told by bit 7 of the station, and its bytes are 0 (R153). -/
theorem trailEntryBytes_eq (t : TrailEntry) : trailEntryBytes t =
    match t.stretch with
    | none => be 1 (t.station + 128) ++ [0, 0]
    | some v => be 1 t.station ++ be 2 (v % 65536).toNat := by
  cases h : t.stretch <;> simp only [trailEntryBytes, h] <;> rfl

theorem Content.code_eq (c : Content) :
    c.code = match c with | .pending => 0 | .filled => 1 | .provisional => 2 := by
  cases c <;> rfl

/-- Images one after the other, each given its place. -/
theorem imagesOf_eq {α : Type} (f : Nat → α → List Byte) (i : Nat) (l : List α) :
    imagesOf f i l = (l.zipIdx i).flatMap fun x => f x.2 x.1 := by
  induction l generalizing i with
  | nil => rfl
  | cons a l ih => rw [imagesOf, ih, List.zipIdx_cons, List.flatMap_cons]

theorem Window.images_length (w : Window) : w.images.length = w.count := by
  cases h : w.entering <;> simp [Window.images, Window.count, bit, h]

/-! #### The roster's entries -/

/-- An entry's flags stand at their places in its second byte (Table 8-11). -/
theorem Node.entryImage_eq (n : Node) (i : Nat) (e : RosterEntry) (c : Bool) :
    n.entryImage i (e, c) =
      be 1 e.station ++
      be 1 ((if e.present then 2 ^ 0 else 0) + (if e.descriptor.isSome then 2 ^ 1 else 0) +
        (if e.lastView.isSome then 2 ^ 2 else 0) + (if e.speed.isSome then 2 ^ 3 else 0) +
        (if e.lastFault.isSome then 2 ^ 4 else 0) + (if c then 2 ^ 5 else 0)) ++
      (match e.descriptor with
        | some d => be 1 d.role.code ++ be 1 d.order ++ be 3 d.reach ++ be 2 d.entryGap ++
            be 1 (if d.startRight then 2 ^ 0 else 0)
        | none => n.fill (4 * i) 8) ++
      be 2 e.age ++
      (match e.lastView with
        | some v => be 1 v.1.code ++ be 2 v.2
        | none => n.fill (4 * i + 1) 3) ++
      (match e.speed with | some v => be 2 v | none => n.fill (4 * i + 2) 2) ++
      be 3 e.newest ++
      (match e.lastFault with
        | some f => be 1 f.cls.code ++ be 1 f.kind.code
        | none => n.fill (4 * i + 3) 2) := by
  rw [Node.entryImage, packBits_six]
  simp only [descriptorBytes, bit_eq] <;> rfl

/-- The entries, each with its image. -/
theorem Node.rosterData_eq (n : Node) (start count : Nat) : n.rosterData start count =
    be 1 n.entries.length ++ be 3 (n.roster.highest.getD 0) ++ be 1 (n.roster.upstream.getD 0) ++
      be 1 (n.roster.reference.getD 0) ++ be 1 (if n.creel then 2 ^ 0 else 0) ++
      be 1 ((n.entries.drop start).take count).length ++
      ((n.entries.drop start).take count).zipIdx.flatMap fun x => n.entryImage x.2 x.1 := by
  rw [Node.rosterData, imagesOf_eq, bit_eq]

/-- Settles O20: the flags by `packBits_four` and `packBits_six`, the lists by `imagesOf_eq`. -/
theorem imagesAreLaidOut : Obligations.ImagesAreLaidOut := by
  refine ⟨fun free b _ => ?_, fun n start count => ?_, fun n start count => ?_, fun _ _ => rfl,
    by decide⟩
  · rw [contentBlock, presence, packBits_four, readingBytes_eq, readingBytes_eq, readingBytes_eq,
      Content.code_eq, funext trailEntryBytes_eq] <;> rfl
  · rw [Node.windowData, ← Window.images_length, imagesOf_eq]
    rfl
  · rw [Node.rosterData_eq, funext fun x : (RosterEntry × Bool) × Nat => n.entryImage_eq x.2 x.1.1 x.1.2]
    rfl

end Sys2Proof.Machine

/-! ### The configuration record (R118, R152, R156, R177, Table 11-2) -/

namespace Sys2Proof.Machine

/-! #### CONFIGURE's bytes -/

/-- The five bytes of an action line (Table 11-2). -/
def lineLayout (a : ActionConfig) : List Byte :=
  be 1 a.condition ++ be 1 a.parameter ++ be 1 a.polarity ++ be 1 a.latch ++ be 1 a.holdsStart

/-- The 24 bytes of a channel (Table 11-2). -/
def channelLayout (h : ChannelConfig) : List Byte :=
  be 1 h.enable ++ be 1 h.quantity ++ be 4 h.position ++ be 2 h.interval ++ be 1 h.commandSize ++
    h.command ++ be 1 h.replySize ++ be 1 h.valueOffset ++ be 2 h.low ++ be 2 h.high ++ be 1 h.required

/-- An action line's fields are those of a byte each. -/
def LineInBytes (a : ActionConfig) : Prop :=
  ∀ v ∈ [a.condition, a.parameter, a.polarity, a.latch, a.holdsStart], v < 256

/-- A channel's fields fit the bytes Table 11-2 gives them. -/
def ChannelInBytes (h : ChannelConfig) : Prop :=
  (∀ v ∈ [h.enable, h.quantity, h.commandSize, h.replySize, h.valueOffset, h.required], v < 256) ∧
    h.position < 4294967296 ∧ h.interval < 65536 ∧ h.low < 65536 ∧ h.high < 65536 ∧
    h.command.length = 8

theorem ChannelInBytes.command {h : ChannelConfig} (hb : ChannelInBytes h) : h.command.length = 8 := by
  obtain ⟨-, -, -, -, -, hcommand⟩ := hb
  exact hcommand

/-- The first 47 bytes of the record: fields 1 to 23 (Table 11-2). -/
def headLayout (c : ConfigRecord) : List Byte :=
  be 1 c.station ++ be 1 c.role ++ be 1 c.order ++ be 4 c.reach ++ be 4 c.entryGap ++
    be 4 c.markPoint ++ be 4 c.spanStart ++ be 4 c.spanEnd ++ be 4 c.segmentLength ++
    be 1 c.lateMargin ++ be 1 c.m ++ be 1 c.p ++ be 1 c.fallback ++ be 2 c.stallTime ++
    be 1 c.neighbourMode ++ be 1 c.forcedNeighbour ++ be 1 c.referenceMode ++
    be 1 c.referenceStation ++ be 1 c.startRight ++ be 1 c.bitRate ++ be 4 c.markTail ++
    be 2 c.dwell1 ++ be 2 c.dwell2

/-- The bytes of the four action lines. -/
def linesLayout (c : ConfigRecord) : List Byte :=
  lineLayout (c.lines.get 0) ++ (lineLayout (c.lines.get 1) ++ (lineLayout (c.lines.get 2) ++
    lineLayout (c.lines.get 3)))

/-- The bytes of the four channels. -/
def channelsLayout (c : ConfigRecord) : List Byte :=
  channelLayout (c.channels.get 0) ++ (channelLayout (c.channels.get 1) ++
    (channelLayout (c.channels.get 2) ++ channelLayout (c.channels.get 3)))

/-- The last five bytes of the record: fields 88 and 89. -/
def tailLayout (c : ConfigRecord) : List Byte := be 4 c.escalation.toNat ++ be 1 c.enables.toNat

/-- The record's bytes (Table 11-2). -/
def recordLayout (c : ConfigRecord) : List Byte :=
  headLayout c ++ (linesLayout c ++ (channelsLayout c ++ tailLayout c))

theorem lineLayout_length (a : ActionConfig) : (lineLayout a).length = 5 := by simp [lineLayout]

theorem channelLayout_length {h : ChannelConfig} (hc : h.command.length = 8) :
    (channelLayout h).length = 24 := by simp [channelLayout, hc]

/-- An action line behind the bytes `l` is an action line of what follows them. -/
theorem parseLine_append {l : List Byte} {i : Nat} (h : l.length ≤ i) (r : List Byte) :
    parseLine (l ++ r) i = parseLine r (i - l.length) := by
  simp (disch := omega) only [parseLine, fieldAt_append, Nat.sub_add_comm]

theorem parseChannel_append {l : List Byte} {i : Nat} (h : l.length ≤ i) (r : List Byte) :
    parseChannel (l ++ r) i = parseChannel r (i - l.length) := by
  have hcommand : (l ++ r).drop (i + 9) = r.drop (i - l.length + 9) := by
    rw [List.drop_append, List.drop_eq_nil_of_le (by omega), List.nil_append, Nat.sub_add_comm h]
  simp (disch := omega) only [parseChannel, fieldAt_append, Nat.sub_add_comm, hcommand]

/-- An action line laid out is read back. -/
theorem parseLine_lineLayout {a : ActionConfig} (h : LineInBytes a) (r : List Byte) :
    parseLine (lineLayout a ++ r) 0 = a := by
  simp only [LineInBytes, List.forall_mem_cons] at h
  obtain ⟨h0, h1, h2, h3, h4, -⟩ := h
  simp (disch := omega) [parseLine, lineLayout, fieldAt_skip, fieldAt_be]

/-- A channel's command bytes stand as they are (Table 11-2). -/
theorem channelLayout_command {h : ChannelConfig} (hc : h.command.length = 8) (r : List Byte) :
    ((channelLayout h ++ r).drop 9).take 8 = h.command := by
  have hsplit : channelLayout h ++ r =
      (be 1 h.enable ++ be 1 h.quantity ++ be 4 h.position ++ be 2 h.interval ++ be 1 h.commandSize) ++
        (h.command ++ (be 1 h.replySize ++ be 1 h.valueOffset ++ be 2 h.low ++ be 2 h.high ++
          be 1 h.required ++ r)) := by
    simp [channelLayout]
  rw [hsplit, List.drop_left' (by simp), List.take_left' hc]

/-- A channel laid out is read back. -/
theorem parseChannel_channelLayout {h : ChannelConfig} (hb : ChannelInBytes h) (r : List Byte) :
    parseChannel (channelLayout h ++ r) 0 = h := by
  obtain ⟨hbytes, hposition, hinterval, hlow, hhigh, hcommand⟩ := hb
  simp only [List.forall_mem_cons] at hbytes
  obtain ⟨h0, h1, h2, h3, h4, h5, -⟩ := hbytes
  rw [parseChannel, channelLayout_command hcommand]
  simp (disch := omega) [channelLayout, fieldAt_skip, fieldAt_be, fieldAt_append, hcommand]

section

variable {c : ConfigRecord}

theorem headLayout_length : (headLayout c).length = 47 := by
  unfold headLayout
  simp only [List.length_append, be_length]

theorem linesLayout_length : (linesLayout c).length = 20 := by simp [linesLayout, lineLayout_length]

theorem channelsLayout_length (h : ∀ i ≤ 3, ChannelInBytes (c.channels.get i)) :
    (channelsLayout c).length = 96 := by
  have hlen (i : Nat) (hi : i ≤ 3) : (channelLayout (c.channels.get i)).length = 24 :=
    channelLayout_length (h i hi).command
  simp [channelsLayout, hlen]

theorem parseLine_linesLayout (h : ∀ i ≤ 3, LineInBytes (c.lines.get i)) (r : List Byte) :
    parseLine (linesLayout c ++ r) 0 = c.lines.q0 ∧ parseLine (linesLayout c ++ r) 5 = c.lines.q1 ∧
      parseLine (linesLayout c ++ r) 10 = c.lines.q2 ∧ parseLine (linesLayout c ++ r) 15 = c.lines.q3 := by
  have h0 := h 0 (by omega)
  have h1 := h 1 (by omega)
  have h2 := h 2 (by omega)
  have h3 := h 3 (by omega)
  simp only [linesLayout, List.append_assoc]
  refine ⟨parseLine_lineLayout h0 _, ?_, ?_, ?_⟩
  · rw [parseLine_append (by simp [lineLayout_length]), lineLayout_length]
    exact parseLine_lineLayout h1 _
  · rw [parseLine_append (by simp [lineLayout_length]), parseLine_append (by simp [lineLayout_length]),
      lineLayout_length, lineLayout_length]
    exact parseLine_lineLayout h2 _
  · rw [parseLine_append (by simp [lineLayout_length]), parseLine_append (by simp [lineLayout_length]),
      parseLine_append (by simp [lineLayout_length]), lineLayout_length, lineLayout_length,
      lineLayout_length]
    exact parseLine_lineLayout h3 _

theorem parseChannel_channelsLayout (h : ∀ i ≤ 3, ChannelInBytes (c.channels.get i)) (r : List Byte) :
    parseChannel (channelsLayout c ++ r) 0 = c.channels.q0 ∧
      parseChannel (channelsLayout c ++ r) 24 = c.channels.q1 ∧
      parseChannel (channelsLayout c ++ r) 48 = c.channels.q2 ∧
      parseChannel (channelsLayout c ++ r) 72 = c.channels.q3 := by
  have hlen (i : Nat) (hi : i ≤ 3) : (channelLayout (c.channels.get i)).length = 24 :=
    channelLayout_length (h i hi).command
  have l0 := hlen 0 (by omega)
  have l1 := hlen 1 (by omega)
  have l2 := hlen 2 (by omega)
  simp only [channelsLayout, List.append_assoc]
  refine ⟨parseChannel_channelLayout (h 0 (by omega)) _, ?_, ?_, ?_⟩
  · rw [parseChannel_append (by omega), l0]
    exact parseChannel_channelLayout (h 1 (by omega)) _
  · rw [parseChannel_append (by omega), parseChannel_append (by omega), l0, l1]
    exact parseChannel_channelLayout (h 2 (by omega)) _
  · rw [parseChannel_append (by omega), parseChannel_append (by omega),
      parseChannel_append (by omega), l0, l1, l2]
    exact parseChannel_channelLayout (h 3 (by omega)) _

/-- The fields of the first 47 bytes are read back. -/
theorem fieldAt_headLayout
    (hone : ∀ v ∈ [c.station, c.role, c.order, c.lateMargin, c.m, c.p, c.fallback, c.neighbourMode,
      c.forcedNeighbour, c.referenceMode, c.referenceStation, c.startRight, c.bitRate], v < 256)
    (htwo : ∀ v ∈ [c.stallTime, c.dwell1, c.dwell2], v < 65536)
    (hfour : ∀ v ∈ [c.reach, c.entryGap, c.markPoint, c.spanStart, c.spanEnd, c.segmentLength,
      c.markTail], v < 4294967296) (r : List Byte) :
    let field := fieldAt (headLayout c ++ r)
    field 0 1 = c.station ∧ field 1 1 = c.role ∧ field 2 1 = c.order ∧ field 3 4 = c.reach ∧
      field 7 4 = c.entryGap ∧ field 11 4 = c.markPoint ∧ field 15 4 = c.spanStart ∧ field 19 4 = c.spanEnd ∧
      field 23 4 = c.segmentLength ∧ field 27 1 = c.lateMargin ∧ field 28 1 = c.m ∧ field 29 1 = c.p ∧
      field 30 1 = c.fallback ∧ field 31 2 = c.stallTime ∧ field 33 1 = c.neighbourMode ∧
      field 34 1 = c.forcedNeighbour ∧ field 35 1 = c.referenceMode ∧ field 36 1 = c.referenceStation ∧
      field 37 1 = c.startRight ∧ field 38 1 = c.bitRate ∧ field 39 4 = c.markTail ∧ field 43 2 = c.dwell1 ∧
      field 45 2 = c.dwell2 := by
  simp only [List.forall_mem_cons] at hone htwo hfour
  obtain ⟨h1, h2, h3, h10, h11, h12, h13, h15, h16, h17, h18, h19, h20, -⟩ := hone
  obtain ⟨h14, h22, h23, -⟩ := htwo
  obtain ⟨h4, h5, h6, h7, h8, h9, h21, -⟩ := hfour
  intro field
  unfold field headLayout
  simp (disch := omega) only [List.append_assoc, fieldAt_skip, fieldAt_be, Nat.reduceSub,
    and_self]

/-- The last two fields are read back. -/
theorem fieldAt_tailLayout :
    fieldAt (tailLayout c) 0 4 = c.escalation.toNat ∧ fieldAt (tailLayout c) 4 1 = c.enables.toNat := by
  have hescalation := c.escalation.isLt
  have henables := c.enables.isLt
  rw [tailLayout, fieldAt_be hescalation, fieldAt_skip (by omega), fieldAt_be_self henables]
  exact ⟨rfl, rfl⟩

/-- A record laid out is read back. -/
theorem parseConfig_recordLayout
    (hone : ∀ v ∈ [c.station, c.role, c.order, c.lateMargin, c.m, c.p, c.fallback, c.neighbourMode,
      c.forcedNeighbour, c.referenceMode, c.referenceStation, c.startRight, c.bitRate], v < 256)
    (htwo : ∀ v ∈ [c.stallTime, c.dwell1, c.dwell2], v < 65536)
    (hfour : ∀ v ∈ [c.reach, c.entryGap, c.markPoint, c.spanStart, c.spanEnd, c.segmentLength,
      c.markTail], v < 4294967296)
    (hlines : ∀ i ≤ 3, LineInBytes (c.lines.get i))
    (hchannels : ∀ i ≤ 3, ChannelInBytes (c.channels.get i)) :
    (recordLayout c).length = 168 ∧ parseConfig (recordLayout c) = c := by
  have lhead : (headLayout c).length = 47 := headLayout_length
  have llines : (linesLayout c).length = 20 := linesLayout_length
  have lchannels := channelsLayout_length hchannels
  have hline (i : Nat) (hi : 47 ≤ i) : parseLine (recordLayout c) i =
      parseLine (linesLayout c ++ (channelsLayout c ++ tailLayout c)) (i - 47) := by
    rw [recordLayout, parseLine_append (by omega), lhead]
  have hchannel (i : Nat) (hi : 67 ≤ i) : parseChannel (recordLayout c) i =
      parseChannel (channelsLayout c ++ tailLayout c) (i - 47 - 20) := by
    rw [recordLayout, parseChannel_append (by omega), parseChannel_append (by omega), lhead, llines]
  have htail (i k : Nat) (hi : 163 ≤ i) :
      fieldAt (recordLayout c) i k = fieldAt (tailLayout c) (i - 47 - 20 - 96) k := by
    rw [recordLayout, fieldAt_append (by omega), fieldAt_append (by omega), fieldAt_append (by omega),
      lhead, llines, lchannels]
  have hhead := fieldAt_headLayout hone htwo hfour (linesLayout c ++ (channelsLayout c ++ tailLayout c))
  rw [← recordLayout] at hhead
  have hlinesRead := parseLine_linesLayout hlines (channelsLayout c ++ tailLayout c)
  have hchannelsRead := parseChannel_channelsLayout hchannels (tailLayout c)
  have htailRead := fieldAt_tailLayout (c := c)
  refine ⟨by simp [recordLayout, tailLayout, lhead, llines, lchannels], ?_⟩
  simp (disch := omega) only [parseConfig, hhead, hline, hchannel, htail, Nat.reduceSub, hlinesRead,
    hchannelsRead, htailRead, BitVec.ofNat_toNat, BitVec.setWidth_eq]

end

/-! #### START's checks -/

theorem between_eq (lo v hi : Nat) : between lo v hi = decide (lo ≤ v ∧ v ≤ hi) :=
  (Bool.decide_and _ _).symm

theorem parameterOk_eq (a : ActionConfig) : parameterOk a =
    decide ((a.condition = 1 → a.parameter ≤ 31) ∧ (a.condition = 4 → a.parameter ≤ 7) ∧
      ((a.condition = 5 ∨ a.condition = 6) → a.parameter ≤ 3) ∧
      (a.condition ≠ 1 → a.condition ≠ 4 → a.condition ≠ 5 → a.condition ≠ 6 → a.parameter = 0)) := by
  unfold parameterOk
  split <;> grind

theorem holdsStartOk_eq (a : ActionConfig) : holdsStartOk a =
    decide (a.holdsStart ≠ 0 → a.holdsStart = 1 ∧ a.latch = 0 ∧ a.condition ≠ 2 ∧ a.condition ≠ 3 ∧
      (a.condition = 1 → a.parameter = 0) ∧ (a.condition = 4 → a.parameter % 4 = 0)) := by
  unfold holdsStartOk
  split <;> grind

/-- The checks on a channel: the reading's value lies within the reply (R156). -/
theorem channelChecks_eq (reach i : Nat) (h : ChannelConfig) : channelChecks reach i h =
    if h.enable = 0 then [(i + 10, decide (h.required = 0))]
    else
      [(i, decide (h.enable = 1)), (i + 1, decide (0 ≤ h.quantity ∧ h.quantity ≤ 2)),
       (i + 2, decide (0 ≤ h.position ∧ h.position ≤ reach)),
       (i + 3, decide (100 ≤ h.interval ∧ h.interval ≤ 5000)),
       (i + 4, decide (1 ≤ h.commandSize ∧ h.commandSize ≤ 8)),
       (i + 6, decide (3 ≤ h.replySize ∧ h.replySize ≤ 8)),
       (i + 7, decide (1 ≤ h.valueOffset ∧ h.valueOffset + 2 ≤ h.replySize)),
       (i + 8, decide (h.low ≤ h.high)), (i + 10, decide (0 ≤ h.required ∧ h.required ≤ 1))] := by
  have hoffset : decide (1 ≤ h.valueOffset ∧ h.valueOffset ≤ h.replySize - 2) =
      decide (1 ≤ h.valueOffset ∧ h.valueOffset + 2 ≤ h.replySize) := by
    rw [decide_eq_decide]
    omega
  simp only [channelChecks, between_eq, hoffset]

theorem lineChecks_eq (i : Nat) (a : ActionConfig) : lineChecks i a =
    [(i, decide (1 ≤ a.condition ∧ a.condition ≤ 8)),
     (i + 1, decide ((a.condition = 1 → a.parameter ≤ 31) ∧ (a.condition = 4 → a.parameter ≤ 7) ∧
       ((a.condition = 5 ∨ a.condition = 6) → a.parameter ≤ 3) ∧
       (a.condition ≠ 1 → a.condition ≠ 4 → a.condition ≠ 5 → a.condition ≠ 6 → a.parameter = 0))),
     (i + 2, decide (0 ≤ a.polarity ∧ a.polarity ≤ 1)), (i + 3, decide (0 ≤ a.latch ∧ a.latch ≤ 1)),
     (i + 4, decide (a.holdsStart ≠ 0 → a.holdsStart = 1 ∧ a.latch = 0 ∧ a.condition ≠ 2 ∧
       a.condition ≠ 3 ∧ (a.condition = 1 → a.parameter = 0) ∧
       (a.condition = 4 → a.parameter % 4 = 0)))] := by
  rw [lineChecks, between_eq, between_eq, between_eq, parameterOk_eq, holdsStartOk_eq]

/-- The reporting enables name classes that may be enabled: bits 3, 6 and 7 are 0. -/
theorem enables_checked (e : BitVec 8) :
    (e &&& 0xC8#8 == 0#8) = (!e.getLsbD 3 && !e.getLsbD 6 && !e.getLsbD 7) := by
  decide +revert

/-! A field judged only under a condition (R129, logs 30, 40). -/

section

variable (c : ConfigRecord)

theorem segmentLength_checked : (!decide (c.role = 1) || between 500 c.segmentLength 50000) =
    decide (c.role = 1 → 500 ≤ c.segmentLength ∧ c.segmentLength ≤ 50000) := by
  grind [between]

theorem stallTime_checked : (between 200 c.stallTime 5000 && decide (c.stallTime % 100 = 0)) =
    decide (200 ≤ c.stallTime ∧ c.stallTime ≤ 5000 ∧ c.stallTime % 100 = 0) := by
  grind [between]

theorem neighbourMode_checked : (decide (c.role = 1) || between 0 c.neighbourMode 1) =
    decide (c.role ≠ 1 → c.neighbourMode ≤ 1) := by
  grind [between]

theorem forcedNeighbour_checked : (decide (c.role = 1) || decide (c.neighbourMode = 0) ||
      (between 1 c.forcedNeighbour 31 && decide (c.forcedNeighbour ≠ c.station))) =
    decide (c.role ≠ 1 → c.neighbourMode ≠ 0 →
      1 ≤ c.forcedNeighbour ∧ c.forcedNeighbour ≤ 31 ∧ c.forcedNeighbour ≠ c.station) := by
  grind [between]

theorem referenceStation_checked : (decide (c.referenceMode = 0) ||
      (between 1 c.referenceStation 31 && decide (c.referenceStation ≠ c.station))) =
    decide (c.referenceMode ≠ 0 →
      1 ≤ c.referenceStation ∧ c.referenceStation ≤ 31 ∧ c.referenceStation ≠ c.station) := by
  grind [between]

end

/-- The fields stand in their ranges exactly when no check fails, and the first that fails is named. -/
theorem firstInvalid_eq_none (c : ConfigRecord) :
    firstInvalid c = none ↔ ∀ r ∈ configChecks c, r.2 = true := by
  simp [firstInvalid]

theorem firstInvalid_eq_first {c : ConfigRecord} {older newer : List (Nat × Bool)} {i : Nat}
    (h : configChecks c = older ++ (i, false) :: newer) (holder : ∀ r ∈ older, r.2 = true) :
    firstInvalid c = some i := by
  have hnone : older.find? (fun x => !x.2) = none := by simpa using holder
  simp [firstInvalid, h, List.find?_append, hnone]

/-- Settles O15: the record read by `parseConfig_recordLayout`, START's checks by the lemmas about each. -/
theorem recordFollowsItsTable : Obligations.RecordFollowsItsTable := by
  refine ⟨fun c hone htwo hfour hlines hchannels => ?_, fun v => ?_, fun c => ?_⟩
  · intro lineBytes channelBytes bytes
    have hbytes : bytes = recordLayout c := by
      unfold bytes lineBytes channelBytes recordLayout headLayout linesLayout channelsLayout tailLayout
        lineLayout channelLayout
      simp only [List.append_assoc]
    rw [hbytes]
    exact parseConfig_recordLayout hone htwo hfour hlines hchannels
  · simp [be]
  · intro within head lines channel rules
    have hrules : configChecks c = rules := by
      unfold rules head lines channel within
      simp only [configChecks, segmentLength_checked, stallTime_checked, neighbourMode_checked,
        forcedNeighbour_checked, referenceStation_checked]
      simp only [lineChecks_eq, channelChecks_eq, between_eq, enables_checked]
      rfl
    rw [← hrules]
    exact ⟨firstInvalid_eq_none c, fun _ _ _ => firstInvalid_eq_first⟩

end Sys2Proof.Machine

/-! ### The line bit by bit (R135, R137, R142 to R144) -/

namespace Sys2Proof.Machine

/-! #### One bit time -/

section

variable (b : LineBus)

/-- A bit is presented while LDE is asserted and the frame is not over. -/
theorem LineBus.presented_eq_some (bit : Bool) :
    b.presented = some bit ↔ b.lde = true ∧ ltxBit b.ltx b.tap.driven = some bit := by
  simp [LineBus.presented]

theorem LineBus.presented_isSome :
    b.presented.isSome = true ↔ b.lde = true ∧ ltxBit b.ltx b.tap.driven ≠ none := by
  cases h : b.lde <;> simp [LineBus.presented, h, Option.isSome_iff_ne_none]

theorem LineBus.othersDominant :
    b.tap.others.headD false = true ↔ b.tap.others.head? = some true := by
  cases b.tap.others <;> simp

/-- The line is dominant when any station drives it so (R135). -/
theorem LineBus.level_eq_true : b.level = true ↔
    (b.lde = true ∧ ltxBit b.ltx b.tap.driven = some false) ∨ b.tap.others.head? = some true := by
  rw [LineBus.level, Bool.or_eq_true, decide_eq_true_iff, b.presented_eq_some, b.othersDominant]

/-- A bit driven recessive is read back dominant when another station drives the line (R143). -/
theorem LineBus.clashes_iff : (b.presented = some true ∧ b.level = true) ↔
    b.lde = true ∧ ltxBit b.ltx b.tap.driven = some true ∧ b.tap.others.head? = some true := by
  rw [b.presented_eq_some, b.level_eq_true]
  constructor
  · rintro ⟨⟨hlde, hbit⟩, ⟨-, hzero⟩ | hothers⟩
    · simp [hbit] at hzero
    · exact ⟨hlde, hbit, hothers⟩
  · rintro ⟨hlde, hbit, hothers⟩
    exact ⟨⟨hlde, hbit⟩, .inr hothers⟩

/-- A recessive level counts up to the ten of an idle line, and the idle count counts on an idle one. -/
theorem LineBus.bitTime_recessive (receiving : Bool) (h : b.level = false) :
    (b.bitTime receiving).tap.recessive = min 10 (b.tap.recessive + 1) ∧
      (b.bitTime receiving).idleCount =
        if b.tap.recessive = 10 then min 65535 (b.idleCount + 1) else 0 := by
  simp only [LineBus.bitTime, LineBus.recessiveAfter, LineBus.idle, h, Bool.not_false, Bool.true_and,
    decide_eq_true_eq, Bool.false_eq_true, if_false]
  exact ⟨rfl, rfl⟩

theorem LineBus.bitTime_busyCount (receiving : Bool) : (b.bitTime receiving).busyCount =
    if receiving = true ∧ (b.bitTime receiving).tap.recessive ≠ 10 then min 65535 (b.busyCount + 1)
    else 0 := by
  simp only [LineBus.bitTime, Bool.and_eq_true, decide_eq_true_eq]
  rfl

theorem LineBus.bitTime_clash (receiving : Bool) : (b.bitTime receiving).tap.clash = true ↔
    b.tap.clash = true ∨ (b.lde = true ∧ ltxBit b.ltx b.tap.driven = some true ∧
      b.tap.others.head? = some true) := by
  rw [← b.clashes_iff]
  simp [LineBus.bitTime]

theorem LineBus.bitTime_driven (receiving : Bool) : (b.bitTime receiving).tap.driven =
    b.tap.driven + (if b.lde = true ∧ ltxBit b.ltx b.tap.driven ≠ none then 1 else 0) := by
  simp only [← b.presented_isSome]
  rfl

/-- A frame received begins at a dominant level of an idle line (R137). -/
theorem LineBus.bitTime_heard (receiving : Bool) : (b.bitTime receiving).tap.heard =
    if receiving = true ∧ (b.tap.heard ≠ [] ∨ (b.tap.recessive = 10 ∧ b.level = true)) then
      b.level :: b.tap.heard
    else [] := by
  simp only [LineBus.bitTime, LineBus.heardAfter, LineBus.idle, Bool.and_eq_true, Bool.or_eq_true,
    Bool.not_eq_true', List.isEmpty_eq_false_iff, decide_eq_true_eq]
  rfl

end

/-! #### A frame heard -/

/-- The levels of bytes driven on the line, then `k` recessive ones, are read as those bytes with their
stop bits recessive (R135). -/
theorem levelsBytes_levels (bytes : List Byte) (k : Nat) {j : Nat} (h : bytes.length ≤ j) :
    levelsBytes j ((bytes.flatMap lineBits).map (fun bit => !bit) ++ List.replicate k false) =
      bytes.map fun b => (b, false) := by
  induction bytes generalizing j with
  | nil => exact levelsBytes_recessive j k
  | cons b bytes ih =>
    obtain ⟨j, rfl⟩ : ∃ i, j = i + 1 := ⟨j - 1, by simp at h; omega⟩
    rw [List.flatMap_cons, List.map_append, List.append_assoc, levelsBytes_byte,
      ih (by simpa using h), List.map_cons]

/-- A byte is ten levels (R135). -/
theorem flatMap_lineBits_length (bytes : List Byte) :
    (bytes.flatMap lineBits).length = 10 * bytes.length := by
  induction bytes with
  | nil => rfl
  | cons b bytes ih =>
    rw [List.flatMap_cons, List.length_append, ih, List.length_cons, Nat.mul_succ, Nat.add_comm]
    simp [lineBits]

/-- The frame that a receive command brings is the one the command was made of. -/
theorem receivedFrame_receiveCommand (sender : Nat) (f : Frame) :
    receivedFrame (receiveCommand sender f) = some (sender, f) := by
  cases f <;> rfl

section

variable {bytes : List Byte} {levels : List Bool}
  (h : levelsBytes levels.length levels = bytes.map fun b => (b, false))

include h

theorem levelsBytes_bytes : (levelsBytes levels.length levels).map Prod.fst = bytes := by
  rw [h, List.map_map]
  exact List.map_id bytes

theorem levelsBytes_badStop : (levelsBytes levels.length levels).findIdx? Prod.snd = none := by
  simp [h, List.findIdx?_eq_none_iff]

/-- The levels of a good frame stand for its receive command once the line is idle (R137). -/
theorem heardCommand_good {sender : Nat} {f : Frame} (hj : judge bytes none = .good sender f) :
    heardCommand levels.reverse = receiveCommand sender f := by
  simp only [heardCommand, List.length_reverse, List.reverse_reverse, levelsBytes_bytes h,
    levelsBytes_badStop h, hj]

/-- The levels of other bytes stand for a frame discarded (R137). -/
theorem heardCommand_bad (hj : ∀ sender f, judge bytes none ≠ .good sender f) :
    heardCommand levels.reverse = .frameDiscarded bytes none := by
  simp only [heardCommand, List.length_reverse, List.reverse_reverse, levelsBytes_bytes h,
    levelsBytes_badStop h]

end

/-- The commands that a frame heard stands for. -/
def ofFrameHeard : Instr → Bool
  | .frameDiscarded _ _ => true
  | c => (receivedFrame c).isSome

theorem heardCommand_ofFrameHeard (heard : List Bool) : ofFrameHeard (heardCommand heard) = true := by
  unfold heardCommand
  dsimp only
  split
  · next f _ => cases f <;> rfl
  · rfl

/-! #### The events of the line that are due -/

theorem LineBus.gapReached_iff (gap : Option Nat) (b : LineBus) :
    b.gapReached gap = true ↔ ∃ g, gap = some g ∧ g ≤ b.idleCount := by
  cases gap <;> simp [LineBus.gapReached]

theorem LineBus.frameHeard_iff (b : LineBus) :
    b.frameHeard = true ↔ b.tap.recessive = 10 ∧ b.tap.heard ≠ [] := by
  simp only [LineBus.frameHeard, LineBus.idle, Bool.and_eq_true, decide_eq_true_eq, Bool.not_eq_true',
    List.isEmpty_eq_false_iff]
  rfl

theorem LineBus.jammed_iff (b : LineBus) : b.jammed = true ↔ 2020 < b.busyCount := decide_eq_true_iff

theorem LineBus.collides_iff (b : LineBus) : b.collides = true ↔ b.lde = true ∧ b.tap.clash = true :=
  Bool.and_eq_true_iff

theorem LineBus.sentWhole_iff (b : LineBus) : b.sentWhole = true ↔
    b.lde = true ∧ b.tap.clash = false ∧ b.tap.driven = 10 * b.ltx.length := by
  simp [LineBus.sentWhole, and_assoc]

/-- An event of the line ends the time that passes (log 2). A frame with a clash or driven whole is at its
end. -/
theorem LineBus.eventful_iff (receiving : Bool) (gap : Option Nat) (b : LineBus) :
    b.eventful receiving gap = true ↔
      (b.lde = true ∧ (b.tap.clash = true ∨ b.tap.driven = 10 * b.ltx.length)) ∨
      (∃ g, gap = some g ∧ g ≤ b.idleCount) ∨
      (receiving = true ∧ ((b.tap.recessive = 10 ∧ b.tap.heard ≠ []) ∨ 2020 < b.busyCount)) := by
  rw [LineBus.eventful, Bool.or_eq_true, Bool.or_eq_true, Bool.or_eq_true, Bool.and_eq_true,
    Bool.or_eq_true, b.collides_iff, b.sentWhole_iff, b.gapReached_iff, b.frameHeard_iff, b.jammed_iff]
  cases b.tap.clash <;> grind

section

variable (n : Node)

theorem Node.transmitting_isSome :
    n.transmitting.isSome = true ↔ ∃ q ∈ n.bus.queue, q.inTransmission = true := by
  simp [Node.transmitting]

theorem Node.waitingGap_sending (h : ∃ q ∈ n.bus.queue, q.inTransmission = true) :
    n.waitingGap = none := if_pos (n.transmitting_isSome.2 h)

/-- The gap by the chosen frame's class and the station number (R142, Table 8-2). -/
theorem Node.waitingGap_still (h : ¬ ∃ q ∈ n.bus.queue, q.inTransmission = true) :
    n.waitingGap =
      n.chosenFrame.map fun q => [8, 40, 72, 104].getD q.frame.cls 0 + n.config.station := by
  have hgap : (fun q : QueuedFrame => gapOf q.frame.cls n.config.station) =
      fun q => [8, 40, 72, 104].getD q.frame.cls 0 + n.config.station := by
    funext q
    cases q.frame <;> rfl
  rw [Node.waitingGap, if_neg (mt n.transmitting_isSome.1 h), hgap]

theorem Node.mem_lineDue (c : Instr) : c ∈ n.lineDue ↔
    ((n.sending.isSome && n.bus.collides) = true ∧ c = .collision) ∨
    ((n.sending.isSome && n.bus.sentWhole) = true ∧ c = .transmitComplete) ∨
    ((n.configured && n.bus.gapReached n.waitingGap) = true ∧ c = .transmitBegin) ∨
    ((n.receiving && n.bus.frameHeard) = true ∧ c = heardCommand n.bus.tap.heard) ∨
    ((n.receiving && n.bus.jammed) = true ∧ c = .lineJam) := by
  simp only [Node.lineDue, List.mem_append, mem_dueWhen, or_assoc]

end

/-- A command that stands for no frame heard is due by another condition. -/
theorem heardCommand_ne {c : Instr} (h : ofFrameHeard c = false) (heard : List Bool) :
    c ≠ heardCommand heard := by
  rintro rfl
  simp [heardCommand_ofFrameHeard] at h

/-- Settles O56: a bit time field by field, a frame's levels read back, and the events due by their
conditions (`LineBus.eventful_iff`, `Node.mem_lineDue`). -/
theorem lineIsFollowedBitByBit : Obligations.LineIsFollowedBitByBit := by
  refine ⟨fun receiving b => ?_, fun bytes k => ?_, fun receiving gap k b => ?_, fun n hn => ?_⟩
  · exact ⟨b.level_eq_true, b.bitTime_dominant receiving, b.bitTime_recessive receiving,
      b.bitTime_busyCount receiving, b.bitTime_clash receiving, rfl, rfl, rfl, b.bitTime_driven receiving,
      b.bitTime_heard receiving, b.bitTime_frame receiving⟩
  · intro levels
    have hread : levelsBytes levels.length levels = bytes.map fun b => (b, false) := by
      refine levelsBytes_levels bytes k ?_
      simp only [levels, List.length_append, List.length_map, flatMap_lineBits_length]
      omega
    exact ⟨hread,
      fun sender f hj => (congrArg receivedFrame (heardCommand_good hread hj)).trans
        (receivedFrame_receiveCommand sender f),
      heardCommand_bad hread⟩
  · have heventful := (b.bitTime receiving).eventful_iff receiving gap
    exact ⟨rfl, fun h => if_pos (heventful.2 h), fun h => if_neg (mt heventful.1 h)⟩
  · intro sending taken
    have hsending : n.sending.isSome = true ↔ sending := by
      rw [Node.sending, if_pos (n.configured_eq_true.2 hn)]
      exact n.transmitting_isSome
    have hconfigured := n.configured_eq_true.2 hn
    have hother {c : Instr} (hc : ofFrameHeard c = false) := heardCommand_ne hc n.bus.tap.heard
    refine ⟨n.waitingGap_sending, n.waitingGap_still, ?_, ?_, ?_, ?_, ?_, ?_⟩
    · simp [n.mem_lineDue, hother (c := .transmitBegin) rfl, hconfigured, LineBus.gapReached_iff]
    · simp [n.mem_lineDue, hother (c := .lineJam) rfl, LineBus.jammed_iff]
    · simp [n.mem_lineDue, hother (c := .collision) rfl, LineBus.collides_iff, hsending]
    · simp [n.mem_lineDue, hother (c := .transmitComplete) rfl, LineBus.sentWhole_iff, hsending]
    · rintro ⟨hreceiving, hheard⟩
      simp [n.mem_lineDue, hreceiving, n.bus.frameHeard_iff.2 hheard]
    · intro c hc
      rw [n.mem_lineDue, Bool.and_eq_true n.receiving, n.bus.frameHeard_iff] at hc
      obtain ⟨-, rfl⟩ | ⟨-, rfl⟩ | ⟨-, rfl⟩ | htaken | ⟨-, rfl⟩ := hc
      · simp
      · simp
      · simp
      · exact .inr htaken
      · simp

end Sys2Proof.Machine

/-! ### Frames sent, completed and collided (R135, R141 to R143, R148, R149) -/

namespace Sys2Proof.Machine

/-! #### TRANSMIT_BEGIN (R142) -/

section

variable {n : Node}

theorem Node.maySend_iff (q : QueuedFrame) : n.maySend q = true ↔ n.bus.participation = .active ∨
    (n.bus.participation = .withdrawing ∧ ∃ p, q.frame = .trip p) := by
  have htrip : q.isTrip = true ↔ ∃ p, q.frame = .trip p := by
    unfold QueuedFrame.isTrip
    split <;> simp_all
  simp [Node.maySend, Node.active, htrip]

/-- With a frame in transmission TRANSMIT_BEGIN does nothing (log 8). -/
theorem Node.transmitBegin_sending (h : ∃ q ∈ n.bus.queue, q.inTransmission = true) :
    n.transmitBegin = n := if_pos (n.transmitting_isSome.2 h)

/-- With no frame that may be sent it does nothing (log 8). -/
theorem Node.transmitBegin_none (h : ∀ q ∈ n.bus.queue, n.maySend q = false) : n.transmitBegin = n := by
  have hchosen : n.chosenFrame = none :=
    List.find?_eq_none.2 fun q hq => by simp [Node.choosable, h q hq]
  rw [Node.transmitBegin, hchosen]
  exact ite_self n

/-- The chosen class is that of a frame that may be sent, and no such frame's is lower (R142). -/
theorem Node.chosenClass_eq_some (k : Nat) : n.chosenClass = some k ↔
    (∃ x ∈ n.bus.queue, n.maySend x = true ∧ x.frame.cls = k) ∧
      ∀ x ∈ n.bus.queue, n.maySend x = true → k ≤ x.frame.cls := by
  rw [Node.chosenClass, least_eq_min?, List.min?_eq_some_iff, List.forall_mem_map]
  simp only [List.mem_map, List.mem_filter, and_assoc, and_imp]

/-- The oldest frame of the lowest class is the one chosen, and the one that begins (R142). -/
theorem Node.transmitBegin_chosen {before after : List QueuedFrame} {q : QueuedFrame}
    (hstill : ∀ x ∈ n.bus.queue, x.inTransmission = false) (hq : n.bus.queue = before ++ q :: after)
    (hmay : n.maySend q = true) (hbefore : ∀ x ∈ before, n.maySend x = true → q.frame.cls < x.frame.cls)
    (hafter : ∀ x ∈ after, n.maySend x = true → q.frame.cls ≤ x.frame.cls) :
    n.transmitBegin = Node.useFill
      { n with
        bus.queue := before ++ { q with inTransmission := true } :: after
        bus.lde := true
        bus.ltx := frameBytes n.config.station (n.fill 0 4) q.frame
        bus.idleCount := 0
        bus.tap.driven := 0
        bus.tap.clash := false } := by
  have hclass : n.chosenClass = some q.frame.cls := by
    refine (n.chosenClass_eq_some _).2 ⟨⟨q, by simp [hq], hmay, rfl⟩, fun x hx hxm => ?_⟩
    rw [hq, List.mem_append, List.mem_cons] at hx
    rcases hx with hx | rfl | hx
    · exact (hbefore x hx hxm).le
    · exact le_rfl
    · exact hafter x hx hxm
  have hchoose : n.choosable q = true := by simp [Node.choosable, hmay, hclass]
  have hothers (x : QueuedFrame) (hx : x ∈ before) : n.choosable x = false := by
    rw [Node.choosable, hclass, Bool.and_eq_false_imp]
    exact fun hxm => by simpa using (hbefore x hx hxm).ne
  have hchosen : n.chosenFrame = some q := by
    rw [Node.chosenFrame, hq]
    exact (find?_eraseP_oldest after (fun x hx => by simp [hothers x hx]) hchoose).1
  have hnone : ¬ n.transmitting.isSome = true := by
    rw [n.transmitting_isSome]
    rintro ⟨x, hx, hxt⟩
    simp [hstill x hx] at hxt
  rw [Node.transmitBegin, if_neg hnone, hchosen]
  simp only [Node.beginFrame]
  rw [hq, changeFirst_oldest _ after hothers hchoose]

end

/-- Settles O58: the frame by `Node.transmitBegin_chosen`. -/
theorem transmitBeginSendsTheChosenFrame : Obligations.TransmitBeginSendsTheChosenFrame := by
  intro s may
  have hmay (q : QueuedFrame) : s.node.maySend q = true ↔ may q := Node.maySend_iff q
  refine ⟨fun h => State.act_same (Node.transmitBegin_sending h), fun h => State.act_same ?_,
    fun before q after hstill hq hq' hbefore hafter => State.act_eq ?_⟩
  · exact Node.transmitBegin_none fun q hq => Bool.eq_false_iff.2 (mt (hmay q).1 (h q hq))
  · exact Node.transmitBegin_chosen hstill hq ((hmay q).2 hq')
      (fun x hx hxm => hbefore x hx ((hmay x).1 hxm)) fun x hx hxm => hafter x hx ((hmay x).1 hxm)

end Sys2Proof.Machine

namespace Sys2Proof.Machine

/-! #### TRANSMIT_COMPLETE (R142, log 39) -/

/-- The frame in transmission has left the queue, `queue` left: the line is released, recessive since the
last dominant bit of the frame's last byte (R135, R142; log 39). -/
def Node.sentOut (queue : List QueuedFrame) (n : Node) : Node :=
  { n with
    bus.queue := queue
    bus.lde := false
    bus.ltx := []
    bus.idleCount := 0
    bus.tap := { n.bus.tap with
      lrx := false
      recessive := recessiveTail (n.bus.ltx.getLastD 0)
      heard := []
      driven := 0
      clash := false } }

/-- The frame in transmission, and the queue without it. -/
structure Node.Sends (before : List QueuedFrame) (q : QueuedFrame) (after : List QueuedFrame)
    (n : Node) : Prop where
  configured : n.configured = true
  queue : n.bus.queue = before ++ q :: after
  inTransmission : q.inTransmission = true
  still : ∀ x ∈ before, x.inTransmission = false

theorem Node.sending_none {n : Node} (h : ∀ q ∈ n.bus.queue, q.inTransmission = false) :
    n.sending = none := by
  have hnone : n.transmitting = none := List.find?_eq_none.2 fun q hq => by simp [h q hq]
  rw [Node.sending, hnone]
  exact ite_self none

section

variable {before after : List QueuedFrame} {q : QueuedFrame} {n : Node} (h : n.Sends before q after)

include h

theorem Node.Sends.oldest : n.bus.queue.find? (fun q => q.inTransmission) = some q ∧
    n.bus.queue.eraseP (fun q => q.inTransmission) = before ++ after := by
  rw [h.queue]
  exact find?_eraseP_oldest after (fun x hx => by simp [h.still x hx]) h.inTransmission

theorem Node.Sends.sending_eq : n.sending = some q := by
  rw [Node.sending, if_pos h.configured]
  exact h.oldest.1

theorem Node.Sends.transmitComplete_eq :
    n.transmitComplete = ((n.sentOut (before ++ after)).frameSent q).finish := by
  have hleft : n.lineSent.leaveQueue = n.sentOut (before ++ after) := by
    rw [← h.oldest.2]
    rfl
  rw [Node.transmitComplete, h.sending_eq, ← hleft]

end

/-- A frame that no block waits for is nothing to report (R141). -/
theorem Node.frameSent_unwaited {q : QueuedFrame} (n : Node) (hw : q.ofWithdrawal = false)
    (h : q.withdrawn = true ∨ ((∀ p, q.frame ≠ .handoff p) ∧ (∀ p, q.frame ≠ .propose p) ∧
      ∀ p, q.frame ≠ .enact p)) : n.frameSent q = n := by
  rw [Node.frameSent, if_neg (by simp [hw])]
  split
  · rfl
  · next hnot =>
    obtain ⟨hhandoff, hpropose, henact⟩ := h.resolve_left hnot
    split
    · next p hf => exact absurd hf (hhandoff p)
    · next p hf => exact absurd hf (hpropose p)
    · next p hf => exact absurd hf (henact p)
    · rfl

/-- A frame that is not withdrawn is reported to the block that offered it. -/
theorem Node.frameSent_awaited {q : QueuedFrame} (n : Node) (hw : q.ofWithdrawal = false)
    (hq : q.withdrawn = false) :
    (∀ p, q.frame = .handoff p → n.frameSent q = n.report (CounterEvent.handoffSent 0)) ∧
    (∀ p, q.frame = .propose p → n.frameSent q = n.proposeSent p.id) ∧
    (∀ p, q.frame = .enact p → n.frameSent q = n.enactSent p) := by
  refine ⟨fun p hf => ?_, fun p hf => ?_, fun p hf => ?_⟩ <;> simp [Node.frameSent, hw, hq, hf]

/-- What is sent is no part of what the followers read, nor of what the Line State Unit goes by. -/
theorem Node.sentOut_followers (queue : List QueuedFrame) (n : Node) :
    (n.sentOut queue).followers = n.followers := rfl

theorem Node.sentOut_bearing (queue : List QueuedFrame) (n : Node) :
    (n.sentOut queue).bearing = n.bearing := rfl

/-- Where the lines and the counters follow and the own proposal is not held, a block is done without a
change (R100, R114, R171). -/
theorem Node.finish_unheld {n : Node} (hr : n.faults.reported = []) (hl : n.linesFollow)
    (hc : n.countersFollow) (hu : n.Unheld) : n.finish = n := by
  rw [Node.finish_nil n hr, Node.settle_unheld hl hu]
  exact hc

/-- A report to the counters looks at no other block (R170, R172). -/
theorem Node.report_setBus (e : CounterEvent) (b : LineBus) (n : Node) :
    ({ n with bus := b } : Node).report e = { n.report e with bus := b } := by
  unfold Node.report Node.addCounters
  dsimp only
  split
  · rfl
  · split <;> rfl

/-! #### The own ENACT sent (R88, R102) -/

/-- The own proposal, the own ENACT and the last own outcome. -/
def Node.fate (n : Node) : Option OwnProposal × Option OwnEnact × Option LastOutcome :=
  (n.line.own, n.line.enact, n.line.lastOutcome)

/-- Without an own proposal a pair adopted leaves the own ENACT and the last outcome (R88, R101). -/
theorem Node.adoptPair_fate (m : Nat) (s : View) {n : Node} (ho : n.line.own = none) :
    (n.adoptPair m s).fate = n.fate := by
  have hend : n.numberChanged = { n with line.proposalView := none } := by
    rw [Node.numberChanged, Node.abandonOwn, Node.endAndWithdraw_none _ _ ho]
  obtain ⟨b, hb⟩ : ∃ b : Node, b = { (if m = n.line.number then n else n.numberChanged) with
      line.view := s, line.number := m } := ⟨_, rfl⟩
  have hbase : b.fate = n.fate ∧ b.line.own = none := by
    rw [hb, hend]
    split <;> exact ⟨rfl, ho⟩
  have hadopt : n.adoptPair m s =
      if s = n.line.view then b.settle else (b.viewReported n.line.view s m).settle := by
    rw [hb]
    rfl
  have hsettle (v : Node) (hv : v.line = b.line) : v.settle.fate = n.fate := by
    rw [Node.fate, (v.settle_none (by rw [hv]; exact hbase.2)).1, hv]
    exact hbase.1
  rw [hadopt]
  split
  · exact hsettle b rfl
  · exact hsettle _ (b.viewReported_leaves n.line.view s m).1

/-- So does a pair taken, a RELAY TRIP made of it or not (R88 to R90). -/
theorem Node.takePair_fate (sender m : Nat) (s : View) (clears : Bool) (ann : Option Announcement)
    {n : Node} (ho : n.line.own = none) : (n.takePair sender m s clears ann).fate = n.fate := by
  unfold Node.takePair
  split
  · rfl
  · unfold Node.relayTrip
    split
    · have hline := n.offer_trip_line { number := evSucc m, source := .relay, detail := sender }
      refine (Node.adoptPair_fate
        (n := n.offer (.trip { number := evSucc m, source := .relay, detail := sender })) (evSucc m) .trip
        (by rw [hline]; exact ho)).trans ?_
      rw [Node.fate, hline]
      rfl
    · rfl
  · have hadopted := n.adoptPair_fate m s ho
    dsimp only
    split <;> exact hadopted

/-- The own ENACT sent: its fate, and its pair taken by Table 5-2 (R88, R102). -/
theorem Node.enactSent_taken (p : EnactPayload) {n : Node} (hm : n.mild) (ho : n.line.own = none) :
    (n.enactSent p).finish.stance = n.stance.take n.active
        (n.line.judge p.number p.target (decide (p.target = .standstill))) n.config.station p.number
        p.target none ∧
      (n.enactSent p).finish.line.enact = none ∧
      (n.enactSent p).finish.line.lastOutcome = (n.line.enactFate .sent).lastOutcome := by
  obtain ⟨b, hb⟩ : ∃ b : Node, b = { n with line := n.line.enactFate .sent } := ⟨_, rfl⟩
  have hbo : b.line.own = none := by rw [hb]; exact ho
  have hbm : b.mild := by rw [hb]; exact hm
  have hsent : n.enactSent p =
      b.takePair n.config.station p.number p.target (decide (p.target = .standstill)) none := by
    rw [hb]
    rfl
  obtain ⟨hstance, hmild⟩ :=
    b.takePair_stance n.config.station p.number p.target (decide (p.target = .standstill)) none
  have hfate := b.takePair_fate n.config.station p.number p.target (decide (p.target = .standstill))
    none hbo
  rw [hsent]
  generalize b.takePair _ _ _ _ _ = t at hstance hmild hfate
  rw [hb] at hstance hfate
  simp only [Node.fate, Prod.mk.injEq] at hfate
  obtain ⟨hown, henact, hlast⟩ := hfate
  have hline := Node.upToFollowing_line
    (Node.finish_upToFollowing (hmild hbm) (hown.trans (by exact ho)))
  rw [(Node.finish_stance (hmild hbm)).1, hline, henact, hlast]
  exact ⟨hstance, rfl, rfl⟩

/-- An own ENACT that was PENDING has its fate as the last own outcome (R102). -/
theorem LineState.enactFate_pending {l : LineState} {i : ProposalId} (fate : EnactFate)
    (h : l.lastOutcome = some { id := i, outcome := .enacted .pending }) :
    (l.enactFate fate).lastOutcome = some { id := i, outcome := .enacted fate } := by
  simp [LineState.enactFate, h]

/-! #### The own PROPOSE sent (R97, R100, R132) -/

section

variable {i : ProposalId} {n : Node} {o : OwnProposal} (ho : n.line.own = some o) (hi : o.id = i)
  (hp : o.phase = .queued)

include ho hi hp

/-- The vote begins among the PRESENT stations (R97, R132). -/
theorem Node.proposeSent_votes (he : n.roster.electorate ≠ []) : n.proposeSent i =
    { n with line.own := some { o with phase := .voting n.roster.electorate [] 0 } } := by
  simp only [Node.proposeSent, ho]
  rw [if_pos ⟨hi, hp⟩, if_neg (by simpa using he)]

/-- With no such station the proposal ends ENACTED at once, and its ENACT is queued (R97, R100, R102). -/
theorem Node.proposeSent_enacts (he : n.roster.electorate = []) (ha : n.active = true)
    (hroom : n.bus.queue.length < 16) :
    let t := n.proposeSent i
    t.line.own = none ∧ t.line.enact = some { id := o.id, number := evSucc o.base } ∧
      t.line.lastOutcome = some { id := o.id, outcome := .enacted .pending } ∧
      t.bus.queue = n.bus.queue ++ [QueuedFrame.fresh
        (.enact { id := o.id, base := o.base, number := evSucc o.base, target := o.target }) false] ∧
      t.faults.reported = n.faults.reported := by
  obtain ⟨v, hv⟩ : ∃ v : Node, v =
      { n with line.own := some { o with phase := .voting n.roster.electorate [] 0 } } := ⟨_, rfl⟩
  obtain ⟨m, hm⟩ : ∃ m : Node, m = { v.endOwn (.enacted .pending) with
      line.enact := some { id := o.id, number := evSucc o.base } } := ⟨_, rfl⟩
  have hsent : n.proposeSent i = m.offer
      (.enact { id := o.id, base := o.base, number := evSucc o.base, target := o.target }) := by
    simp only [Node.proposeSent, ho]
    rw [if_pos ⟨hi, hp⟩, if_pos (by simpa using he), hm, hv]
    rfl
  have hbus : m.bus = n.bus := by simp [hm, hv]
  have hline := (Node.endOwn_ends (n := v) (.enacted .pending) (by rw [hv])).1
  intro t
  have ht : t = m.joinQueue (QueuedFrame.fresh
      (.enact { id := o.id, base := o.base, number := evSucc o.base, target := o.target }) false) := by
    refine hsent.trans (Node.offer_room _ m ?_ (decide_eq_false (Nat.not_le.2 ?_)))
    · rw [Node.active, hbus]
      exact ha
    · rw [hbus]
      exact hroom
  rw [ht]
  refine ⟨?_, ?_, ?_, ?_, ?_⟩
  · simp [Node.joinQueue, hm]
  · simp [Node.joinQueue, hm]
  · simp [Node.joinQueue, hm, hline]
  · simp [Node.joinQueue, hbus]
  · simp [Node.joinQueue, hm, hv]

end

/-- A frame that a withdrawal sent takes the station OFFLINE (R149). -/
theorem Node.frameSent_ofWithdrawal {q : QueuedFrame} {n : Node} (hw : q.ofWithdrawal = true)
    (hr : n.faults.reported = []) : (n.frameSent q).finish.WentOffline n := by
  obtain ⟨hwent, hfaults⟩ := n.enterOffline_wentOffline
  have hsent : n.frameSent q = n.enterOffline := if_pos hw
  rw [hsent, Node.finish_nil _ (by rw [hfaults]; exact hr)]
  exact hwent.settle

/-- Table 5-2 adopts the pair of an own ENACT: its target clears a TRIP when it is STANDSTILL (R88). -/
def LineState.AdoptsEnact (p : EnactPayload) (l : LineState) : Prop :=
  l.view = .unknown ∨ (l.view = .trip ∧ evNewer p.number l.number = true ∧ p.target = .standstill) ∨
    (l.view ≠ .unknown ∧ l.view ≠ .trip ∧
      (evNewer p.number l.number = true ∨ (p.number = l.number ∧ p.target.rank < l.view.rank)))

theorem LineState.judge_enact (l : LineState) (p : EnactPayload) :
    (l.AdoptsEnact p → l.judge p.number p.target (decide (p.target = .standstill)) = .adopt) ∧
    (¬l.AdoptsEnact p → l.view ≠ .trip →
      l.judge p.number p.target (decide (p.target = .standstill)) = .ignore) := by
  unfold LineState.AdoptsEnact
  have hadopt := l.judge_adopt p.number p.target (decide (p.target = .standstill))
  have hrelay := l.judge_relay p.number p.target (decide (p.target = .standstill))
  refine ⟨fun h => hadopt.2 ?_, fun h hv => ?_⟩
  · grind
  · cases hd : l.judge p.number p.target (decide (p.target = .standstill)) with
    | ignore => rfl
    | adopt => exact absurd (hadopt.1 hd) (by grind)
    | relay => exact absurd (hrelay.1 hd).1 hv

/-! #### What TRANSMIT_COMPLETE comes to -/

section

variable {before after : List QueuedFrame} {q : QueuedFrame} {n : Node} (h : n.Sends before q after)
  (hr : n.faults.reported = [])

include h hr

/-- A frame that no block waits for leaves nothing to follow (R141). -/
theorem Node.Sends.complete_unwaited (hf : (n.sentOut (before ++ after)).frameSent q =
      n.sentOut (before ++ after)) (hl : n.linesFollow) (hc : n.countersFollow) (hu : n.Unheld) :
    n.transmitComplete = n.sentOut (before ++ after) := by
  rw [h.transmitComplete_eq, hf]
  exact Node.finish_unheld hr (Node.linesFollow_of_bearing (n.sentOut_bearing _) hl)
    (Node.countersFollow_of_followers (n.sentOut_followers _) hc)
    (Node.unheld_of_bearing (n.sentOut_bearing _) hu)

/-- A HANDOFF is reported as sent (R67). -/
theorem Node.Sends.complete_handoff {p : HandoffPayload} (hw : q.ofWithdrawal = false)
    (hq : q.withdrawn = false) (hf : q.frame = .handoff p) (hquiet : n.quiet) :
    n.transmitComplete = (n.sentOut (before ++ after)).report (CounterEvent.handoffSent 0) := by
  rw [h.transmitComplete_eq, ((n.sentOut _).frameSent_awaited hw hq).1 p hf]
  obtain ⟨-, -, hown⟩ := Node.of_quiet hquiet
  exact Node.finish_still hquiet ((Node.report_followers _ _).trans (n.sentOut_followers _))
    (by simpa [Node.sentOut] using hown) (by simpa [Node.sentOut] using hr)

omit hr in
/-- The own ENACT sent has its fate, and its pair is taken (R88, R102). -/
theorem Node.Sends.complete_enact {p : EnactPayload} (hw : q.ofWithdrawal = false)
    (hq : q.withdrawn = false) (hf : q.frame = .enact p) (hquiet : n.quiet) :
    n.transmitComplete.stance = n.stance.take n.active
        (n.line.judge p.number p.target (decide (p.target = .standstill))) n.config.station p.number
        p.target none ∧
      n.transmitComplete.line.enact = none ∧
      n.transmitComplete.line.lastOutcome = (n.line.enactFate .sent).lastOutcome := by
  rw [h.transmitComplete_eq, ((n.sentOut _).frameSent_awaited hw hq).2.2 p hf]
  obtain ⟨-, -, hown⟩ := Node.of_quiet hquiet
  exact Node.enactSent_taken p (n := n.sentOut _) (Node.mild_of_quiet hquiet rfl) hown

/-- The own PROPOSE sent begins the vote (R97, R132). -/
theorem Node.Sends.complete_votes {p : ProposePayload} {o : OwnProposal} (hw : q.ofWithdrawal = false)
    (hq : q.withdrawn = false) (hf : q.frame = .propose p) (ho : n.line.own = some o) (hi : o.id = p.id)
    (hp : o.phase = .queued) (he : n.roster.electorate ≠ []) (hl : n.linesFollow)
    (hh : n.holdReasons o.target = []) :
    n.transmitComplete.bus.queue = before ++ after ∧ n.transmitComplete.bus.lde = false ∧
      n.transmitComplete.line =
        { n.line with own := some { o with phase := .voting n.roster.electorate [] 0 } } := by
  obtain ⟨m, hm⟩ : ∃ m : Node, m = { n.sentOut (before ++ after) with
      line.own := some { o with phase := .voting n.roster.electorate [] 0 } } := ⟨_, rfl⟩
  have hsent : (n.sentOut (before ++ after)).proposeSent p.id = m := by
    rw [hm]
    exact Node.proposeSent_votes (n := n.sentOut _) ho hi hp he
  have hml : m.linesFollow := by
    rw [hm]
    exact Node.linesFollow_congr (n := n) rfl rfl rfl rfl rfl rfl rfl hl
  have hmu : m.Unheld := by
    rw [hm]
    exact Node.unheld_of_own rfl hh
  have hdone : n.transmitComplete = m.followConditions := by
    rw [h.transmitComplete_eq, ((n.sentOut _).frameSent_awaited hw hq).2.1 p hf, hsent,
      Node.finish_nil m (by rw [hm]; exact hr), Node.settle_unheld hml hmu]
  have hline := Node.line_of_bearing m.followConditions_bearing
  have hbus : m.followConditions.bus = m.bus := by simp
  rw [hdone, hline, hbus, hm]
  exact ⟨rfl, rfl, rfl⟩

/-- With no PRESENT station the own PROPOSE sent ends the proposal ENACTED (R97, R100, R102). -/
theorem Node.Sends.complete_enacts {p : ProposePayload} {o : OwnProposal} (hw : q.ofWithdrawal = false)
    (hq : q.withdrawn = false) (hf : q.frame = .propose p) (ho : n.line.own = some o) (hi : o.id = p.id)
    (hp : o.phase = .queued) (he : n.roster.electorate = []) (ha : n.active = true)
    (hroom : before.length + after.length < 16) :
    n.transmitComplete.line.own = none ∧
      n.transmitComplete.line.enact = some { id := o.id, number := evSucc o.base } ∧
      n.transmitComplete.line.lastOutcome = some { id := o.id, outcome := .enacted .pending } ∧
      n.transmitComplete.bus.queue = before ++ after ++ [QueuedFrame.fresh
        (.enact { id := o.id, base := o.base, number := evSucc o.base, target := o.target }) false] := by
  obtain ⟨hown, henact, hlast, hqueue, hreported⟩ := Node.proposeSent_enacts
    (n := n.sentOut (before ++ after)) ho hi hp he ha (by simpa [Node.sentOut] using hroom)
  rw [h.transmitComplete_eq, ((n.sentOut _).frameSent_awaited hw hq).2.1 p hf,
    Node.finish_nil _ (hreported.trans hr)]
  generalize Node.proposeSent p.id (n.sentOut (before ++ after)) = t at *
  obtain ⟨hline, hbus, -⟩ := t.settle_none hown
  rw [hline, hbus]
  exact ⟨hown, henact, hlast, hqueue⟩

end

/-- Settles O59: the frame out of the queue, then what each block makes of it. -/
theorem transmitCompleteRemovesTheFrame : Obligations.TransmitCompleteRemovesTheFrame := by
  refine ⟨fun s => ?_, recessiveTail_bounds⟩
  intro tap
  refine ⟨fun h => State.act_same ?_,
    fun before q after hpart hqueue htransmission hbefore hr => ?_⟩
  · rw [Node.transmitComplete, Node.sending_none h]
  have h : s.node.Sends before q after :=
    ⟨s.node.configured_eq_true.2 hpart, hqueue, htransmission, hbefore⟩
  have hunwaited := (s.node.sentOut (before ++ after)).frameSent_unwaited (q := q)
  refine ⟨fun hw h1 h2 h3 hquiet => ?_, fun hw hq hcalm hl hc hu => ?_, fun p hw hq hf hquiet => ?_,
    fun p hw hq hf hquiet => ?_, fun p o hw hq hf ho hi hp he hl hh => ?_,
    fun p o hw hq hf ho hi hp he hl hh ha hroom => ?_, fun hw => ?_⟩
  · obtain ⟨-, hl, hc, hown⟩ := hquiet
    exact State.act_eq (h.complete_unwaited hr (hunwaited hw (.inr ⟨h1, h2, h3⟩)) hl hc
      (Node.unheld_of_none hown))
  · exact State.act_eq (h.complete_unwaited hr (hunwaited hw (.inl hq)) hl hc hu)
  · exact State.act_eq ((h.complete_handoff hr hw hq hf hquiet).trans (Node.report_setBus _ _ _))
  · obtain ⟨hstance, henact, hlast⟩ := h.complete_enact hw hq hf hquiet
    obtain ⟨hadopt, hignore⟩ := s.node.line.judge_enact p
    refine ⟨_, State.act_eq rfl, rfl, henact, fun i hi => ?_, fun ha => ?_, fun hn hv => ?_⟩
    · exact hlast.trans (LineState.enactFate_pending .sent hi)
    · rw [hadopt ha] at hstance
      exact ⟨congrArg Stance.view hstance, congrArg Stance.number hstance⟩
    · rw [hignore hn hv] at hstance
      exact ⟨congrArg Stance.view hstance, congrArg Stance.number hstance⟩
  · exact ⟨_, State.act_eq rfl, rfl, h.complete_votes hr hw hq hf ho hi hp he hl hh⟩
  · exact ⟨_, State.act_eq rfl, rfl, h.complete_enacts hr hw hq hf ho hi hp he ha hroom⟩
  · have hwent := Node.frameSent_ofWithdrawal (n := s.node.sentOut (before ++ after)) hw hr
    rw [← h.transmitComplete_eq] at hwent
    exact ⟨_, State.act_eq rfl, rfl, hwent.participation, hwent.queue, hwent.lde⟩

end Sys2Proof.Machine

namespace Sys2Proof.Machine

/-! #### COLLISION (R143, log 39) -/

/-- The own frame is cut at a bit read back dominant, `queue` kept: the line is released, and not idle
(R135, R143; log 39). -/
def Node.cutOff (queue : List QueuedFrame) (n : Node) : Node :=
  { n with
    bus.queue := queue
    bus.lde := false
    bus.ltx := []
    bus.idleCount := 0
    bus.tap := { n.bus.tap with lrx := true, recessive := 0, driven := 0, clash := false } }

/-- The frame as it waits for another attempt (R143). -/
def QueuedFrame.again (q : QueuedFrame) : QueuedFrame :=
  { q with inTransmission := false, collisions := q.collisions + 1 }

section

variable {before after : List QueuedFrame} {q : QueuedFrame} {n : Node} (h : n.Sends before q after)

include h

theorem Node.Sends.leaveQueue_cutOff : n.lineDominant.leaveQueue = n.cutOff (before ++ after) := by
  rw [← h.oldest.2]
  rfl

theorem Node.Sends.retry_cutOff : n.lineDominant.retry = n.cutOff (before ++ q.again :: after) := by
  have hchange : changeFirst (fun q => q.inTransmission)
      (fun q => { q with inTransmission := false, collisions := q.collisions + 1 }) n.bus.queue =
      before ++ q.again :: after := by
    rw [h.queue]
    exact changeFirst_oldest _ after h.still h.inTransmission
  rw [← hchange]
  rfl

/-- A collision by what becomes of the frame (R141, R143). -/
theorem Node.Sends.collision_eq : n.collision =
    if q.withdrawn then (n.cutOff (before ++ after)).collided.finish
    else if 16 ≤ q.collisions + 1 then n.lineDominant.abandonFrame q
    else (n.cutOff (before ++ q.again :: after)).collided.finish := by
  rw [← h.leaveQueue_cutOff, ← h.retry_cutOff, Node.collision, h.sending_eq]
  rfl

end

/-- A fault that is not FATAL, counted and reported with an event of the line, is all there is to follow
(R143, R170, R183). -/
theorem Node.faultReported_finish {k : FaultKind} (e : CounterEvent) (hk : mildKind k = true)
    (hd : FaultKind.frameDropped.index ≠ k.index) {n : Node} (hc : n.calm) (ho : n.line.own = none)
    (hl : n.linesFollow) : ((n.fault k).report e).finish.upToReports n ∧
      ((n.fault k).report e).finish.countedOnce k n := by
  obtain ⟨m, hm⟩ : ∃ m : Node, m = n.report e := ⟨_, rfl⟩
  have hmf : m.faults = n.faults := by simp [hm]
  have hml : m.linesFollow := by
    rw [hm]
    exact Node.linesFollow_of_followers (Node.report_followers _ _) hl
  have hmc : m.calm := by
    rw [Node.calm, hmf]
    exact hc
  have hmm := Node.mild_of_calm hmc
  obtain ⟨-, hcount, hlines⟩ := Node.finish_fault k m hmc.1 hmc.2 (m.faultClass_mild k hmm hk) hd
    (by simpa [hm] using ho)
  have hup : (m.fault k).upToFollowing n :=
    Node.upToFollowing_trans (m.waits_upToFollowing _) (hm ▸ n.report_upToFollowing e)
  have hdone := Node.finish_comesTo hup (Node.fault_mild hk hmm) ho hc.2
  have hsame : m.prot.lines = n.prot.lines := by simp [hm]
  rw [hlines hml, hsame] at hdone
  rw [Node.countedOnce, hmf] at hcount
  rw [← Node.fault_report, ← hm]
  exact ⟨hdone, hcount⟩

/-- A frame abandoned as its two faults wait (R143). -/
def Node.abandoning (q : QueuedFrame) (n : Node) : Node :=
  ((n.collided).frameLost q).fault .transmitAbandoned

theorem Node.abandoning_faults (q : QueuedFrame) (n : Node) : (n.abandoning q).faults =
    { n.faults with reported := n.faults.reported ++ [{ kind := .collision, silent := false }] ++
        [{ kind := .transmitAbandoned, silent := false }] } := by
  simp [Node.abandoning, Node.collided, Node.fault]

/-- A frame abandoned: both faults are counted, and no fault waits; participation stands (R143, R183). -/
theorem Node.abandoning_finish (q : QueuedFrame) {n : Node} (hc : n.calm) (ho : n.line.own = none) :
    let m := (n.abandoning q).finish
    m.calm ∧ m.bus.participation = n.bus.participation ∧ m.countedOnce .collision n ∧
      m.countedOnce .transmitAbandoned n := by
  have hfaults := n.abandoning_faults q
  have hown : (n.abandoning q).line.own = none :=
    (Node.frameLost_stands q _).own (by simpa [Node.collided, Node.fault] using ho)
  have hmild : (n.abandoning q).mild := by
    rw [Node.mild, hfaults, hc.2]
    exact ⟨hc.1, by simp [mildKind]⟩
  obtain ⟨hstance, hpart, hfmild⟩ := Node.finish_stance hmild
  have hcounts (k : FaultKind) (hd : FaultKind.frameDropped.index ≠ k.index)
      (hone : (n.abandoning q).waiting k = 1) : (n.abandoning q).finish.countedOnce k n := by
    have hcount := Node.finish_counts hd hmild hown
    rw [hone, hfaults] at hcount
    exact hcount
  refine ⟨⟨hfmild.1, (n.abandoning q).finish_reported⟩, hpart.trans ?_, hcounts .collision (by decide) ?_,
    hcounts .transmitAbandoned (by decide) ?_⟩
  · simp [Node.abandoning, Node.collided, Node.fault]
  · rw [Node.waiting, hfaults, hc.2]
    rfl
  · rw [Node.waiting, hfaults, hc.2]
    rfl

/-- A station that goes to LISTEN and one that goes to OFFLINE keep what was detected (R148, R149, R183). -/
theorem Node.enterListen_counts {n : Node} (hp : n.bus.participation = .active)
    (hr : n.faults.reported = []) : n.enterListen.finish.faults = n.faults := by
  have hlisten : n.enterListen = n.leaveFor .listen := by simp [Node.enterListen, hp]
  obtain ⟨-, -, hf⟩ := n.leaveFor_leaves .listen
  rw [hlisten, Node.finish_nil _ (by rw [hf]; exact hr)]
  exact (congrArg Blocks.faults (Node.settle_stands _).blocks).trans hf

theorem Node.enterOffline_finish {n : Node} (hr : n.faults.reported = []) :
    n.enterOffline.finish.WentOffline n ∧ n.enterOffline.finish.faults = n.faults := by
  obtain ⟨hwent, hf⟩ := n.enterOffline_wentOffline
  rw [Node.finish_nil _ (by rw [hf]; exact hr)]
  exact ⟨hwent.settle, (congrArg Blocks.faults (Node.settle_stands _).blocks).trans hf⟩

section

variable {before after : List QueuedFrame} {q : QueuedFrame} {n : Node} (h : n.Sends before q after)
  (hc : n.calm) (ho : n.line.own = none)

include h

theorem Node.Sends.abandonFrame_eq : n.lineDominant.abandonFrame q =
    let m := ((n.cutOff (before ++ after)).abandoning q).finish
    if n.bus.participation = .withdrawing then m.enterOffline.finish
    else if m.active then m.enterListen.finish
    else m := by
  rw [← h.leaveQueue_cutOff]
  rfl

include hc ho

/-- An ACTIVE station that abandons a frame goes to LISTEN (R148). -/
theorem Node.Sends.abandon_active (hp : n.bus.participation = .active) :
    let t := n.lineDominant.abandonFrame q
    t.bus.participation = .listen ∧ t.bus.queue = [] ∧ t.bus.lde = false ∧
      t.noticed Notice.participationChanged = true ∧ t.countedOnce .collision n ∧
      t.countedOnce .transmitAbandoned n := by
  obtain ⟨hcalm, hpart, hone, hother⟩ :=
    Node.abandoning_finish q (n := n.cutOff (before ++ after)) hc ho
  have hnot : ¬ n.bus.participation = .withdrawing := by simp [hp]
  rw [h.abandonFrame_eq, if_neg hnot]
  generalize ((n.cutOff (before ++ after)).abandoning q).finish = m at *
  have hmp : m.bus.participation = .active := hpart.trans hp
  have hma : m.active = true := by simp [Node.active, hmp]
  rw [if_pos hma]
  obtain ⟨hlistens, -⟩ := Node.enterListen_finish m (.inl hmp) hcalm
  obtain ⟨hlisten, hqueue, hlde, -⟩ := hlistens.stopped
  have hf := Node.enterListen_counts hmp hcalm.2
  refine ⟨hlisten, hqueue, hlde, hlistens.changed, ?_, ?_⟩
  · rw [Node.countedOnce, hf]
    exact hone
  · rw [Node.countedOnce, hf]
    exact hother

/-- A WITHDRAWING station that abandons a frame goes to OFFLINE (R149). -/
theorem Node.Sends.abandon_withdrawing (hp : n.bus.participation = .withdrawing) :
    let t := n.lineDominant.abandonFrame q
    (∃ m, t.WentOffline m) ∧ t.countedOnce .collision n ∧ t.countedOnce .transmitAbandoned n := by
  obtain ⟨hcalm, -, hone, hother⟩ := Node.abandoning_finish q (n := n.cutOff (before ++ after)) hc ho
  rw [h.abandonFrame_eq, if_pos hp]
  generalize ((n.cutOff (before ++ after)).abandoning q).finish = m at *
  obtain ⟨hwent, hf⟩ := Node.enterOffline_finish hcalm.2
  refine ⟨⟨m, hwent⟩, ?_, ?_⟩
  · rw [Node.countedOnce, hf]
    exact hone
  · rw [Node.countedOnce, hf]
    exact hother

end

/-- A frame cut and kept or removed is counted and leaves the line released (R141, R143). -/
theorem Node.cutOff_collided (queue : List QueuedFrame) {n : Node} (hq : n.quiet) :
    let t := (n.cutOff queue).collided.finish
    t.countedOnce .collision n ∧ t.bus.lde = false ∧ t.upToReports (n.cutOff queue) := by
  obtain ⟨hcalm, hlines, -, hown⟩ := hq
  obtain ⟨hup, hcount⟩ := Node.faultReported_finish (k := .collision) CounterEvent.collided rfl
    (by decide) (n := n.cutOff queue) hcalm hown
    (Node.linesFollow_of_followers (n := n) rfl hlines)
  obtain ⟨⟨frames, -, he⟩, -⟩ := id hup
  exact ⟨hcount, (congrArg (fun t : Node => t.bus.lde) he :), hup⟩

/-- Settles O60: the frame kept, removed or abandoned (`Node.Sends.collision_eq`). -/
theorem collisionRetriesOrAbandons : Obligations.CollisionRetriesOrAbandons := by
  refine fun s => ⟨fun h => State.act_same ?_,
    fun before q after hpart hquiet hqueue htransmission hbefore => ?_⟩
  · rw [Node.collision, Node.sending_none h]
  intro released
  have hconfigured : s.node.configured = true :=
    s.node.configured_eq_true.2 (by rcases hpart with hp | hp <;> simp [hp])
  have h : s.node.Sends before q after := ⟨hconfigured, hqueue, htransmission, hbefore⟩
  obtain ⟨-, -, hown⟩ := Node.of_quiet hquiet
  refine ⟨_, State.act_eq h.collision_eq, rfl, ?_⟩
  by_cases hw : q.withdrawn = true
  · obtain ⟨hcount, hlde, hup⟩ := Node.cutOff_collided (before ++ after) hquiet
    simp only [hw, if_true]
    exact ⟨hcount, hlde, fun hn => absurd hn (by decide), fun _ => hup, fun hn => absurd hn (by decide)⟩
  · by_cases hlast : 16 ≤ q.collisions + 1
    · rw [if_neg hw, if_pos hlast]
      rcases hpart with hp | hp
      · obtain ⟨hlisten, hempty, hlde, hchanged, hcount, hother⟩ := h.abandon_active hquiet.1 hown hp
        exact ⟨hcount, hlde, fun _ hn => absurd hn (by omega), fun hn => absurd hn hw, fun _ _ =>
          ⟨fun _ => ⟨hlisten, hempty⟩, fun hn => absurd (hp.symm.trans hn) (by decide), hchanged, hother⟩⟩
      · obtain ⟨⟨m, hwent⟩, hcount, hother⟩ := h.abandon_withdrawing hquiet.1 hown hp
        exact ⟨hcount, hwent.lde, fun _ hn => absurd hn (by omega), fun hn => absurd hn hw, fun _ _ =>
          ⟨fun hn => absurd (hp.symm.trans hn) (by decide), fun _ => ⟨hwent.participation, hwent.queue,
            hwent.view, hwent.window, hwent.others⟩, hwent.changed, hother⟩⟩
    · obtain ⟨hcount, hlde, hup⟩ := Node.cutOff_collided (before ++ q.again :: after) hquiet
      rw [if_neg hw, if_neg hlast]
      exact ⟨hcount, hlde, fun _ _ => hup, fun hn => absurd hn hw, fun _ hn => absurd hn hlast⟩

end Sys2Proof.Machine

/-! ### Bad frames, and frames with the own number (R94, R126, R137, R149, R184, log 37) -/

namespace Sys2Proof.Machine

/-! #### A frame discarded (R137) -/

/-- OFFLINE the line's counts alone are set (R137). -/
theorem Node.discard_offline (bytes : List Byte) (badStop : Option Nat) {n : Node}
    (hp : n.bus.participation = .offline) : n.discard bytes badStop = n.lineIdle := by
  simp [Node.discard, Node.configured, Node.receiving, hp]

/-- A station that receives counts a frame by its fault (R137). -/
theorem Node.discard_receiving {bytes : List Byte} {badStop : Option Nat} {n : Node}
    (hr : n.receiving = true) :
    (judge bytes badStop = .checkFail → n.discard bytes badStop = n.lineIdle.checkFailed) ∧
    (judge bytes badStop = .malformed → n.discard bytes badStop = n.lineIdle.malformed) := by
  have hc := n.configured_of_receiving hr
  refine ⟨fun h => ?_, fun h => ?_⟩ <;> simp [Node.discard, hc, hr, h]

/-! #### How bytes are judged (R137, log 37) -/

/-- A failed check (R137). -/
theorem judge_checkFail_iff (bytes : List Byte) (badStop : Option Nat) :
    judge bytes badStop = .checkFail ↔
      ¬ Headed bytes badStop ∨ (fieldAt bytes 2 1 ≤ 96 ∧ ¬ Checked bytes badStop) := by
  by_cases hh : Headed bytes badStop
  · by_cases hl : fieldAt bytes 2 1 ≤ 96
    · by_cases hc : Checked bytes badStop
      · simp [judge_checked hh hl hc, judgeContent_ne_checkFail, hh, hc]
      · simp [judge_unchecked hh hl hc, hl, hc]
    · simp [judge_long hh (Nat.lt_of_not_le hl), hh, hl]
  · simp [judge_headless hh, hh]

/-- Content with a good check that is no frame in its ranges (R137). -/
theorem judge_malformed_iff (bytes : List Byte) (badStop : Option Nat) :
    judge bytes badStop = .malformed ↔ Headed bytes badStop ∧ (96 < fieldAt bytes 2 1 ∨
      (Checked bytes badStop ∧ ∀ sender fill f, stationOk sender = true → frameOk f = true →
        fill.length = 4 → bytes ≠ frameBytes sender fill f)) := by
  have hspelled (hstop : badStop = none) (sender : Nat) (fill : List Byte) (f : Frame)
      (hs : stationOk sender = true) (hf : frameOk f = true) (hfill : fill.length = 4)
      (hb : bytes = frameBytes sender fill f) : judge bytes badStop = .good sender f := by
    rw [hstop, hb]
    exact judge_frameBytes hs hf hfill
  constructor
  · intro h
    have hfail := mt (judge_checkFail_iff bytes badStop).2 (by rw [h]; simp)
    rw [not_or, not_not, not_and_not_right] at hfail
    obtain ⟨hh, hc⟩ := hfail
    refine ⟨hh, (Nat.lt_or_ge 96 _).imp id fun hl => ⟨hc hl, fun sender fill f hs hf hfill hb => ?_⟩⟩
    obtain ⟨⟨hstop, -⟩, -⟩ := hc hl
    have hgood := hspelled hstop sender fill f hs hf hfill hb
    simp [h] at hgood
  · rintro ⟨hh, hl | ⟨hc, hnone⟩⟩
    · exact judge_long hh hl
    · cases hj : judge bytes badStop with
      | malformed => rfl
      | checkFail =>
        rcases (judge_checkFail_iff bytes badStop).1 hj with hbad | ⟨-, hbad⟩
        · exact absurd hh hbad
        · exact absurd hc hbad
      | good sender f =>
        obtain ⟨-, hs, hf, fill, hfill, hb⟩ := judge_good_spells hj
        exact absurd hb (hnone sender fill f hs hf hfill)

/-! #### What a withdrawal leaves of the bus, the line state and the first-fatal record (R94, R149, R184) -/

/-- The first-fatal record when a fault of kind `k` is FATAL (R184). -/
def Node.fatalRecord (k : FaultKind) (n : Node) : FirstFatal :=
  n.faults.firstFatal.getD
    { kind := k, tracking := n.len.tracking, view := n.line.view, participation := n.bus.participation }

theorem Node.recordFatal_eq (k : FaultKind) (n : Node) :
    n.recordFatal k = { n with faults.firstFatal := some (n.fatalRecord k) } := by
  unfold Node.recordFatal Node.fatalRecord
  split
  · next f hf =>
    rw [hf, Option.getD_some, ← hf]
  · next hf =>
    rw [hf]
    rfl

/-- A change to TRIP reported leaves the first-fatal record (R87, R184). -/
theorem Node.viewReported_trip_firstFatal (before : View) (number : Nat) (n : Node) :
    (n.viewReported before .trip number).faults.firstFatal = n.faults.firstFatal := by
  have hmarks (m : Node) : (m.marksOnView before .trip number).faults.firstFatal =
      m.faults.firstFatal := by
    unfold Node.marksOnView
    simp only [View.moving, Bool.false_and, Bool.false_eq_true, if_false]
    split
    · rfl
    · split
      · rw [(m.openSpan_eq .trip number).1]
      · rfl
  unfold Node.viewReported
  rw [Node.stallOnView_still _ _ _ rfl, Node.timerOnView_stands _ _ _ rfl]
  exact hmarks _

theorem Node.adoptPair_trip_firstFatal (m : Nat) (n : Node) :
    (n.adoptPair m .trip).faults.firstFatal = n.faults.firstFatal := by
  obtain ⟨b, hb⟩ : ∃ b : Node, b = { (if m = n.line.number then n else n.numberChanged) with
      line.view := .trip, line.number := m } := ⟨_, rfl⟩
  have hbase : b.faults = n.faults := by
    rw [hb]
    dsimp only
    split
    · rfl
    · simp [Node.numberChanged, Node.abandonOwn]
  have hadopt : n.adoptPair m .trip = if View.trip = n.line.view then b.settle
      else (b.viewReported n.line.view .trip m).settle := by
    rw [hb]
    rfl
  rw [hadopt, ← hbase]
  split
  · simp
  · simpa using b.viewReported_trip_firstFatal n.line.view m

/-- What the withdrawal by a fault of kind `k` makes of a station: its TRIP alone in the queue, no own
proposal, and the first-fatal record (R94, R101, R141, R184). -/
structure Node.Withdrew (k : FaultKind) (number : Nat) (record : FirstFatal) (n : Node) : Prop where
  participation : n.bus.participation = .withdrawing
  queue : n.bus.queue = [QueuedFrame.fresh
    (.trip { number := number, source := .fault, detail := k.code }) true]
  own : n.line.own = none
  tripUnack : n.line.tripUnack = true
  record : n.faults.firstFatal = some record

theorem Node.withdraw_withdrew (k : FaultKind) (n : Node) :
    (n.withdraw k).Withdrew k (evSucc n.line.number) (n.fatalRecord k) := by
  obtain ⟨b, hb⟩ : ∃ b : Node, b = (n.recordFatal k).faultNotice .fatal := ⟨_, rfl⟩
  obtain ⟨c, hc⟩ : ∃ c : Node, c = b.leaveFor .withdrawing := ⟨_, rfl⟩
  have hbline : b.line = n.line ∧ b.faults.firstFatal = some (n.fatalRecord k) := by
    rw [hb, n.recordFatal_eq, Node.faultNotice]
    split <;> exact ⟨rfl, rfl⟩
  obtain ⟨hcp, hcnumber, hcfaults⟩ := hc ▸ b.leaveFor_leaves .withdrawing
  have hleft := hc ▸ b.leaveFor_left .withdrawing
  have hnumber : c.line.number = n.line.number := by rw [hcnumber, hbline.1]
  obtain ⟨p, hp⟩ : ∃ p : AnnouncePayload,
      p = { number := evSucc n.line.number, source := .fault, detail := k.code } := ⟨_, rfl⟩
  obtain ⟨d, hd⟩ : ∃ d : Node, d = c.joinQueue (QueuedFrame.fresh (.trip p) true) := ⟨_, rfl⟩
  have hoffer : c.offerWithdrawal p = d := by
    have hroom : c.queueFull = false := decide_eq_false (by rw [hleft.queue]; decide)
    rw [Node.offerWithdrawal, hroom, hd]
    rfl
  have hdown : d.line.own = none := by rw [hd]; exact hleft.own
  obtain ⟨-, hown, hbus⟩ := d.adoptPair_lesser p.number .trip hdown
  have hfatal := d.adoptPair_trip_firstFatal p.number
  obtain ⟨t, ht⟩ : ∃ t : Node, t = c.fatalTrip k := ⟨_, rfl⟩
  have htrip : t = { d.adoptPair p.number .trip with
      line.tripUnack := true
      line.lastAnnouncement := some
        { trip := true, sender := c.config.station, number := p.number, source := .fault,
          detail := k.code } } := by
    rw [ht, Node.fatalTrip, hnumber, ← hp, hoffer, hp]
  have htown : t.line.own = none := by rw [htrip]; exact hown
  have htbus : t.bus = { c.bus with queue := [QueuedFrame.fresh (.trip p) true] } := by
    rw [htrip]
    refine hbus.trans ?_
    rw [hd, Node.joinQueue, hleft.queue]
    rfl
  have hdone : n.withdraw k = t.settle := by
    rw [ht, hc, hb]
    rfl
  obtain ⟨hline, hsbus, -⟩ := t.settle_none htown
  have hfaults : t.settle.faults = t.faults := congrArg Blocks.faults t.settle_stands.blocks
  rw [hdone]
  refine ⟨?_, ?_, by rw [hline]; exact htown, ?_, ?_⟩
  · rw [hsbus, htbus]
    exact hcp
  · rw [hsbus, htbus, hp]
  · rw [hline, htrip]
  · rw [hfaults, htrip, ← hbline.2, ← hcfaults]
    exact hfatal.trans (by rw [hd]; rfl)

theorem Node.Withdrew.faultNotice {k : FaultKind} {number : Nat} {record : FirstFatal} {n : Node}
    (h : n.Withdrew k number record) (c : FaultClass) : (n.faultNotice c).Withdrew k number record := by
  unfold Node.faultNotice
  split <;> exact { h with }

/-- A WITHDRAWING station counts and notices a fault that follows, and no more (R183, R184). -/
theorem Node.Withdrew.takeFollowing {k : FaultKind} {number : Nat} {record : FirstFatal} {n : Node}
    (h : n.Withdrew k number record) (r : FaultReport) : (n.takeFollowing r).Withdrew k number record := by
  have hoff : n.onLine = false := by simp [Node.onLine, h.participation]
  unfold Node.takeFollowing
  dsimp only
  split
  · rw [hoff]
    exact { h with }
  · exact Node.Withdrew.faultNotice (n := n.countFault r.kind) { h with } _

theorem Node.Withdrew.takeCounted {k : FaultKind} {number : Nat} {record : FirstFatal} {n : Node}
    (h : n.Withdrew k number record) (r : FaultReport) : (n.takeCounted r).Withdrew k number record := by
  unfold Node.takeCounted
  dsimp only
  split
  · exact { h with }
  · exact Node.Withdrew.faultNotice (n := n.countFault r.kind) { h with } _

/-- So does a turn of the Fault Unit (R183). -/
theorem Node.Withdrew.takeReported {take : Node → FaultReport → Node} {k : FaultKind} {number : Nat}
    {record : FirstFatal}
    (ht : ∀ m r, m.Withdrew k number record → (take m r).Withdrew k number record) {n : Node}
    (h : n.Withdrew k number record) : (n.takeReported take).Withdrew k number record := by
  have hbase : (Node.spendOrder n.faults.reported.length { n with faults.reported := [] }).Withdrew k
      number record := { h with }
  exact List.foldlRecOn (n.inOrder n.faults.reported) take
    (motive := fun m => m.Withdrew k number record) hbase fun m hm r _ => ht m r hm

theorem Node.Withdrew.settle {k : FaultKind} {number : Nat} {record : FirstFatal} {n : Node}
    (h : n.Withdrew k number record) : n.settle.Withdrew k number record := by
  obtain ⟨hline, hbus, -⟩ := n.settle_none h.own
  have hfaults : n.settle.faults = n.faults := congrArg Blocks.faults n.settle_stands.blocks
  exact ⟨by rw [hbus]; exact h.participation, by rw [hbus]; exact h.queue, by rw [hline]; exact h.own,
    by rw [hline]; exact h.tripUnack, by rw [hfaults]; exact h.record⟩

theorem Node.WithdrawnAt.settle {number : Nat} {k : FaultKind} {count : Option Nat} {n : Node}
    (h : n.WithdrawnAt number k count) (ho : n.line.own = none) : n.settle.WithdrawnAt number k count := by
  obtain ⟨hline, hbus, -⟩ := n.settle_none ho
  have hfaults : n.settle.faults = n.faults := congrArg Blocks.faults n.settle_stands.blocks
  exact ⟨by rw [hbus]; exact h.participation, by rw [hline]; exact h.view, by rw [hline]; exact h.number,
    by rw [hfaults]; exact h.counted⟩

/-- A FATAL fault that waits alone withdraws a station on the line (R94, R184). -/
theorem Node.takeFaults_withdrew (k : FaultKind) (n : Node) (hon : n.onLine = true)
    (hr : n.faults.reported = [{ kind := k, silent := false }]) (hk : n.faultClass k = .fatal) :
    n.takeFaults.Withdrew k (evSucc n.line.number) (n.fatalRecord k) := by
  obtain ⟨m, hm⟩ : ∃ m, m = (n.noneReported.countFault k).withdraw k := ⟨_, rfl⟩
  have htake : n.takeReported Node.takeFault = m := by
    rw [Node.takeReported_one _ n _ hr, hm]
    exact (if_pos hk).trans (if_pos hon)
  have hwith : m.Withdrew k (evSucc n.line.number) (n.fatalRecord k) :=
    hm ▸ (n.noneReported.countFault k).withdraw_withdrew k
  have hturns := (hwith.takeReported (take := Node.takeFollowing)
    fun _ r h => h.takeFollowing r).takeReported (take := Node.takeCounted) fun _ r h => h.takeCounted r
  rw [← htake] at hturns
  have hsome : ¬ n.faults.reported.isEmpty = true := by simp [hr]
  rw [Node.takeFaults, if_neg hsome]
  exact { hturns with }

/-! #### A frame with the own number (R126) -/

theorem Node.receiving_of_onLine {n : Node} (h : n.onLine = true) : n.receiving = true := by
  unfold Node.onLine at h
  unfold Node.receiving
  cases hp : n.bus.participation <;> simp_all

/-- A good frame with the own number is no frame of another station (R126, R138). -/
theorem Node.receive_own {sender : Nat} {f : Frame} {n : Node} (hs : stationOk sender = true)
    (hf : frameOk f = true) (hr : n.receiving = true) (ho : sender = n.config.station) :
    n.receive sender f = n.lineIdle.duplicateStation := by
  simp [Node.receive, n.configured_of_receiving hr, hr, hf, ho ▸ hs, ho]

/-- A block done with an event has its faults taken of a node that stands, but for an own proposal that a
hold reason has ended first (R100, log 4). -/
theorem Node.finish_takes (n : Node) : ∃ b : Node, b.Stands n ∧ n.finish = b.takeFaults.settle := by
  unfold Node.finish
  split
  · split
    · exact ⟨_, n.spend_stands 2, rfl⟩
    · exact ⟨_, (Node.settle_stands _).trans (n.spend_stands 2), rfl⟩
  · exact ⟨n, .refl n, rfl⟩

/-- A station on the line that receives a frame with its own number (R94, R126, R149, R184). -/
theorem Node.duplicateStation_withdrew {n : Node} (hon : n.onLine = true) (hc : n.calm) :
    n.duplicateStation.Withdrew .duplicateStation (evSucc n.line.number)
        (n.fatalRecord .duplicateStation) ∧
      n.duplicateStation.WithdrawnAt (evSucc n.line.number) .duplicateStation
        ((n.countFault .duplicateStation).faults.counts[FaultKind.duplicateStation.index]?) ∧
      n.duplicateStation.roster = n.roster ∧ n.duplicateStation.len = n.len := by
  obtain ⟨m, hm⟩ : ∃ m : Node,
      m = (n.report (CounterEvent.frameReceived 0)).fault .duplicateStation := ⟨_, rfl⟩
  obtain ⟨b, hb, hfin⟩ := m.finish_takes
  have hblocks : b.blocks = { n.blocks with
      faults := { n.faults with reported := [{ kind := .duplicateStation, silent := false }] } } := by
    rw [hb.blocks, hm]
    simp [Node.blocks, Node.fault, hc.2]
  simp only [Node.blocks, Blocks.mk.injEq] at hblocks
  obtain ⟨-, hlen, -, -, -, hroster, -, hfaults, hview, hnumber, hpart, -⟩ := hblocks
  have hbon : b.onLine = true := by
    rw [Node.onLine, hpart]
    exact hon
  have hbr : b.faults.reported = [{ kind := .duplicateStation, silent := false }] := by rw [hfaults]
  have hrecord : b.fatalRecord .duplicateStation = n.fatalRecord .duplicateStation := by
    rw [Node.fatalRecord, hfaults, hlen, hview, hpart]
    rfl
  have hcount : (b.countFault .duplicateStation).faults.counts =
      (n.countFault .duplicateStation).faults.counts := by
    rw [Node.countFault, hfaults]
    rfl
  have hdone : n.duplicateStation = b.takeFaults.settle := by
    rw [← hfin, hm]
    rfl
  have hwithdrew := b.takeFaults_withdrew .duplicateStation hbon hbr rfl
  have hat := (b.takeFaults_fatal .duplicateStation hbon hbr rfl (by decide) (by decide)).settle hwithdrew.own
  have hrosterKept : b.takeFaults.settle.roster = b.roster := by simp
  have hlenKept : m.finish.len = m.len := m.finish_len
  rw [hrecord, hnumber] at hwithdrew
  rw [hcount, hnumber] at hat
  refine hdone ▸ ⟨hwithdrew.settle, hat, hrosterKept.trans hroster, ?_⟩
  rw [← hfin, hlenKept, hm]
  simp

/-- Settles O55: the faults counted (`Node.faultReported_finish`), the withdrawal
(`Node.duplicateStation_withdrew`), and the judgement by its cases. -/
theorem badAndDuplicateFrames : Obligations.BadAndDuplicateFrames := by
  refine ⟨fun bytes badStop s => ?_, fun c sender f s hreceived hs hf hon hsender hc => ?_,
    fun bytes badStop => ⟨judge_checkFail_iff bytes badStop, (judge_malformed_iff bytes badStop).trans
      (and_congr_right fun _ => or_congr_right and_assoc)⟩⟩
  · intro idle
    refine ⟨fun hp => State.act_eq (Node.discard_offline bytes badStop hp), fun hr hq => ?_⟩
    obtain ⟨hcheck, hmalformed⟩ := Node.discard_receiving (bytes := bytes) (badStop := badStop) hr
    obtain ⟨hcalm, hlines, -, hown⟩ := hq
    have hidle : s.node.lineIdle.linesFollow := Node.linesFollow_of_followers (n := s.node) rfl hlines
    refine ⟨fun hj => ⟨_, State.act_eq (hcheck hj), rfl, ?_⟩,
      fun hj => ⟨_, State.act_eq (hmalformed hj), rfl, ?_⟩⟩
    · exact Node.faultReported_finish (n := s.node.lineIdle) _ rfl (by decide) hcalm hown hidle
    · exact Node.faultReported_finish (n := s.node.lineIdle) _ rfl (by decide) hcalm hown hidle
  · intro number
    have hreceive : s.node.receive sender f = s.node.lineIdle.duplicateStation :=
      Node.receive_own hs hf (Node.receiving_of_onLine hon) hsender
    obtain ⟨hwithdrew, hat, hroster, hlen⟩ :=
      Node.duplicateStation_withdrew (n := s.node.lineIdle) hon hc
    rw [← hreceive] at hwithdrew hat hroster hlen
    exact ⟨_, exec_received s hreceived, rfl, hwithdrew.participation, hwithdrew.queue, hat.view, hat.number,
      hwithdrew.own, hwithdrew.tripUnack,
      hat.counted.trans (s.node.lineIdle.countFault_counted .duplicateStation), hwithdrew.record,
      congrArg Roster.others hroster, congrArg LengthUnit.tracking hlen⟩

end Sys2Proof.Machine
